-- ==== Sys2Proof/Syntax.lean ====
section
/-!
DEFINITION. Sys2Proof/Syntax.lean: the commands (steps) of the device, one constructor for each row of
spec/opcode_table.json, in the table's order, with the row's operands.  A row's operands are what the step cannot
read from the state itself: the unit it concerns, the value that is written, or what the world outside the block
(the glass, a sensor, a rail, the host) brings to it.
-/

namespace Sys2Proof

/-- The three instruction queues of a core (Table 5-5) and the sequencer, numbered as SQ_TRAP.queue (Table 5-19). -/
inductive QueueName where
  | sequencer | matrix | vector | dma
  deriving DecidableEq, Repr

/-- What resets the host interface alone (R389). -/
inductive HostResetCause where
  | functionLevelReset | hotReset | linkDown | perst
  deriving DecidableEq, Repr

/-- The readings of one die position's straps at the strap stage (Table 1-3). -/
structure StrapSet where
  present : Bool
  parityOk : Bool
  kind : Nat
  base : Nat
  slot : Nat
  deriving DecidableEq, Repr

/-- What a checker of the vein code answers to a word (R211): a data symbol corrected by a value, a check symbol corrected, or
neither clean, poisoned nor correctable. -/
inductive VeinAnswer where
  | clean
  | poisoned
  | data (symbol value : Nat)
  | check
  | bad
  deriving DecidableEq, Repr

/-- A checker, numbered as HF_VEIN_BIST bits [32:0], that does not decode as R211 gives: its answer when one of its 16 fixed words
comes with its check bits altered by diff. -/
structure VeinFault where
  checker : Nat
  word : Nat
  diff : BitVec 16
  answer : VeinAnswer
  deriving DecidableEq, Repr

/-- What the world outside the block brings to the end of a boot stage (Table 14-1): whether the stage's own work
succeeded, and the readings of that stage.  Fields a stage does not use are ignored there. -/
structure StageReport where
  /-- stage 1: the flash header is readable and well formed -/
  flashHeaderOk : Bool
  /-- stage 3: the package strap (variant, substrate identifier, valid) -/
  variant : Nat
  substrateId : Nat
  variantValid : Bool
  /-- stage 3: the strap set at each of the 17 positions -/
  straps : List StrapSet
  /-- stage 4: how checkers of the vein code depart from R211 -/
  veinFaults : List VeinFault
  /-- stage 5: base-die links, then compute-die bonds, that trained and checked -/
  linkPass : BitVec 4
  bondPass : BitVec 12
  /-- stage 6: stacks that trained and passed BIST -/
  hbmPass : BitVec 16
  /-- stage 7: physical cores (die x 88 + cluster x 11 + position) that failed BIST -/
  failedCores : List Nat
  /-- stage 8: milliseconds from boot start to host-ready -/
  readyMs : Nat
  deriving DecidableEq, Repr

/-- What one colour of a lane reached in a recalibration sweep (R256): the monitor reading in GHz at the end, and the
currents found, written to the two contour points that bracket the temperature. -/
structure ColourSweep where
  error : Int
  lowPoint : BitVec 64
  highPoint : BitVec 64
  deriving DecidableEq, Repr

/-- One sensor's sample (R444): zone, sensor number, raw oscillator count and trimmed temperature in 1/16 degrees C. -/
structure SensorReading where
  zone : Nat
  sensor : Nat
  count : Nat
  temp : Int
  deriving DecidableEq, Repr

/-- The commands of the block: one constructor for each row of spec/opcode_table.json. -/
inductive Instr where
  /-- REGISTER_WRITE (R24) -/
  | registerWrite (addr size : Nat) (value : BitVec 64)
  /-- RC_READ (R22) -/
  | rcRead (addr size : Nat)
  /-- MODULE_RESET (R40) -/
  | moduleReset
  /-- PWR_EN_ASSERT (R463) -/
  | pwrEnAssert (mainMv auxMv standbyMv : Nat)
  /-- RAIL_STEP_DONE (R463) -/
  | railStepDone
  /-- RAIL_TIMEOUT (R464) -/
  | railTimeout (rail : Nat)
  /-- PWR_EN_DEASSERT (R465) -/
  | pwrEnDeassert
  /-- RAIL_DISCHARGE_STEP (R465) -/
  | railDischargeStep
  /-- BOOT_START (R472) -/
  | bootStart
  /-- BOOT_STAGE_END (R472) -/
  | bootStageEnd (report : StageReport)
  /-- SORARN_WATCHDOG (R488) -/
  | sorarnWatchdog (mgmtCore : Nat)
  /-- HOST_INTERFACE_RESET (R389) -/
  | hostInterfaceReset (cause : HostResetCause)
  /-- PCIE_LINK_TRAINED (R383) -/
  | pcieLinkTrained (gen width : Nat)
  /-- BAR2_READ (R385) -/
  | bar2Read (offset len : Nat)
  /-- BAR2_WRITE (R386) -/
  | bar2Write (offset : Nat) (data : List (BitVec 8)) (ep : Bool)
  /-- SQ_TAIL_DOORBELL (R393) -/
  | sqTailDoorbell (q size : Nat) (value : BitVec 64) (hostStores : List (Nat × List (BitVec 8)))
  /-- CQ_HEAD_DOORBELL (R393) -/
  | cqHeadDoorbell (q size : Nat) (value : BitVec 64)
  /-- COMMAND_BEGIN (R394) -/
  | commandBegin (q : Nat)
  /-- AT_FRAME_BEGIN (R77) -/
  | atFrameBegin (cmd : Nat)
  /-- COMPLETION_POST (R395) -/
  | completionPost (q : Nat)
  /-- NOP (R399) -/
  | nop (cmd : Nat)
  /-- LEGEND_READ (R413) -/
  | legendRead (cmd : Nat)
  /-- QP_CREATE (R399) -/
  | qpCreate (cmd : Nat)
  /-- QP_DELETE (R405) -/
  | qpDelete (cmd : Nat)
  /-- RESET (R399) -/
  | reset (cmd : Nat)
  /-- MODULE_RESET_DELAYED (R403) -/
  | moduleResetDelayed
  /-- MEMORY_INIT_DONE (R150) -/
  | memoryInitDone (die cluster core : Nat)
  /-- SEAM_INIT_DONE (R208) -/
  | seamInitDone (die : Nat)
  /-- REG_WRITE (R406) -/
  | regWrite (cmd : Nat)
  /-- AWAIT_EVENT (R404) -/
  | awaitEvent (cmd : Nat)
  /-- COPY (R399) -/
  | copy (cmd : Nat)
  /-- FILL (R399) -/
  | fill (cmd : Nat)
  /-- ASSAY (R220) -/
  | assay (cmd : Nat)
  /-- ASSAY_COMPLETE (R221) -/
  | assayComplete (cmd : Nat)
  /-- ASSAY_STOP (R221) -/
  | assayStop (cmd : Nat)
  /-- LAUNCH (R402) -/
  | launch (cmd : Nat)
  /-- LAUNCH_COMPLETE (R402) -/
  | launchComplete (cmd : Nat)
  /-- STOP (R399) -/
  | stop (cmd : Nat)
  /-- SPARE_SWAP (R190) -/
  | spareSwap (cmd : Nat)
  /-- BIST (R399) -/
  | bist (cmd : Nat) (pass : Bool)
  /-- OFFLINE (R399) -/
  | offline (cmd : Nat)
  /-- ONLINE (R399) -/
  | online (cmd : Nat) (failedCores : List Nat) (pass : Bool)
  /-- MAP_LOAD (R266) -/
  | mapLoad (cmd : Nat)
  /-- MAP_SWITCH (R268) -/
  | mapSwitch
  /-- EVICT (R438) -/
  | evict (cmd : Nat)
  /-- READMIT (R440) -/
  | readmit (cmd : Nat)
  /-- ROUTE_QUERY (R399) -/
  | routeQuery (cmd : Nat)
  /-- COLL_START (R344) -/
  | collStart (cmd : Nat)
  /-- COLL_CANCEL (R376) -/
  | collCancel (cmd : Nat)
  /-- DIGEST_COMPARE (R381) -/
  | digestCompare (cmd : Nat)
  /-- FAULT_CLEAR (R423) -/
  | faultClear (cmd : Nat)
  /-- FAULT_LOG_READ (R426) -/
  | faultLogRead (cmd : Nat)
  /-- TELEMETRY_READ (R443) -/
  | telemetryRead (cmd : Nat)
  /-- CONTOUR_PERSIST (R480) -/
  | contourPersist (cmd : Nat)
  /-- DRIFT_OFFLINE (R262) -/
  | driftOffline (cmd : Nat)
  /-- DRIFT_RETEST (R262) -/
  | driftRetest (cmd : Nat)
  /-- FW_STAGE (R480) -/
  | fwStage (cmd : Nat)
  /-- FW_HANDOVER (R486) -/
  | fwHandover (cmd : Nat)
  /-- FW_HANDOVER_SWITCH (R487) -/
  | fwHandoverSwitch (component : Nat) (digestOk : Bool)
  /-- FW_HANDOVER_COMPLETE (R487) -/
  | fwHandoverComplete (component : Nat)
  /-- ATTEST (R492) -/
  | attest (cmd : Nat)
  /-- CERT_READ (R490) -/
  | certRead (cmd : Nat)
  /-- TEST_AUTH (R493) -/
  | testAuth (cmd : Nat)
  /-- TEST_AUTH_EXPIRY (R493) -/
  | testAuthExpiry
  /-- ROLLBACK_ADVANCE (R485) -/
  | rollbackAdvance (cmd : Nat)
  /-- THERMAL_READ (R469) -/
  | thermalRead (cmd : Nat)
  /-- CLOCK_LIMIT (R468) -/
  | clockLimit (cmd : Nat)
  /-- REMOTE_CMD (R409) -/
  | remoteCmd (rx : Nat)
  /-- REMOTE_CPL (R410) -/
  | remoteCpl (rx : Nat)
  /-- REMOTE_CMD_TIMEOUT (R410) -/
  | remoteCmdTimeout (cmd : Nat)
  /-- CP_CTRL_ENABLE (R411) -/
  | cpCtrlEnable (value : BitVec 64)
  /-- CP_APERTURE_WRITE (R415) -/
  | cpApertureWrite (k : Nat) (value : BitVec 64)
  /-- FRAME_BOUNDARY (R44) -/
  | frameBoundary
  /-- BATCH_WRITE (R70) -/
  | batchWrite
  /-- GD_BATCH_ARM (R69) -/
  | gdBatchArm (value : BitVec 64)
  /-- GD_BATCH_CANCEL (R73) -/
  | gdBatchCancel (value : BitVec 64)
  /-- GD_CTRL_ENABLE (R63) -/
  | gdCtrlEnable (value : BitVec 64)
  /-- DATUM_ANNOUNCE_SEND (R47) -/
  | datumAnnounceSend
  /-- DATUM_ANNOUNCE (R49) -/
  | datumAnnounce (rx : Nat)
  /-- MASTER_TAKEOVER (R48) -/
  | masterTakeover
  /-- HOLDOVER_ENTRY (R50) -/
  | holdoverEntry
  /-- HOLDOVER_EXPIRED (R51) -/
  | holdoverExpired
  /-- COLD_START_LISTEN_END (R63) -/
  | coldStartListenEnd
  /-- RANGING_SEND (R53) -/
  | rangingSend (port : Nat)
  /-- RANGING_CELL (R56) -/
  | rangingCell (rx : Nat) (arrivalError : Int)
  /-- ALIGNMENT_LOSS (R57) -/
  | alignmentLoss (port colour : Nat)
  /-- SYNC_STEER (R47) -/
  | syncSteer
  /-- GRID_WAIT_RESUME (R76) -/
  | gridWaitResume (core : Nat)
  /-- INSTRUCTION_ISSUE (R156) -/
  | instructionIssue (core : Nat)
  /-- QUEUED_INSTRUCTION_COMPLETE (R158) -/
  | queuedInstructionComplete (core : Nat) (queue : QueueName) (index : Nat)
  /-- ADD (R163) -/
  | sAdd (core : Nat)
  /-- SUB (R163) -/
  | sSub (core : Nat)
  /-- MUL (R163) -/
  | sMul (core : Nat)
  /-- AND (R163) -/
  | sAnd (core : Nat)
  /-- OR (R163) -/
  | sOr (core : Nat)
  /-- XOR (R163) -/
  | sXor (core : Nat)
  /-- SHL (R163) -/
  | sShl (core : Nat)
  /-- SHR (R163) -/
  | sShr (core : Nat)
  /-- SRA (R163) -/
  | sSra (core : Nat)
  /-- SLT (R163) -/
  | slt (core : Nat)
  /-- SLTU (R163) -/
  | sltu (core : Nat)
  /-- MIN (R163) -/
  | sMin (core : Nat)
  /-- MAX (R163) -/
  | sMax (core : Nat)
  /-- LI (R163) -/
  | li (core : Nat)
  /-- LIH (R163) -/
  | lih (core : Nat)
  /-- RDSPR (R163) -/
  | rdspr (core : Nat)
  /-- BEQ (R163) -/
  | beq (core : Nat)
  /-- BNE (R163) -/
  | bne (core : Nat)
  /-- BLT (R163) -/
  | blt (core : Nat)
  /-- BGE (R163) -/
  | bge (core : Nat)
  /-- BLTU (R163) -/
  | bltu (core : Nat)
  /-- BGEU (R163) -/
  | bgeu (core : Nat)
  /-- JMP (R163) -/
  | jmp (core : Nat)
  /-- JAL (R163) -/
  | jal (core : Nat)
  /-- JR (R163) -/
  | jr (core : Nat)
  /-- MRUN (R118) -/
  | mrun (core : Nat)
  /-- MCFG (R165) -/
  | mcfg (core : Nat)
  /-- MFACE (R169) -/
  | mface (core : Nat)
  /-- MDRAIN (R170) -/
  | mdrain (core : Nat)
  /-- DRAIN_ROW_WRITE (R128) -/
  | drainRowWrite (core engine : Nat)
  /-- FADD (R171) -/
  | fadd (core : Nat)
  /-- FSUB (R171) -/
  | fsub (core : Nat)
  /-- FMUL (R171) -/
  | fmul (core : Nat)
  /-- FFMA (R171) -/
  | ffma (core : Nat)
  /-- FMIN (R171) -/
  | fmin (core : Nat)
  /-- FMAX (R171) -/
  | fmax (core : Nat)
  /-- FABS (R171) -/
  | fabs (core : Nat)
  /-- FNEG (R171) -/
  | fneg (core : Nat)
  /-- FCMPEQ (R171) -/
  | fcmpeq (core : Nat)
  /-- FCMPNE (R171) -/
  | fcmpne (core : Nat)
  /-- FCMPLT (R171) -/
  | fcmplt (core : Nat)
  /-- FCMPLE (R171) -/
  | fcmple (core : Nat)
  /-- SELECT (R171) -/
  | select (core : Nat)
  /-- FRECIP (R140) -/
  | frecip (core : Nat)
  /-- FRSQRT (R140) -/
  | frsqrt (core : Nat)
  /-- FSQRT (R140) -/
  | fsqrt (core : Nat)
  /-- FEXP2 (R140) -/
  | fexp2 (core : Nat)
  /-- FLOG2 (R140) -/
  | flog2 (core : Nat)
  /-- FREDADD (R141) -/
  | fredadd (core : Nat)
  /-- FREDMAX (R141) -/
  | fredmax (core : Nat)
  /-- FREDMIN (R141) -/
  | fredmin (core : Nat)
  /-- ROTATE (R142) -/
  | rotate (core : Nat)
  /-- IADD (R139) -/
  | iadd (core : Nat)
  /-- ISUB (R139) -/
  | isub (core : Nat)
  /-- IMUL (R139) -/
  | imul (core : Nat)
  /-- V_AND (R171) -/
  | vAnd (core : Nat)
  /-- V_OR (R171) -/
  | vOr (core : Nat)
  /-- V_XOR (R171) -/
  | vXor (core : Nat)
  /-- V_SHL (R171) -/
  | vShl (core : Nat)
  /-- V_SHR (R171) -/
  | vShr (core : Nat)
  /-- V_SRA (R171) -/
  | vSra (core : Nat)
  /-- IMIN (R171) -/
  | imin (core : Nat)
  /-- IMAX (R171) -/
  | imax (core : Nat)
  /-- ICMPEQ (R171) -/
  | icmpeq (core : Nat)
  /-- ICMPLT (R171) -/
  | icmplt (core : Nat)
  /-- ICMPLTU (R171) -/
  | icmpltu (core : Nat)
  /-- MAND (R171) -/
  | mand (core : Nat)
  /-- MOR (R171) -/
  | mor (core : Nat)
  /-- MXOR (R171) -/
  | mxor (core : Nat)
  /-- MNOT (R171) -/
  | mnot (core : Nat)
  /-- VI_ADD (R172) -/
  | viAdd (core : Nat)
  /-- VI_SUB (R172) -/
  | viSub (core : Nat)
  /-- VI_RSUB (R172) -/
  | viRsub (core : Nat)
  /-- VI_MUL (R172) -/
  | viMul (core : Nat)
  /-- VI_MIN (R172) -/
  | viMin (core : Nat)
  /-- VI_MAX (R172) -/
  | viMax (core : Nat)
  /-- VI_CMPEQ (R172) -/
  | viCmpeq (core : Nat)
  /-- VI_CMPLT (R172) -/
  | viCmplt (core : Nat)
  /-- VI_CMPLE (R172) -/
  | viCmple (core : Nat)
  /-- VI_AND (R172) -/
  | viAnd (core : Nat)
  /-- VI_OR (R172) -/
  | viOr (core : Nat)
  /-- VI_XOR (R172) -/
  | viXor (core : Nat)
  /-- VI_SHL (R172) -/
  | viShl (core : Nat)
  /-- VI_SHR (R172) -/
  | viShr (core : Nat)
  /-- VI_SRA (R172) -/
  | viSra (core : Nat)
  /-- VI_MOV (R172) -/
  | viMov (core : Nat)
  /-- CVT (R173) -/
  | cvt (core : Nat)
  /-- NARROW (R173) -/
  | narrow (core : Nat)
  /-- WIDEN (R173) -/
  | widen (core : Nat)
  /-- VLD (R174) -/
  | vld (core : Nat)
  /-- VST (R174) -/
  | vst (core : Nat)
  /-- SLD (R174) -/
  | sld (core : Nat)
  /-- SST (R174) -/
  | sst (core : Nat)
  /-- ATOM (R176) -/
  | atom (core : Nat)
  /-- DCOPY (R177) -/
  | dcopy (core : Nat)
  /-- DDESC (R177) -/
  | ddesc (core : Nat)
  /-- DGATHER (R178) -/
  | dgather (core : Nat)
  /-- DMA_COPY_END (R179) -/
  | dmaCopyEnd (copy : Nat)
  /-- NARROW_ACCESS_START (R204) -/
  | narrowAccessStart (stack : Nat)
  /-- TWAIT (R180) -/
  | twait (core : Nat)
  /-- TREAD (R181) -/
  | tread (core : Nat)
  /-- TSET (R181) -/
  | tset (core : Nat)
  /-- TADD (R181) -/
  | tadd (core : Nat)
  /-- MSEND (R182) -/
  | msend (core : Nat)
  /-- MESSAGE_SEND (R330) -/
  | messageSend (msg : Nat)
  /-- FENCE (R183) -/
  | fence (core : Nat)
  /-- SWAIT (R158) -/
  | swait (core : Nat)
  /-- SSIG (R159) -/
  | ssig (core : Nat)
  /-- BAR (R184) -/
  | bar (core : Nat)
  /-- GWAIT (R185) -/
  | gwait (core : Nat)
  /-- GREAD (R185) -/
  | gread (core : Nat)
  /-- TRAP (R188) -/
  | trap (core : Nat)
  /-- HALT (R188) -/
  | halt (core : Nat)
  /-- WAIT_LIMIT_EXPIRY (R186) -/
  | waitLimitExpiry (core : Nat)
  /-- SQ_CTRL_RUN (R191) -/
  | sqCtrlRun (core : Nat) (value : BitVec 64)
  /-- SQ_CTRL_STOP (R187) -/
  | sqCtrlStop (core : Nat) (value : BitVec 64)
  /-- SQ_CTRL_RESUME (R188) -/
  | sqCtrlResume (core : Nat) (value : BitVec 64)
  /-- SQ_SR_SEED_WRITE (R98) -/
  | sqSrSeedWrite (core : Nat) (value : BitVec 64)
  /-- HF_HBM_MODE_WRITE (R196) -/
  | hfHbmModeWrite (value : BitVec 64)
  /-- MC_CTRL_OFFLINE (R517) -/
  | mcCtrlOffline (stack : Nat) (value : BitVec 64)
  /-- STACK_TRAINING_DONE (R517) -/
  | stackTrainingDone (stack : Nat) (pass : Bool)
  /-- STACK_CHANGE_DONE (R200) -/
  | stackChangeDone (stack : Nat)
  /-- MC_REPAIR_PROGRAM (R225) -/
  | mcRepairProgram (stack : Nat) (value : BitVec 64)
  /-- MC_REPAIR_QUERY (R225) -/
  | mcRepairQuery (stack : Nat) (value : BitVec 64)
  /-- REPAIR_PROGRAM_DONE (R467) -/
  | repairProgramDone (stack : Nat)
  /-- MC_INJECT_WRITE (R516) -/
  | mcInjectWrite (stack : Nat) (value : BitVec 64)
  /-- CELL_SEND (R289) -/
  | cellSend (port lane slot : Nat) (freqError : Int)
  /-- CELL_RECEIVE (R238) -/
  | cellReceive (port lane slot : Nat) (bytes : List (BitVec 8))
  /-- CELL_LIFETIME_EXPIRY (R290) -/
  | cellLifetimeExpiry (waiting : Nat)
  /-- CAGE_ESCAPE (R296) -/
  | cageEscape (waiting : Nat)
  /-- BELL_SEND (R275) -/
  | bellSend (port slot : Nat)
  /-- CREDIT (R276) -/
  | credit (rx : Nat)
  /-- CONTOUR_UPDATE (R241) -/
  | contourUpdate (drift : Nat)
  /-- DR_CONTOUR_ARM (R243) -/
  | drContourArm (drift : Nat) (value : BitVec 64)
  /-- DR_CONTOUR_CANCEL (R243) -/
  | drContourCancel (drift : Nat) (value : BitVec 64)
  /-- CONTOUR_COMMIT (R244) -/
  | contourCommit (drift : Nat)
  /-- CONTOUR_COPY_DONE (R244) -/
  | contourCopyDone (drift : Nat)
  /-- RECAL_START (R246) -/
  | recalStart (drift lane : Nat)
  /-- RECAL_SWEEP_END (R256) -/
  | recalSweepEnd (drift lane : Nat) (sweep : List ColourSweep)
  /-- RECAL_RETURN (R256) -/
  | recalReturn (drift lane : Nat)
  /-- AUTO_RECAL (R258) -/
  | autoRecal (drift lane : Nat)
  /-- MISDELIVERY_NOTICE_SEND (R247) -/
  | misdeliveryNoticeSend (notice : Nat)
  /-- MISDELIVERY (R248) -/
  | misdelivery (rx : Nat)
  /-- SLOPE_CHECK (R251) -/
  | slopeCheck (drift : Nat)
  /-- HOLD_RELEASE (R253) -/
  | holdRelease (drift : Nat)
  /-- LANE_HOLD_RELEASE (R254) -/
  | laneHoldRelease (drift lane : Nat)
  /-- COLOUR_CHECK_END (R253) -/
  | colourCheckEnd (drift lane : Nat) (pass : Bool)
  /-- DR_CTRL_ENABLE (R262) -/
  | drCtrlEnable (drift : Nat) (value : BitVec 64)
  /-- LANE_CAL_DONE (R261) -/
  | laneCalDone (drift lane : Nat) (pass : Bool)
  /-- LOOPBACK_STAGE (R269) -/
  | loopbackStage (port : Nat) (returned : BitVec 32)
  /-- DR_LANE_RECAL (R257) -/
  | drLaneRecal (drift lane : Nat) (value : BitVec 64)
  /-- DR_LANE_UNQUAR (R257) -/
  | drLaneUnquar (drift lane : Nat) (value : BitVec 64)
  /-- DR_LANE_DISABLE (R262) -/
  | drLaneDisable (drift lane : Nat) (value : BitVec 64)
  /-- FB_CTRL_ENABLE (R411) -/
  | fbCtrlEnable (value : BitVec 64)
  /-- FB_RESURVEY (R269) -/
  | fbResurvey (value : BitVec 64)
  /-- SURVEY_PROBE_SEND (R269) -/
  | surveyProbeSend (port colour : Nat)
  /-- SURVEY_PROBE (R270) -/
  | surveyProbe (rx : Nat)
  /-- SURVEY_REPLY (R271) -/
  | surveyReply (rx : Nat)
  /-- LANE_PROBE (R269) -/
  | laneProbe (rx : Nat)
  /-- SURVEY_ABSENT_TIMEOUT (R271) -/
  | surveyAbsentTimeout (port y : Nat)
  /-- PORT_DEGRADED_RECOVERY (R273) -/
  | portDegradedRecovery (port : Nat)
  /-- FB_PLAN_ARM (R279) -/
  | fbPlanArm (port : Nat) (value : BitVec 64)
  /-- FB_PLAN_CANCEL (R280) -/
  | fbPlanCancel (port : Nat) (value : BitVec 64)
  /-- PLAN_ANNOUNCE_SEND (R280) -/
  | planAnnounceSend (port : Nat)
  /-- PLAN_ANNOUNCE (R283) -/
  | planAnnounce (rx : Nat)
  /-- PLAN_CANCEL (R281) -/
  | planCancel (rx : Nat)
  /-- PLAN_AGREEMENT_CHECK (R280) -/
  | planAgreementCheck (port : Nat)
  /-- PLAN_SWITCH (R282) -/
  | planSwitch (port : Nat)
  /-- PLAN_FALLBACK (R283) -/
  | planFallback (port : Nat)
  /-- EPOCH_ANNOUNCE (R292) -/
  | epochAnnounce (rx : Nat)
  /-- ROUTE_BUILD (R293) -/
  | routeBuild
  /-- EPOCH_SWITCH (R295) -/
  | epochSwitch
  /-- ROW_REQUEST_SEND (R318) -/
  | rowRequestSend (req : Nat)
  /-- ROW_READ_REQUEST (R310) -/
  | rowReadRequest (rx : Nat)
  /-- ROW_WRITE_REQUEST (R310) -/
  | rowWriteRequest (rx : Nat)
  /-- ROW_ATOMIC_REQUEST (R310) -/
  | rowAtomicRequest (rx : Nat)
  /-- ATOMIC_EXECUTE (R322) -/
  | atomicExecute (slot : Nat)
  /-- READ_DATA (R316) -/
  | readData (rx : Nat)
  /-- WRITE_ACK (R319) -/
  | writeAck (rx : Nat)
  /-- ATOMIC_REPLY (R316) -/
  | atomicReply (rx : Nat)
  /-- ROW_REFUSAL (R316) -/
  | rowRefusal (rx : Nat)
  /-- ROW_REQUEST_TIMEOUT (R334) -/
  | rowRequestTimeout (req : Nat)
  /-- MESSAGE_DATA (R331) -/
  | messageData (rx : Nat)
  /-- MESSAGE_ACCEPTED (R330) -/
  | messageAccepted (rx : Nat)
  /-- MESSAGE_REFUSED (R330) -/
  | messageRefused (rx : Nat)
  /-- MESSAGE_TIMEOUT (R334) -/
  | messageTimeout (msg : Nat)
  /-- MESSAGE_ASSEMBLY_TIMEOUT (R332) -/
  | messageAssemblyTimeout (assembly : Nat)
  /-- HF_TALLY_WRITE (R328) -/
  | hfTallyWrite (tally : Nat) (value : BitVec 64)
  /-- HF_MBOX_CONS_WRITE (R333) -/
  | hfMboxConsWrite (mailbox : Nat) (value : BitVec 64)
  /-- HF_MBOX_CTRL_WRITE (R333) -/
  | hfMboxCtrlWrite (mailbox : Nat) (value : BitVec 64)
  /-- CE_SUBMIT (R344) -/
  | ceSubmit (value : BitVec 64)
  /-- CE_CTRL_ENABLE (R411) -/
  | ceCtrlEnable (value : BitVec 64)
  /-- CE_GROUP_VALID (R340) -/
  | ceGroupValid (group : Nat) (value : BitVec 64)
  /-- COLL_BEGIN (R346) -/
  | collBegin (coll : Nat)
  /-- COLLECTIVE_CELL (R351) -/
  | collectiveCell (rx : Nat)
  /-- COLL_CELL_ACCEPT (R337) -/
  | collCellAccept (rx : Nat)
  /-- COLL_DEADLINE (R372) -/
  | collDeadline (coll : Nat)
  /-- COLL_ABORT (R373) -/
  | collAbort (rx : Nat)
  /-- COLL_ABORT_REPEAT (R373) -/
  | collAbortRepeat (abort : Nat)
  /-- COLL_DONE (R374) -/
  | collDone (rx : Nat)
  /-- COLL_DONE_REPEAT (R374) -/
  | collDoneRepeat (coll : Nat)
  /-- DIGEST_REQ (R381) -/
  | digestReq (rx : Nat)
  /-- DIGEST_REP (R381) -/
  | digestRep (rx : Nat)
  /-- FAULT_EVENT (R419) -/
  | faultEvent
  /-- FT_CLEAR_WRITE (R423) -/
  | ftClearWrite (value : BitVec 64)
  /-- FT_CANARY_ENABLE (R430) -/
  | ftCanaryEnable (value : BitVec 64)
  /-- FT_CANARY_REJOIN (R439) -/
  | ftCanaryRejoin (value : BitVec 64)
  /-- HEARTBEAT_SEND (R427) -/
  | heartbeatSend
  /-- HEARTBEAT (R428) -/
  | heartbeat (rx : Nat)
  /-- HEARTBEAT_MISS (R428) -/
  | heartbeatMiss (x : Nat)
  /-- SUSPECT_SEND (R430) -/
  | suspectSend (x : Nat)
  /-- SUSPECT (R431) -/
  | suspect (rx : Nat)
  /-- RETRACT (R430) -/
  | retract (rx : Nat)
  /-- VOTE_LAPSE (R430) -/
  | voteLapse (suspect voter : Nat)
  /-- CANARY_VERDICT (R432) -/
  | canaryVerdict (x : Nat)
  /-- VERDICT_ANNOUNCE_FALLBACK (R432) -/
  | verdictAnnounceFallback (x : Nat)
  /-- SELF_DEAD (R434) -/
  | selfDead (rx : Nat)
  /-- MINORITY_FENCE (R437) -/
  | minorityFence
  /-- MARGIN_SAMPLE (R442) -/
  | marginSample (voltage timing : List Int)
  /-- SENSOR_SAMPLE (R449) -/
  | sensorSample (readings : List SensorReading)
  /-- GRACE_EXPIRY (R451) -/
  | graceExpiry (zone : Nat)
  /-- THERMAL_STEP_DOWN (R451) -/
  | thermalStepDown (zone : Nat)
  /-- THERMAL_STEP_UP (R451) -/
  | thermalStepUp (zone : Nat)
  /-- CRITICAL_STRETCH_END (R452) -/
  | criticalStretchEnd (zone : Nat)
  /-- POWER_SAMPLE (R458) -/
  | powerSample (mainMv mainMa auxMv standbyMv : Nat)
  /-- POWER_STEP_DOWN (R459) -/
  | powerStepDown
  /-- POWER_STEP_UP (R459) -/
  | powerStepUp
  /-- POWER_STRETCH_END (R460) -/
  | powerStretchEnd
  /-- TM_CTRL_ENABLE (R455) -/
  | tmCtrlEnable (value : BitVec 64)
  /-- GREF_PRESENT (R507) -/
  | grefPresent
  /-- GREF_LOST (R507) -/
  | grefLost
  /-- I3C_READ (R505) -/
  | i3cRead (index : Nat)
  /-- I3C_SHUTDOWN_CLEAR (R505) -/
  | i3cShutdownClear (byte : BitVec 8)
  /-- BYPASS (R506) -/
  | bypass (code : Nat) (tdi : Bool)
  /-- IDCODE (R506) -/
  | idcode
  /-- SAMPLE_PRELOAD (R506) -/
  | samplePreload (captured preload : List Bool)
  /-- EXTEST (R506) -/
  | extest (captured preload : List Bool)
  /-- POWER_STATE_CHANGE (R383) -/
  | powerStateChange (d3hot : Bool)
  /-- COALESCING_TIME_EXPIRY (R399) -/
  | coalescingTimeExpiry (q : Nat)
  /-- MAIN_INPUT_APPLIED (R463) -/
  | mainInputApplied (mainMv : Nat)
  deriving DecidableEq, Repr

end Sys2Proof
end

