-- ==== Sys2Proof/Decode.lean ====
section
/-!
DEFINITION. Sys2Proof/Decode.lean: the command that a word of spec/opcode_table.json spells.  The table gives no row any
bits: the steps of the device have no encoding of their own, so no word spells one.  (The 64-bit words of core programs
are decoded in Machine/Operands.lean, the 64-byte command packets in Machine/Flags.lean, the cells in
Machine/Cells.lean.)
-/

namespace Sys2Proof

/-- No row of the table has bits, so no word spells a command. -/
def decodeTableWord (_nbits _w : Nat) : Option Instr := none

end Sys2Proof
end

