-- ==== Sys2Proof/Word.lean ====
section
/-!
DEFINITION. Sys2Proof/Word.lean: the word types of the device.  Registers, instruction words, scalar registers and
datapath words are bit vectors; addresses, counts, unit numbers and frame numbers are natural numbers.
-/

namespace Sys2Proof

/-- A register of register space (R15), an instruction word or a 64-bit check-protected payload half. -/
abbrev Word64 := BitVec 64

/-- One element of a vector register, a scalar register. -/
abbrev Word32 := BitVec 32

/-- A byte of memory. -/
abbrev Byte := BitVec 8

/-- The local address at which register space begins (chapter "About the Vyade Cinum", Register space). -/
def regSpaceBase : Nat := 0x0F0000000000

end Sys2Proof
end

