-- ==== Sys2Proof/Machine/Bits.lean ====
section
/-!
DEFINITION. Sys2Proof/Machine/Bits.lean: bit fields, byte order, two's complement, canonical sparse maps, and the
shape of a register description.  All arithmetic is on natural numbers and integers, narrowed explicitly.
-/

namespace Sys2Proof.Machine

/-- Bits [hi:lo] of a number. -/
def bitsOf (v hi lo : Nat) : Nat := (v >>> lo) % 2 ^ (hi + 1 - lo)

/-- Bit b of a number. -/
def bitAt (v b : Nat) : Bool := v.testBit b

/-- v with bits [hi:lo] replaced by x. -/
def putBits (v hi lo x : Nat) : Nat :=
  v - (bitsOf v hi lo) * 2 ^ lo + (x % 2 ^ (hi + 1 - lo)) * 2 ^ lo

/-- 1 for true. -/
def b2n (b : Bool) : Nat := if b then 1 else 0

/-- Two's complement reading of the low w bits. -/
def sext (w v : Nat) : Int :=
  let u := v % 2 ^ w
  if u < 2 ^ (w - 1) then (u : Int) else (u : Int) - (2 ^ w : Nat)

/-- The low w bits of an integer in two's complement. -/
def wrap (w : Nat) (i : Int) : Nat := (i % ((2 ^ w : Nat) : Int)).toNat

/-- i limited to lo .. hi. -/
def clampI (i lo hi : Int) : Int := if i < lo then lo else if hi < i then hi else i

/-- A count that saturates at the top of w bits. -/
def satAdd (w a b : Nat) : Nat := if a + b < 2 ^ w then a + b else 2 ^ w - 1

/-- The n little-endian bytes of v (R14). -/
def leBytes : Nat → Nat → List Byte
  | 0, _ => []
  | n + 1, v => BitVec.ofNat 8 v :: leBytes n (v / 256)

/-- The number that little-endian bytes spell (R14). -/
def ofLe : List Byte → Nat
  | [] => 0
  | b :: t => b.toNat + 256 * ofLe t

/-- n bytes of a list from an offset, zero past the end. -/
def sliceB (l : List Byte) (off n : Nat) : List Byte :=
  let s := (l.drop off).take n
  s ++ List.replicate (n - s.length) 0

/-- The little-endian field of n bytes at an offset of a packet, entry or record (R14). -/
def leAt (l : List Byte) (off n : Nat) : Nat := ofLe (sliceB l off n)

/-- l with the n bytes from an offset replaced by the little-endian bytes of v. -/
def putLe (l : List Byte) (off n v : Nat) : List Byte :=
  l.take off ++ leBytes n v ++ l.drop (off + n)

/-- n zero bytes. -/
def zeros (n : Nat) : List Byte := List.replicate n 0

/-- A list cut or filled with zero bytes to length n. -/
def padTo (n : Nat) (l : List Byte) : List Byte := sliceB l 0 n

/-- The number of set bits among the low w bits. -/
def popCount (w v : Nat) : Nat := (List.range w).countP (v.testBit ·)

/-- The least number that is at least a and a multiple of n. -/
def roundUp (a n : Nat) : Nat := ((a + n - 1) / n) * n

/-- Replace the element at an index of a list. -/
def setAt {α : Type} (l : List α) (i : Nat) (v : α) : List α := l.set i v

/-- Apply f to the element at an index of a list. -/
def modAt {α : Type} (l : List α) (i : Nat) (f : α → α) : List α := l.modify i f

/-- The number whose n digits of w bits are f 0 .. f (n-1), digit 0 lowest. -/
def packN (w : Nat) : Nat → (Nat → Nat) → Nat
  | 0, _ => 0
  | n + 1, f => packN w n f + (f n % 2 ^ w) * 2 ^ (w * n)

/-- Digit i of w bits. -/
def digit (w v i : Nat) : Nat := (v >>> (w * i)) % 2 ^ w

/-! ### Sparse maps: (key, value) pairs with strictly rising keys, no entry equal to what an unlisted key reads as -/

/-- The value listed at a key. -/
def smFind {α : Type} : List (Nat × α) → Nat → Option α
  | [], _ => none
  | (a, v) :: t, k => if a = k then some v else smFind t k

/-- The value read at a key; an unlisted key reads as dflt key. -/
def smGet {α : Type} (dflt : Nat → α) (m : List (Nat × α)) (k : Nat) : α :=
  match smFind m k with
  | some v => v
  | none => dflt k

/-- Write a key, keeping the canonical form; writing what an unlisted key reads as unlists it. -/
def smPut {α : Type} [DecidableEq α] (dflt : Nat → α) : List (Nat × α) → Nat → α → List (Nat × α)
  | [], k, v => if v = dflt k then [] else [(k, v)]
  | (a, w) :: t, k, v =>
    if a < k then (a, w) :: smPut dflt t k v
    else if v = dflt k then ((a, w) :: t).filter fun e => !decide (e.1 = k)
    else if k = a then (k, v) :: t
    else (k, v) :: (a, w) :: t

/-- Write a key of a map that lists every key written, whatever its value. -/
def smSet {α : Type} : List (Nat × α) → Nat → α → List (Nat × α)
  | [], k, v => [(k, v)]
  | (a, w) :: t, k, v =>
    if k < a then (k, v) :: (a, w) :: t
    else if k = a then (k, v) :: t
    else (a, w) :: smSet t k v

/-- Remove a key. -/
def smDel {α : Type} (m : List (Nat × α)) (k : Nat) : List (Nat × α) := m.filter fun e => !decide (e.1 = k)

/-- Whether every key is above a bound and the rest rises. -/
def smAbove {α : Type} [DecidableEq α] (dflt : Nat → α) : Nat → List (Nat × α) → Bool
  | _, [] => true
  | lo, (a, v) :: t => decide (lo ≤ a) && decide (v ≠ dflt a) && smAbove dflt (a + 1) t

/-- The canonical form: keys strictly rising, no entry equal to the default. -/
def smWf {α : Type} [DecidableEq α] (dflt : Nat → α) (m : List (Nat × α)) : Bool := smAbove dflt 0 m

/-- Keep the entries whose key is outside [lo, hi): every key of the range then reads as its default. -/
def smClear {α : Type} (m : List (Nat × α)) (lo hi : Nat) : List (Nat × α) :=
  m.filter fun e => !(decide (lo ≤ e.1) && decide (e.1 < hi))

/-! ### CRC-64 (R234) -/

/-- One bit of the CRC of ECMA-182. -/
def crcBit (c : Word64) : Word64 :=
  if bitAt c.toNat 63 then (c <<< 1) ^^^ 0x42F0E1EBA9EA3693 else c <<< 1

/-- One byte, most significant bit first. -/
def crcByte (c : Word64) (b : Byte) : Word64 :=
  let x := c ^^^ (BitVec.ofNat 64 b.toNat <<< 56)
  crcBit (crcBit (crcBit (crcBit (crcBit (crcBit (crcBit (crcBit x)))))))

/-- The CRC-64 of R234: start value 0, no final exclusive-or. -/
def crc64 (l : List Byte) : Word64 := l.foldl crcByte 0

/-! ### Registers -/

/-- Bits [hi:lo] of a register. -/
def wget (w : Word64) (hi lo : Nat) : Nat := bitsOf w.toNat hi lo

/-- A register with bits [hi:lo] replaced. -/
def wput (w : Word64) (hi lo x : Nat) : Word64 := BitVec.ofNat 64 (putBits w.toNat hi lo x)

/-- A field of the register at an offset of register space. -/
structure Fld where
  off : Nat
  hi : Nat
  lo : Nat
  deriving DecidableEq, Repr

/-- Access types (Table 0-3). -/
inductive Acc where
  | rw | ro | wo | w1c | rc | st
  deriving DecidableEq, Repr

/-- One field of a register table: its bits, its access type, and whether its description permits writing it while
the block runs (R24). -/
structure FieldDesc where
  hi : Nat
  lo : Nat
  acc : Acc
  live : Bool
  deriving DecidableEq, Repr

/-- One register table: the offset of its first instance, the strides and counts of its indices, its fields, and the
reset value of the fields whose reset is a plain number. -/
structure RegDesc where
  base : Nat
  dims : List (Nat × Nat)
  fields : List FieldDesc
  reset : Nat
  deriving DecidableEq, Repr

/-- What is left of an offset after each index takes its stride. -/
def coversRem : List (Nat × Nat) → Nat → Option Nat
  | [], r => some r
  | (stride, count) :: t, r =>
    if r / stride < count then coversRem t (r % stride) else none

/-- Whether a table has an instance at an offset. -/
def RegDesc.covers (d : RegDesc) (off : Nat) : Bool :=
  decide (d.base ≤ off) && (coversRem d.dims (off - d.base) == some 0)

/-- The bits of the fields of one access type, as a mask. -/
def accMask (fs : List FieldDesc) (p : FieldDesc → Bool) : Nat :=
  fs.foldl (fun m f => if p f then m ||| ((2 ^ (f.hi + 1 - f.lo) - 1) <<< f.lo) else m) 0

end Sys2Proof.Machine
end

