-- ==== Sys2Proof/Machine/Sha.lean ====
section
/-!
DEFINITION. Sys2Proof/Machine/Sha.lean: SHA-256, which the spec names (R479, R482, R491) and FIPS 180-4 defines.
-/

namespace Sys2Proof.Machine

/-- The round constants: the first 32 bits of the fractional parts of the cube roots of the first 64 primes. -/
def shaK0 : List Nat := [
  0x428a2f98, 0x71374491, 0xb5c0fbcf, 0xe9b5dba5, 0x3956c25b, 0x59f111f1, 0x923f82a4, 0xab1c5ed5,
  0xd807aa98, 0x12835b01, 0x243185be, 0x550c7dc3, 0x72be5d74, 0x80deb1fe, 0x9bdc06a7, 0xc19bf174,
  0xe49b69c1, 0xefbe4786, 0x0fc19dc6, 0x240ca1cc, 0x2de92c6f, 0x4a7484aa, 0x5cb0a9dc, 0x76f988da,
  0x983e5152, 0xa831c66d, 0xb00327c8, 0xbf597fc7, 0xc6e00bf3, 0xd5a79147, 0x06ca6351, 0x14292967]
def shaK1 : List Nat := [
  0x27b70a85, 0x2e1b2138, 0x4d2c6dfc, 0x53380d13, 0x650a7354, 0x766a0abb, 0x81c2c92e, 0x92722c85,
  0xa2bfe8a1, 0xa81a664b, 0xc24b8b70, 0xc76c51a3, 0xd192e819, 0xd6990624, 0xf40e3585, 0x106aa070,
  0x19a4c116, 0x1e376c08, 0x2748774c, 0x34b0bcb5, 0x391c0cb3, 0x4ed8aa4a, 0x5b9cca4f, 0x682e6ff3,
  0x748f82ee, 0x78a5636f, 0x84c87814, 0x8cc70208, 0x90befffa, 0xa4506ceb, 0xbef9a3f7, 0xc67178f2]

/-- The starting digest. -/
def shaStart : List Word32 := [
  0x6a09e667, 0xbb67ae85, 0x3c6ef372, 0xa54ff53a, 0x510e527f, 0x9b05688c, 0x1f83d9ab, 0x5be0cd19]

/-- Rotate right. -/
def rotr (x : Word32) (n : Nat) : Word32 := x.rotateRight n

def shaSmall0 (x : Word32) : Word32 := rotr x 7 ^^^ rotr x 18 ^^^ (x >>> 3)
def shaSmall1 (x : Word32) : Word32 := rotr x 17 ^^^ rotr x 19 ^^^ (x >>> 10)
def shaBig0 (x : Word32) : Word32 := rotr x 2 ^^^ rotr x 13 ^^^ rotr x 22
def shaBig1 (x : Word32) : Word32 := rotr x 6 ^^^ rotr x 11 ^^^ rotr x 25

/-- The schedule, newest word first: n more words. -/
def shaExtend : Nat → List Word32 → List Word32
  | 0, w => w
  | n + 1, w => shaExtend n ((shaSmall1 (w.getD 1 0) + w.getD 6 0 + shaSmall0 (w.getD 14 0) + w.getD 15 0) :: w)

/-- One round on the eight working words. -/
def shaRound (s : List Word32) (kw : Word32) : List Word32 :=
  match s with
  | [a, b, c, d, e, f, g, h] =>
    let t1 := h + shaBig1 e + ((e &&& f) ^^^ (~~~e &&& g)) + kw
    let t2 := shaBig0 a + ((a &&& b) ^^^ (a &&& c) ^^^ (b &&& c))
    [t1 + t2, a, b, c, d + t1, e, f, g]
  | _ => s

/-- The big-endian word of four bytes. -/
def beWord (l : List Byte) : Word32 := BitVec.ofNat 32 (l.foldl (fun v b => v * 256 + b.toNat) 0)

/-- The words of a block of 64 bytes. -/
def blockWords (l : List Byte) : List Word32 := (List.range 16).map fun i => beWord ((l.drop (4 * i)).take 4)

/-- One block. -/
def shaBlock (s : List Word32) (block : List Byte) : List Word32 :=
  let w := (shaExtend 48 (blockWords block).reverse).reverse
  let r := ((shaK0 ++ shaK1).zip w).foldl (fun s kw => shaRound s (BitVec.ofNat 32 kw.1 + kw.2)) s
  (s.zip r).map fun p => p.1 + p.2

/-- Blocks of 64 bytes, n of them. -/
def shaBlocks : Nat → List Word32 → List Byte → List Word32
  | 0, s, _ => s
  | n + 1, s, l => shaBlocks n (shaBlock s (l.take 64)) (l.drop 64)

/-- The padded message: 0x80, zeros, and the length in bits in eight big-endian bytes. -/
def shaPad (l : List Byte) : List Byte :=
  l ++ [0x80] ++ zeros ((119 - l.length % 64) % 64) ++ (leBytes 8 (8 * l.length)).reverse

/-- The digest of a message, 32 bytes. -/
def sha256 (l : List Byte) : List Byte :=
  let p := shaPad l
  (shaBlocks (p.length / 64) shaStart p).flatMap fun w => (leBytes 4 w.toNat).reverse

end Sys2Proof.Machine
end

