-- ==== Sys2Proof/Config.lean ====
section
/-!
DEFINITION. Sys2Proof/Config.lean: what the spec leaves open and what one part or one site fixes.  Every constant here
is opaque: it has no body, so no proof can rest on its value.  The types of what strikes guarded words stand before them.
-/

namespace Sys2Proof

/-- A 128-bit word that the vein code guards: a word of memory by an address in it, a word of the faces, accumulators, vector or mask
registers of a core by its number (Machine/CoreOps.lean), an instruction word, the flit word that carries the HBM word of an address,
or a word of a headframe memory (R148, R209, R215). -/
inductive GuardedWord where
  | memory (addr : Nat)
  | register (core word : Nat)
  | instruction (core index : Nat)
  | flit (addr : Nat)
  | headframe
  deriving DecidableEq, Repr

/-- Errors in one guarded word: symbols (0 to 31 data, 32 to 35 check) and what each is changed by (R209). -/
structure Strike where
  word : GuardedWord
  errors : List (Nat × Nat)
  deriving DecidableEq, Repr

end Sys2Proof

namespace Sys2Proof.Config

/-- Values the spec leaves open, drawn one after another (Dev.freeCtr counts them). -/
opaque freeWord : Nat → BitVec 64

/-- The errors that strike guarded words, event by event (Dev.freeCtr counts them): nothing says where or when one strikes. -/
opaque strikes : Nat → List Strike

/-- The serial number of the module (Table 11-13). -/
opaque serial : BitVec 64

/-- The SHA-256 digest in the commit record of the image of a component as manufactured, by byte (R479). -/
opaque factoryDigest : Nat → Nat → BitVec 8

/-- The SHA-256 digest of the boot ROM, fixed at manufacture, by byte (Table 14-7). -/
opaque romDigest : Nat → BitVec 8

/-- The three certificates of the identity region, in DER (R490). -/
opaque certificate : Nat → List (BitVec 8)

/-- Whether a signature over some bytes verifies with a signer certificate that lists a component, or 5 for the test-authority bit
(R482, R483): the bytes, the certificate, the signature, the component. -/
opaque signed : List (BitVec 8) → List (BitVec 8) → List (BitVec 8) → Nat → Bool

/-- The identification code of the test port (R506). -/
opaque idcode : BitVec 32

/-- Spare rows of a stack, and those used at manufacture (Table 6-12). -/
opaque spareTotal : Nat → BitVec 16
opaque spareUsed : Nat → BitVec 16

/-- Whether a stack had replaced a row (MC_REPAIR_ADDR) at manufacture, and how many spares a bank still had then. -/
opaque rowRepaired : Nat → Nat → Bool
opaque bankSpares : Nat → Nat → Nat

end Sys2Proof.Config
end

