-- ==== Sys2Proof/Machine/RegNames.lean ====
section
/-!
DEFINITION. Sys2Proof/Machine/RegNames.lean: the offset of every register in register space, from the base
0x0F00_0000_0000 (R25, Table 0-4 and the register tables of each chapter), and the position of every field.
Core-page registers take the package core number of R34.
-/

namespace Sys2Proof.Machine

/-- HF_PKG_STRAP (Table 1-2) -/
def HF_PKG_STRAP : Nat := 0x100
def HF_PKG_STRAP_substrate_id : Fld := ⟨HF_PKG_STRAP, 31, 16⟩
def HF_PKG_STRAP_variant : Fld := ⟨HF_PKG_STRAP, 7, 4⟩
def HF_PKG_STRAP_valid : Fld := ⟨HF_PKG_STRAP, 0, 0⟩
/-- HF_DIE_STRAP_k (Table 1-3) -/
def HF_DIE_STRAP (k : Nat) : Nat := 0x110 + k * 0x8
def HF_DIE_STRAP_present (k : Nat) : Fld := ⟨(HF_DIE_STRAP k), 15, 15⟩
def HF_DIE_STRAP_parity_ok (k : Nat) : Fld := ⟨(HF_DIE_STRAP k), 14, 14⟩
def HF_DIE_STRAP_in_service (k : Nat) : Fld := ⟨(HF_DIE_STRAP k), 13, 13⟩
def HF_DIE_STRAP_accepted (k : Nat) : Fld := ⟨(HF_DIE_STRAP k), 12, 12⟩
def HF_DIE_STRAP_kind (k : Nat) : Fld := ⟨(HF_DIE_STRAP k), 9, 8⟩
def HF_DIE_STRAP_base (k : Nat) : Fld := ⟨(HF_DIE_STRAP k), 5, 4⟩
def HF_DIE_STRAP_slot (k : Nat) : Fld := ⟨(HF_DIE_STRAP k), 1, 0⟩
/-- HF_HBM_MODE (Table 6-7) -/
def HF_HBM_MODE : Nat := 0x400
def HF_HBM_MODE_lock : Fld := ⟨HF_HBM_MODE, 1, 1⟩
def HF_HBM_MODE_mode : Fld := ⟨HF_HBM_MODE, 0, 0⟩
/-- HF_VEIN_BIST (Table 6-6) -/
def HF_VEIN_BIST : Nat := 0x410
def HF_VEIN_BIST_done : Fld := ⟨HF_VEIN_BIST, 33, 33⟩
def HF_VEIN_BIST_hub : Fld := ⟨HF_VEIN_BIST, 32, 32⟩
def HF_VEIN_BIST_link : Fld := ⟨HF_VEIN_BIST, 31, 28⟩
def HF_VEIN_BIST_die : Fld := ⟨HF_VEIN_BIST, 27, 16⟩
def HF_VEIN_BIST_mc : Fld := ⟨HF_VEIN_BIST, 15, 0⟩
/-- HF_BOOT_STAT (Table 14-11) -/
def HF_BOOT_STAT : Nat := 0x800
def HF_BOOT_STAT_reason : Fld := ⟨HF_BOOT_STAT, 63, 48⟩
def HF_BOOT_STAT_stage : Fld := ⟨HF_BOOT_STAT, 47, 40⟩
def HF_BOOT_STAT_attempts : Fld := ⟨HF_BOOT_STAT, 33, 32⟩
def HF_BOOT_STAT_ready_ms : Fld := ⟨HF_BOOT_STAT, 31, 0⟩
/-- HF_FW_k_RUN (Table 14-12) -/
def HF_FW_RUN (k : Nat) : Nat := 0x820 + k * 0x10
def HF_FW_RUN_state (k : Nat) : Fld := ⟨(HF_FW_RUN k), 49, 48⟩
def HF_FW_RUN_slot (k : Nat) : Fld := ⟨(HF_FW_RUN k), 32, 32⟩
def HF_FW_RUN_version (k : Nat) : Fld := ⟨(HF_FW_RUN k), 31, 0⟩
/-- HF_FW_k_ALT (Table 14-12) -/
def HF_FW_ALT (k : Nat) : Nat := 0x828 + k * 0x10
def HF_FW_ALT_usable (k : Nat) : Fld := ⟨(HF_FW_ALT k), 63, 63⟩
def HF_FW_ALT_version (k : Nat) : Fld := ⟨(HF_FW_ALT k), 31, 0⟩
/-- HF_FW_FRAME_k (Table 14-12) -/
def HF_FW_FRAME (k : Nat) : Nat := 0x870 + k * 0x8
def HF_FW_FRAME_frame (k : Nat) : Fld := ⟨(HF_FW_FRAME k), 63, 0⟩
/-- HF_RB_k (Table 14-13) -/
def HF_RB (k : Nat) : Nat := 0x8a0 + k * 0x8
def HF_RB_used (k : Nat) : Fld := ⟨(HF_RB k), 36, 32⟩
def HF_RB_least (k : Nat) : Fld := ⟨(HF_RB k), 31, 0⟩
/-- HF_AUTH (Table 14-14) -/
def HF_AUTH : Nat := 0x8d0
def HF_AUTH_active : Fld := ⟨HF_AUTH, 63, 63⟩
def HF_AUTH_scope : Fld := ⟨HF_AUTH, 31, 0⟩
/-- HF_AUTH_EXPIRY (Table 14-14) -/
def HF_AUTH_EXPIRY : Nat := 0x8d8
def HF_AUTH_EXPIRY_frame : Fld := ⟨HF_AUTH_EXPIRY, 63, 0⟩
/-- HF_AUTH_NONCE_i (Table 14-14) -/
def HF_AUTH_NONCE (i : Nat) : Nat := 0x8e0 + i * 0x8
def HF_AUTH_NONCE_nonce (i : Nat) : Fld := ⟨(HF_AUTH_NONCE i), 63, 0⟩
/-- HF_ROW_CTRL (Table 9-12) -/
def HF_ROW_CTRL : Nat := 0x10000
def HF_ROW_CTRL_reason : Fld := ⟨HF_ROW_CTRL, 63, 48⟩
def HF_ROW_CTRL_serve : Fld := ⟨HF_ROW_CTRL, 0, 0⟩
/-- HF_ROW_TIMEOUT (Table 9-13) -/
def HF_ROW_TIMEOUT : Nat := 0x10008
def HF_ROW_TIMEOUT_msg : Fld := ⟨HF_ROW_TIMEOUT, 47, 32⟩
def HF_ROW_TIMEOUT_access : Fld := ⟨HF_ROW_TIMEOUT, 15, 0⟩
/-- HF_ROW_REFUSED (Table 9-14) -/
def HF_ROW_REFUSED : Nat := 0x10010
def HF_ROW_REFUSED_reason : Fld := ⟨HF_ROW_REFUSED, 63, 48⟩
def HF_ROW_REFUSED_type : Fld := ⟨HF_ROW_REFUSED, 47, 44⟩
def HF_ROW_REFUSED_region : Fld := ⟨HF_ROW_REFUSED, 43, 32⟩
def HF_ROW_REFUSED_source : Fld := ⟨HF_ROW_REFUSED, 19, 0⟩
/-- HF_ROW_REFUSED_FRAME (Table 9-14) -/
def HF_ROW_REFUSED_FRAME : Nat := 0x10018
def HF_ROW_REFUSED_FRAME_frame : Fld := ⟨HF_ROW_REFUSED_FRAME, 63, 0⟩
/-- HF_ROW_CNT (Table 9-14) -/
def HF_ROW_CNT : Nat := 0x10020
def HF_ROW_CNT_late : Fld := ⟨HF_ROW_CNT, 63, 48⟩
def HF_ROW_CNT_timeouts : Fld := ⟨HF_ROW_CNT, 47, 32⟩
def HF_ROW_CNT_refused : Fld := ⟨HF_ROW_CNT, 31, 0⟩
/-- HF_IMPORT_k_BASE (Table 9-3) -/
def HF_IMPORT_BASE (k : Nat) : Nat := 0x18000 + k * 0x20
def HF_IMPORT_BASE_valid (k : Nat) : Fld := ⟨(HF_IMPORT_BASE k), 63, 63⟩
def HF_IMPORT_BASE_base (k : Nat) : Fld := ⟨(HF_IMPORT_BASE k), 47, 12⟩
/-- HF_IMPORT_k_LIMIT (Table 9-3) -/
def HF_IMPORT_LIMIT (k : Nat) : Nat := 0x18008 + k * 0x20
def HF_IMPORT_LIMIT_limit (k : Nat) : Fld := ⟨(HF_IMPORT_LIMIT k), 47, 12⟩
/-- HF_IMPORT_k_KEY (Table 9-3) -/
def HF_IMPORT_KEY (k : Nat) : Nat := 0x18010 + k * 0x20
def HF_IMPORT_KEY_member_mask (k : Nat) : Fld := ⟨(HF_IMPORT_KEY k), 63, 48⟩
def HF_IMPORT_KEY_region (k : Nat) : Fld := ⟨(HF_IMPORT_KEY k), 43, 32⟩
def HF_IMPORT_KEY_key (k : Nat) : Fld := ⟨(HF_IMPORT_KEY k), 31, 0⟩
/-- HF_REGION_r_BASE (Table 9-2) -/
def HF_REGION_BASE (r : Nat) : Nat := 0x20000 + r * 0x20
def HF_REGION_BASE_valid (r : Nat) : Fld := ⟨(HF_REGION_BASE r), 63, 63⟩
def HF_REGION_BASE_read (r : Nat) : Fld := ⟨(HF_REGION_BASE r), 62, 62⟩
def HF_REGION_BASE_write (r : Nat) : Fld := ⟨(HF_REGION_BASE r), 61, 61⟩
def HF_REGION_BASE_atomic (r : Nat) : Fld := ⟨(HF_REGION_BASE r), 60, 60⟩
def HF_REGION_BASE_base (r : Nat) : Fld := ⟨(HF_REGION_BASE r), 47, 12⟩
/-- HF_REGION_r_LIMIT (Table 9-2) -/
def HF_REGION_LIMIT (r : Nat) : Nat := 0x20008 + r * 0x20
def HF_REGION_LIMIT_limit (r : Nat) : Fld := ⟨(HF_REGION_LIMIT r), 47, 12⟩
/-- HF_REGION_r_KEY (Table 9-2) -/
def HF_REGION_KEY (r : Nat) : Nat := 0x20010 + r * 0x20
def HF_REGION_KEY_src_mask (r : Nat) : Fld := ⟨(HF_REGION_KEY r), 63, 48⟩
def HF_REGION_KEY_key (r : Nat) : Fld := ⟨(HF_REGION_KEY r), 31, 0⟩
/-- HF_REGION_r_CNT (Table 9-2) -/
def HF_REGION_CNT (r : Nat) : Nat := 0x20018 + r * 0x20
def HF_REGION_CNT_refusals (r : Nat) : Fld := ⟨(HF_REGION_CNT r), 31, 0⟩
/-- HF_MBOX_m_CTRL (Table 9-10) -/
def HF_MBOX_CTRL (m : Nat) : Nat := 0x40000 + m * 0x40
def HF_MBOX_CTRL_enable (m : Nat) : Fld := ⟨(HF_MBOX_CTRL m), 63, 63⟩
def HF_MBOX_CTRL_base (m : Nat) : Fld := ⟨(HF_MBOX_CTRL m), 47, 16⟩
def HF_MBOX_CTRL_log2_size (m : Nat) : Fld := ⟨(HF_MBOX_CTRL m), 4, 0⟩
/-- HF_MBOX_m_PROD (Table 9-10) -/
def HF_MBOX_PROD (m : Nat) : Nat := 0x40008 + m * 0x40
def HF_MBOX_PROD_prod (m : Nat) : Fld := ⟨(HF_MBOX_PROD m), 63, 0⟩
/-- HF_MBOX_m_CONS (Table 9-10) -/
def HF_MBOX_CONS (m : Nat) : Nat := 0x40010 + m * 0x40
def HF_MBOX_CONS_cons (m : Nat) : Fld := ⟨(HF_MBOX_CONS m), 63, 0⟩
/-- HF_MBOX_m_TALLY (Table 9-10) -/
def HF_MBOX_TALLY (m : Nat) : Nat := 0x40018 + m * 0x40
def HF_MBOX_TALLY_tally_en (m : Nat) : Fld := ⟨(HF_MBOX_TALLY m), 16, 16⟩
def HF_MBOX_TALLY_tally (m : Nat) : Fld := ⟨(HF_MBOX_TALLY m), 15, 0⟩
/-- HF_MBOX_m_CNT (Table 9-10) -/
def HF_MBOX_CNT (m : Nat) : Nat := 0x40020 + m * 0x40
def HF_MBOX_CNT_accepted (m : Nat) : Fld := ⟨(HF_MBOX_CNT m), 63, 32⟩
def HF_MBOX_CNT_refused (m : Nat) : Fld := ⟨(HF_MBOX_CNT m), 31, 0⟩
/-- HF_TALLY_t (Table 9-7) -/
def HF_TALLY (t : Nat) : Nat := 0x80000 + t * 0x8
def HF_TALLY_error (t : Nat) : Fld := ⟨(HF_TALLY t), 63, 63⟩
def HF_TALLY_count (t : Nat) : Fld := ⟨(HF_TALLY t), 31, 0⟩
/-- GD_CTRL (Table 2-7) -/
def GD_CTRL : Nat := 0x100000
def GD_CTRL_use_ref : Fld := ⟨GD_CTRL, 1, 1⟩
def GD_CTRL_enable : Fld := ⟨GD_CTRL, 0, 0⟩
/-- GD_STATUS (Table 2-8) -/
def GD_STATUS : Nat := 0x100008
def GD_STATUS_aligned_partners : Fld := ⟨GD_STATUS, 15, 8⟩
def GD_STATUS_ref_present : Fld := ⟨GD_STATUS, 7, 7⟩
def GD_STATUS_frame_jumped : Fld := ⟨GD_STATUS, 6, 6⟩
def GD_STATUS_holdover_expired : Fld := ⟨GD_STATUS, 5, 5⟩
def GD_STATUS_state : Fld := ⟨GD_STATUS, 3, 0⟩
/-- GD_FRAME (Table 2-9) -/
def GD_FRAME : Nat := 0x100010
def GD_FRAME_frame : Fld := ⟨GD_FRAME, 63, 0⟩
/-- GD_FRAME_INIT (Table 2-9) -/
def GD_FRAME_INIT : Nat := 0x100018
def GD_FRAME_INIT_init : Fld := ⟨GD_FRAME_INIT, 63, 0⟩
/-- GD_PHASE (Table 2-10) -/
def GD_PHASE : Nat := 0x100020
def GD_PHASE_freq_ppb : Fld := ⟨GD_PHASE, 63, 32⟩
def GD_PHASE_phase_err : Fld := ⟨GD_PHASE, 31, 16⟩
/-- GD_MASTER (Table 2-11) -/
def GD_MASTER : Nat := 0x100028
def GD_MASTER_hops : Fld := ⟨GD_MASTER, 63, 56⟩
def GD_MASTER_generation : Fld := ⟨GD_MASTER, 55, 40⟩
def GD_MASTER_backup_id : Fld := ⟨GD_MASTER, 39, 20⟩
def GD_MASTER_master_id : Fld := ⟨GD_MASTER, 19, 0⟩
/-- GD_HOLDOVER_LIMIT (Table 2-12) -/
def GD_HOLDOVER_LIMIT : Nat := 0x100030
def GD_HOLDOVER_LIMIT_limit : Fld := ⟨GD_HOLDOVER_LIMIT, 31, 0⟩
/-- GD_BATCH_CTRL (Table 2-13) -/
def GD_BATCH_CTRL : Nat := 0x100038
def GD_BATCH_CTRL_cancel : Fld := ⟨GD_BATCH_CTRL, 9, 9⟩
def GD_BATCH_CTRL_arm : Fld := ⟨GD_BATCH_CTRL, 8, 8⟩
def GD_BATCH_CTRL_count : Fld := ⟨GD_BATCH_CTRL, 6, 0⟩
/-- GD_BATCH_FRAME (Table 2-13) -/
def GD_BATCH_FRAME : Nat := 0x100040
def GD_BATCH_FRAME_frame : Fld := ⟨GD_BATCH_FRAME, 63, 0⟩
/-- GD_BATCH_STATUS (Table 2-14) -/
def GD_BATCH_STATUS : Nat := 0x100048
def GD_BATCH_STATUS_block : Fld := ⟨GD_BATCH_STATUS, 37, 32⟩
def GD_BATCH_STATUS_reason : Fld := ⟨GD_BATCH_STATUS, 31, 16⟩
def GD_BATCH_STATUS_conflict : Fld := ⟨GD_BATCH_STATUS, 3, 3⟩
def GD_BATCH_STATUS_state : Fld := ⟨GD_BATCH_STATUS, 2, 0⟩
/-- GD_PENDING (Table 2-15) -/
def GD_PENDING : Nat := 0x100050
def GD_PENDING_die : Fld := ⟨GD_PENDING, 40, 29⟩
def GD_PENDING_mc : Fld := ⟨GD_PENDING, 28, 13⟩
def GD_PENDING_drift : Fld := ⟨GD_PENDING, 12, 7⟩
def GD_PENDING_hub : Fld := ⟨GD_PENDING, 6, 0⟩
/-- GD_NEXT_ADDR (Table 2-16) -/
def GD_NEXT_ADDR : Nat := 0x100058
def GD_NEXT_ADDR_addr : Fld := ⟨GD_NEXT_ADDR, 47, 3⟩
/-- GD_NEXT_DATA (Table 2-16) -/
def GD_NEXT_DATA : Nat := 0x100060
def GD_NEXT_DATA_data : Fld := ⟨GD_NEXT_DATA, 63, 0⟩
/-- GD_SWAP_FAIL (Table 2-17) -/
def GD_SWAP_FAIL : Nat := 0x100068
def GD_SWAP_FAIL_fail_count : Fld := ⟨GD_SWAP_FAIL, 63, 48⟩
def GD_SWAP_FAIL_block : Fld := ⟨GD_SWAP_FAIL, 37, 32⟩
def GD_SWAP_FAIL_reason : Fld := ⟨GD_SWAP_FAIL, 15, 0⟩
/-- GD_SWAP_FAIL_FRAME (Table 2-17) -/
def GD_SWAP_FAIL_FRAME : Nat := 0x100070
def GD_SWAP_FAIL_FRAME_frame : Fld := ⟨GD_SWAP_FAIL_FRAME, 63, 0⟩
/-- GD_RANGE_p_c (Table 2-18) -/
def GD_RANGE (p c : Nat) : Nat := 0x101000 + p * 0x80 + c * 0x8
def GD_RANGE_aligned (p c : Nat) : Fld := ⟨(GD_RANGE p c), 63, 63⟩
def GD_RANGE_out_of_range (p c : Nat) : Fld := ⟨(GD_RANGE p c), 62, 62⟩
def GD_RANGE_last_err (p c : Nat) : Fld := ⟨(GD_RANGE p c), 47, 32⟩
def GD_RANGE_adv_frames (p c : Nat) : Fld := ⟨(GD_RANGE p c), 21, 16⟩
def GD_RANGE_adv_cycles (p c : Nat) : Fld := ⟨(GD_RANGE p c), 14, 6⟩
def GD_RANGE_adv_fine (p c : Nat) : Fld := ⟨(GD_RANGE p c), 4, 0⟩
/-- GD_BATCH_ADDR_k (Table 2-19) -/
def GD_BATCH_ADDR (k : Nat) : Nat := 0x102000 + k * 0x10
def GD_BATCH_ADDR_addr (k : Nat) : Fld := ⟨(GD_BATCH_ADDR k), 47, 3⟩
/-- GD_BATCH_DATA_k (Table 2-19) -/
def GD_BATCH_DATA (k : Nat) : Nat := 0x102008 + k * 0x10
def GD_BATCH_DATA_data (k : Nat) : Fld := ⟨(GD_BATCH_DATA k), 63, 0⟩
/-- SQ_ENG_VALID_e (Table 4-10) -/
def SQ_ENG_VALID (k e : Nat) : Nat := 0x10400800 + k / 80 * 0x1000000 + k % 80 * 0x1000 + e * 0x8
def SQ_ENG_VALID_count (k e : Nat) : Fld := ⟨(SQ_ENG_VALID k e), 63, 0⟩
/-- SQ_ENG_BUBBLE_e (Table 4-10) -/
def SQ_ENG_BUBBLE (k e : Nat) : Nat := 0x10400820 + k / 80 * 0x1000000 + k % 80 * 0x1000 + e * 0x8
def SQ_ENG_BUBBLE_count (k e : Nat) : Fld := ⟨(SQ_ENG_BUBBLE k e), 63, 0⟩
/-- SQ_ENG_HOLD_e (Table 4-10) -/
def SQ_ENG_HOLD (k e : Nat) : Nat := 0x10400840 + k / 80 * 0x1000000 + k % 80 * 0x1000 + e * 0x8
def SQ_ENG_HOLD_count (k e : Nat) : Fld := ⟨(SQ_ENG_HOLD k e), 63, 0⟩
/-- SQ_VEC_ISSUE (Table 4-10) -/
def SQ_VEC_ISSUE (k : Nat) : Nat := 0x10400860 + k / 80 * 0x1000000 + k % 80 * 0x1000
def SQ_VEC_ISSUE_count (k : Nat) : Fld := ⟨(SQ_VEC_ISSUE k), 63, 0⟩
/-- SQ_SCR_EXTWAIT (Table 4-10) -/
def SQ_SCR_EXTWAIT (k : Nat) : Nat := 0x10400868 + k / 80 * 0x1000000 + k % 80 * 0x1000
def SQ_SCR_EXTWAIT_count (k : Nat) : Fld := ⟨(SQ_SCR_EXTWAIT k), 63, 0⟩
/-- SQ_CTRL (Table 5-16) -/
def SQ_CTRL (k : Nat) : Nat := 0x10400000 + k / 80 * 0x1000000 + k % 80 * 0x1000
def SQ_CTRL_stop (k : Nat) : Fld := ⟨(SQ_CTRL k), 2, 2⟩
def SQ_CTRL_resume (k : Nat) : Fld := ⟨(SQ_CTRL k), 1, 1⟩
def SQ_CTRL_run (k : Nat) : Fld := ⟨(SQ_CTRL k), 0, 0⟩
/-- SQ_STATUS (Table 5-17) -/
def SQ_STATUS (k : Nat) : Nat := 0x10400008 + k / 80 * 0x1000000 + k % 80 * 0x1000
def SQ_STATUS_reason (k : Nat) : Fld := ⟨(SQ_STATUS k), 63, 48⟩
def SQ_STATUS_pc (k : Nat) : Fld := ⟨(SQ_STATUS k), 44, 32⟩
def SQ_STATUS_wait (k : Nat) : Fld := ⟨(SQ_STATUS k), 7, 4⟩
def SQ_STATUS_state (k : Nat) : Fld := ⟨(SQ_STATUS k), 2, 0⟩
/-- SQ_ENTRY (Table 5-18) -/
def SQ_ENTRY (k : Nat) : Nat := 0x10400010 + k / 80 * 0x1000000 + k % 80 * 0x1000
def SQ_ENTRY_pc (k : Nat) : Fld := ⟨(SQ_ENTRY k), 12, 0⟩
/-- SQ_TRAP (Table 5-19) -/
def SQ_TRAP (k : Nat) : Nat := 0x10400018 + k / 80 * 0x1000000 + k % 80 * 0x1000
def SQ_TRAP_reason (k : Nat) : Fld := ⟨(SQ_TRAP k), 63, 48⟩
def SQ_TRAP_swcode (k : Nat) : Fld := ⟨(SQ_TRAP k), 47, 32⟩
def SQ_TRAP_queue (k : Nat) : Fld := ⟨(SQ_TRAP k), 31, 30⟩
def SQ_TRAP_pc (k : Nat) : Fld := ⟨(SQ_TRAP k), 28, 16⟩
def SQ_TRAP_code (k : Nat) : Fld := ⟨(SQ_TRAP k), 7, 0⟩
/-- SQ_TRAP_ADDR (Table 5-19) -/
def SQ_TRAP_ADDR (k : Nat) : Nat := 0x10400020 + k / 80 * 0x1000000 + k % 80 * 0x1000
def SQ_TRAP_ADDR_addr (k : Nat) : Fld := ⟨(SQ_TRAP_ADDR k), 63, 0⟩
/-- SQ_WAIT_LIMIT (Table 5-20) -/
def SQ_WAIT_LIMIT (k : Nat) : Nat := 0x10400028 + k / 80 * 0x1000000 + k % 80 * 0x1000
def SQ_WAIT_LIMIT_limit (k : Nat) : Fld := ⟨(SQ_WAIT_LIMIT k), 31, 0⟩
/-- SQ_SR_SEED (Table 5-20) -/
def SQ_SR_SEED (k : Nat) : Nat := 0x10400030 + k / 80 * 0x1000000 + k % 80 * 0x1000
def SQ_SR_SEED_seed (k : Nat) : Fld := ⟨(SQ_SR_SEED k), 63, 0⟩
/-- SQ_SEM (Table 5-21) -/
def SQ_SEM (k : Nat) : Nat := 0x10400038 + k / 80 * 0x1000000 + k % 80 * 0x1000
def SQ_SEM_k (k : Nat) : Fld := ⟨(SQ_SEM k), 63, 0⟩
/-- SQ_DMA_ERR (Table 5-21) -/
def SQ_DMA_ERR (k : Nat) : Nat := 0x10400040 + k / 80 * 0x1000000 + k % 80 * 0x1000
def SQ_DMA_ERR_reason (k : Nat) : Fld := ⟨(SQ_DMA_ERR k), 63, 48⟩
def SQ_DMA_ERR_tally (k : Nat) : Fld := ⟨(SQ_DMA_ERR k), 47, 32⟩
def SQ_DMA_ERR_tally_valid (k : Nat) : Fld := ⟨(SQ_DMA_ERR k), 31, 31⟩
def SQ_DMA_ERR_count (k : Nat) : Fld := ⟨(SQ_DMA_ERR k), 15, 0⟩
/-- SQ_CYCLE (Table 5-21) -/
def SQ_CYCLE (k : Nat) : Nat := 0x10400048 + k / 80 * 0x1000000 + k % 80 * 0x1000
def SQ_CYCLE_cycles (k : Nat) : Fld := ⟨(SQ_CYCLE k), 63, 0⟩
/-- SQ_REMAP_c (Table 5-22) -/
def SQ_REMAP (d c : Nat) : Nat := 0x10001000 + d * 0x1000000 + c * 0x8
def SQ_REMAP_active (d c : Nat) : Fld := ⟨(SQ_REMAP d c), 7, 7⟩
def SQ_REMAP_position (d c : Nat) : Fld := ⟨(SQ_REMAP d c), 3, 0⟩
/-- SQ_SEAM_VEIN (Table 6-14) -/
def SQ_SEAM_VEIN (d : Nat) : Nat := 0x10002000 + d * 0x1000000
def SQ_SEAM_VEIN_corrected (d : Nat) : Fld := ⟨(SQ_SEAM_VEIN d), 63, 32⟩
def SQ_SEAM_VEIN_uncorrectable (d : Nat) : Fld := ⟨(SQ_SEAM_VEIN d), 31, 0⟩
/-- SQ_CORE_VEIN (Table 6-14) -/
def SQ_CORE_VEIN (d : Nat) : Nat := 0x10002008 + d * 0x1000000
def SQ_CORE_VEIN_corrected (d : Nat) : Fld := ⟨(SQ_CORE_VEIN d), 63, 32⟩
def SQ_CORE_VEIN_uncorrectable (d : Nat) : Fld := ⟨(SQ_CORE_VEIN d), 31, 0⟩
/-- MC_CTRL (Table 6-8) -/
def MC_CTRL (s : Nat) : Nat := 0x2000000 + s * 0x10000
def MC_CTRL_offline (s : Nat) : Fld := ⟨(MC_CTRL s), 1, 1⟩
def MC_CTRL_enable (s : Nat) : Fld := ⟨(MC_CTRL s), 0, 0⟩
/-- MC_STATUS (Table 6-9) -/
def MC_STATUS (s : Nat) : Nat := 0x2000008 + s * 0x10000
def MC_STATUS_reason (s : Nat) : Fld := ⟨(MC_STATUS s), 63, 48⟩
def MC_STATUS_state (s : Nat) : Fld := ⟨(MC_STATUS s), 2, 0⟩
/-- MC_NARROW (Table 6-10) -/
def MC_NARROW (s : Nat) : Nat := 0x2000010 + s * 0x10000
def MC_NARROW_depth (s : Nat) : Fld := ⟨(MC_NARROW s), 28, 16⟩
def MC_NARROW_rate (s : Nat) : Fld := ⟨(MC_NARROW s), 3, 0⟩
/-- MC_NARROW_STAT (Table 6-10) -/
def MC_NARROW_STAT (s : Nat) : Nat := 0x2000018 + s * 0x10000
def MC_NARROW_STAT_granted (s : Nat) : Fld := ⟨(MC_NARROW_STAT s), 63, 32⟩
def MC_NARROW_STAT_waited (s : Nat) : Fld := ⟨(MC_NARROW_STAT s), 31, 0⟩
/-- MC_VEIN_COUNT (Table 6-11) -/
def MC_VEIN_COUNT (s : Nat) : Nat := 0x2000020 + s * 0x10000
def MC_VEIN_COUNT_corrected (s : Nat) : Fld := ⟨(MC_VEIN_COUNT s), 63, 32⟩
def MC_VEIN_COUNT_uncorrectable (s : Nat) : Fld := ⟨(MC_VEIN_COUNT s), 31, 0⟩
/-- MC_VEIN_LAST (Table 6-11) -/
def MC_VEIN_LAST (s : Nat) : Nat := 0x2000028 + s * 0x10000
def MC_VEIN_LAST_ue (s : Nat) : Fld := ⟨(MC_VEIN_LAST s), 63, 63⟩
def MC_VEIN_LAST_addr (s : Nat) : Fld := ⟨(MC_VEIN_LAST s), 47, 4⟩
/-- MC_HOT_k (Table 6-11) -/
def MC_HOT (s k : Nat) : Nat := 0x2000100 + s * 0x10000 + k * 0x8
def MC_HOT_count (s k : Nat) : Fld := ⟨(MC_HOT s k), 63, 48⟩
def MC_HOT_addr (s k : Nat) : Fld := ⟨(MC_HOT s k), 47, 4⟩
def MC_HOT_valid (s k : Nat) : Fld := ⟨(MC_HOT s k), 0, 0⟩
/-- MC_REPAIR_STATUS (Table 6-12) -/
def MC_REPAIR_STATUS (s : Nat) : Nat := 0x2000200 + s * 0x10000
def MC_REPAIR_STATUS_reason (s : Nat) : Fld := ⟨(MC_REPAIR_STATUS s), 63, 48⟩
def MC_REPAIR_STATUS_busy (s : Nat) : Fld := ⟨(MC_REPAIR_STATUS s), 39, 39⟩
def MC_REPAIR_STATUS_repaired (s : Nat) : Fld := ⟨(MC_REPAIR_STATUS s), 38, 38⟩
def MC_REPAIR_STATUS_total (s : Nat) : Fld := ⟨(MC_REPAIR_STATUS s), 31, 16⟩
def MC_REPAIR_STATUS_used (s : Nat) : Fld := ⟨(MC_REPAIR_STATUS s), 15, 0⟩
/-- MC_REPAIR_ADDR (Table 6-12) -/
def MC_REPAIR_ADDR (s : Nat) : Nat := 0x2000208 + s * 0x10000
def MC_REPAIR_ADDR_pc (s : Nat) : Fld := ⟨(MC_REPAIR_ADDR s), 31, 27⟩
def MC_REPAIR_ADDR_bank (s : Nat) : Fld := ⟨(MC_REPAIR_ADDR s), 26, 21⟩
def MC_REPAIR_ADDR_sid (s : Nat) : Fld := ⟨(MC_REPAIR_ADDR s), 19, 18⟩
def MC_REPAIR_ADDR_row (s : Nat) : Fld := ⟨(MC_REPAIR_ADDR s), 17, 0⟩
/-- MC_REPAIR_CTRL (Table 6-12) -/
def MC_REPAIR_CTRL (s : Nat) : Nat := 0x2000210 + s * 0x10000
def MC_REPAIR_CTRL_query (s : Nat) : Fld := ⟨(MC_REPAIR_CTRL s), 1, 1⟩
def MC_REPAIR_CTRL_program (s : Nat) : Fld := ⟨(MC_REPAIR_CTRL s), 0, 0⟩
/-- MC_INJECT_ADDR (Table 6-13) -/
def MC_INJECT_ADDR (s : Nat) : Nat := 0x2000300 + s * 0x10000
def MC_INJECT_ADDR_addr (s : Nat) : Fld := ⟨(MC_INJECT_ADDR s), 47, 4⟩
/-- MC_INJECT (Table 6-13) -/
def MC_INJECT (s : Nat) : Nat := 0x2000308 + s * 0x10000
def MC_INJECT_arm (s : Nat) : Fld := ⟨(MC_INJECT s), 63, 63⟩
def MC_INJECT_sym_a (s : Nat) : Fld := ⟨(MC_INJECT s), 23, 18⟩
def MC_INJECT_sym_b (s : Nat) : Fld := ⟨(MC_INJECT s), 17, 12⟩
def MC_INJECT_val_a (s : Nat) : Fld := ⟨(MC_INJECT s), 11, 8⟩
def MC_INJECT_val_b (s : Nat) : Fld := ⟨(MC_INJECT s), 7, 4⟩
/-- DR_CTRL (Table 7-8) -/
def DR_CTRL (n : Nat) : Nat := 0x1000000 + n * 0x100000
def DR_CTRL_auto_recal (n : Nat) : Fld := ⟨(DR_CTRL n), 1, 1⟩
def DR_CTRL_enable (n : Nat) : Fld := ⟨(DR_CTRL n), 0, 0⟩
/-- DR_STATUS (Table 7-9) -/
def DR_STATUS (n : Nat) : Nat := 0x1000008 + n * 0x100000
def DR_STATUS_reason (n : Nat) : Fld := ⟨(DR_STATUS n), 63, 48⟩
def DR_STATUS_hold_cause (n : Nat) : Fld := ⟨(DR_STATUS n), 35, 32⟩
def DR_STATUS_in_service (n : Nat) : Fld := ⟨(DR_STATUS n), 31, 0⟩
/-- DR_TEMP (Table 7-10) -/
def DR_TEMP (n : Nat) : Nat := 0x1000010 + n * 0x100000
def DR_TEMP_sensor (n : Nat) : Fld := ⟨(DR_TEMP n), 34, 32⟩
def DR_TEMP_slope (n : Nat) : Fld := ⟨(DR_TEMP n), 31, 16⟩
def DR_TEMP_temp (n : Nat) : Fld := ⟨(DR_TEMP n), 15, 0⟩
/-- DR_THRESH (Table 7-11) -/
def DR_THRESH (n : Nat) : Nat := 0x1000018 + n * 0x100000
def DR_THRESH_ferr_quar (n : Nat) : Fld := ⟨(DR_THRESH n), 31, 24⟩
def DR_THRESH_ferr_warn (n : Nat) : Fld := ⟨(DR_THRESH n), 23, 16⟩
def DR_THRESH_release_slope (n : Nat) : Fld := ⟨(DR_THRESH n), 15, 8⟩
def DR_THRESH_hold_slope (n : Nat) : Fld := ⟨(DR_THRESH n), 7, 0⟩
/-- DR_RECAL_PERIOD (Table 7-12) -/
def DR_RECAL_PERIOD (n : Nat) : Nat := 0x1000020 + n * 0x100000
def DR_RECAL_PERIOD_seconds (n : Nat) : Fld := ⟨(DR_RECAL_PERIOD n), 31, 0⟩
/-- DR_CONTOUR_FRAME (Table 7-13) -/
def DR_CONTOUR_FRAME (n : Nat) : Nat := 0x1000028 + n * 0x100000
def DR_CONTOUR_FRAME_frame (n : Nat) : Fld := ⟨(DR_CONTOUR_FRAME n), 63, 0⟩
/-- DR_CONTOUR_CTRL (Table 7-13) -/
def DR_CONTOUR_CTRL (n : Nat) : Nat := 0x1000030 + n * 0x100000
def DR_CONTOUR_CTRL_state (n : Nat) : Fld := ⟨(DR_CONTOUR_CTRL n), 3, 2⟩
def DR_CONTOUR_CTRL_cancel (n : Nat) : Fld := ⟨(DR_CONTOUR_CTRL n), 1, 1⟩
def DR_CONTOUR_CTRL_arm (n : Nat) : Fld := ⟨(DR_CONTOUR_CTRL n), 0, 0⟩
/-- DR_MIS_LAST (Table 7-14) -/
def DR_MIS_LAST (n : Nat) : Nat := 0x1000038 + n * 0x100000
def DR_MIS_LAST_frame_lo (n : Nat) : Fld := ⟨(DR_MIS_LAST n), 63, 40⟩
def DR_MIS_LAST_lane (n : Nat) : Fld := ⟨(DR_MIS_LAST n), 39, 35⟩
def DR_MIS_LAST_colour (n : Nat) : Fld := ⟨(DR_MIS_LAST n), 34, 31⟩
def DR_MIS_LAST_receiver (n : Nat) : Fld := ⟨(DR_MIS_LAST n), 19, 0⟩
/-- DR_LANE_CTRL_l (Table 7-15) -/
def DR_LANE_CTRL (n l : Nat) : Nat := 0x1001000 + n * 0x100000 + l * 0x40
def DR_LANE_CTRL_unquar (n l : Nat) : Fld := ⟨(DR_LANE_CTRL n l), 2, 2⟩
def DR_LANE_CTRL_recal (n l : Nat) : Fld := ⟨(DR_LANE_CTRL n l), 1, 1⟩
def DR_LANE_CTRL_disable (n l : Nat) : Fld := ⟨(DR_LANE_CTRL n l), 0, 0⟩
/-- DR_LANE_STAT_l (Table 7-15) -/
def DR_LANE_STAT (n l : Nat) : Nat := 0x1001008 + n * 0x100000 + l * 0x40
def DR_LANE_STAT_last_recal (n l : Nat) : Fld := ⟨(DR_LANE_STAT n l), 63, 48⟩
def DR_LANE_STAT_qmask (n l : Nat) : Fld := ⟨(DR_LANE_STAT n l), 31, 16⟩
def DR_LANE_STAT_fail_run (n l : Nat) : Fld := ⟨(DR_LANE_STAT n l), 9, 8⟩
def DR_LANE_STAT_state (n l : Nat) : Fld := ⟨(DR_LANE_STAT n l), 2, 0⟩
/-- DR_LANE_FERR_l (Table 7-16) -/
def DR_LANE_FERR (n l : Nat) : Nat := 0x1001010 + n * 0x100000 + l * 0x40
def DR_LANE_FERR_worst_colour (n l : Nat) : Fld := ⟨(DR_LANE_FERR n l), 35, 32⟩
def DR_LANE_FERR_worst_mean (n l : Nat) : Fld := ⟨(DR_LANE_FERR n l), 31, 16⟩
def DR_LANE_FERR_worst_cell (n l : Nat) : Fld := ⟨(DR_LANE_FERR n l), 15, 0⟩
/-- DR_LANE_RXP_l (Table 7-16) -/
def DR_LANE_RXP (n l : Nat) : Nat := 0x1001018 + n * 0x100000 + l * 0x40
def DR_LANE_RXP_weakest (n l : Nat) : Fld := ⟨(DR_LANE_RXP n l), 51, 48⟩
def DR_LANE_RXP_max (n l : Nat) : Fld := ⟨(DR_LANE_RXP n l), 47, 32⟩
def DR_LANE_RXP_min (n l : Nat) : Fld := ⟨(DR_LANE_RXP n l), 15, 0⟩
/-- DR_LANE_ERR_l (Table 7-17) -/
def DR_LANE_ERR (n l : Nat) : Nat := 0x1001020 + n * 0x100000 + l * 0x40
def DR_LANE_ERR_misdelivered (n l : Nat) : Fld := ⟨(DR_LANE_ERR n l), 63, 32⟩
def DR_LANE_ERR_crc (n l : Nat) : Fld := ⟨(DR_LANE_ERR n l), 31, 0⟩
/-- DR_LANE_EVT_l (Table 7-17) -/
def DR_LANE_EVT (n l : Nat) : Nat := 0x1001028 + n * 0x100000 + l * 0x40
def DR_LANE_EVT_suppressed (n l : Nat) : Fld := ⟨(DR_LANE_EVT n l), 63, 48⟩
def DR_LANE_EVT_quarantines (n l : Nat) : Fld := ⟨(DR_LANE_EVT n l), 47, 32⟩
def DR_LANE_EVT_notices (n l : Nat) : Fld := ⟨(DR_LANE_EVT n l), 31, 16⟩
def DR_LANE_EVT_excursions (n l : Nat) : Fld := ⟨(DR_LANE_EVT n l), 15, 0⟩
/-- FB_CTRL (Table 8-9) -/
def FB_CTRL : Nat := 0x600000
def FB_CTRL_resurvey : Fld := ⟨FB_CTRL, 1, 1⟩
def FB_CTRL_enable : Fld := ⟨FB_CTRL, 0, 0⟩
/-- FB_STATUS (Table 8-10) -/
def FB_STATUS : Nat := 0x600008
def FB_STATUS_reason : Fld := ⟨FB_STATUS, 63, 48⟩
def FB_STATUS_map_gen : Fld := ⟨FB_STATUS, 39, 8⟩
def FB_STATUS_state : Fld := ⟨FB_STATUS, 2, 0⟩
/-- FB_ID (Table 8-10) -/
def FB_ID : Nat := 0x600010
def FB_ID_valid : Fld := ⟨FB_ID, 20, 20⟩
def FB_ID_id : Fld := ⟨FB_ID, 19, 0⟩
/-- FB_PLANE_p (Table 8-11) -/
def FB_PLANE (p : Nat) : Nat := 0x600100 + p * 0x8
def FB_PLANE_absent (p : Nat) : Fld := ⟨(FB_PLANE p), 63, 48⟩
def FB_PLANE_extra (p : Nat) : Fld := ⟨(FB_PLANE p), 47, 32⟩
def FB_PLANE_live (p : Nat) : Fld := ⟨(FB_PLANE p), 31, 16⟩
def FB_PLANE_zb_circuit (p : Nat) : Fld := ⟨(FB_PLANE p), 9, 9⟩
def FB_PLANE_degraded (p : Nat) : Fld := ⟨(FB_PLANE p), 8, 8⟩
def FB_PLANE_expected (p : Nat) : Fld := ⟨(FB_PLANE p), 3, 0⟩
/-- FB_LOOP_p (Table 8-11) -/
def FB_LOOP (p : Nat) : Nat := 0x600140 + p * 0x8
def FB_LOOP_fail (p : Nat) : Fld := ⟨(FB_LOOP p), 31, 0⟩
/-- FB_PLAN_CTRL_p (Table 8-12) -/
def FB_PLAN_CTRL (p : Nat) : Nat := 0x600200 + p * 0x10
def FB_PLAN_CTRL_reason (p : Nat) : Fld := ⟨(FB_PLAN_CTRL p), 63, 48⟩
def FB_PLAN_CTRL_state (p : Nat) : Fld := ⟨(FB_PLAN_CTRL p), 4, 2⟩
def FB_PLAN_CTRL_cancel (p : Nat) : Fld := ⟨(FB_PLAN_CTRL p), 1, 1⟩
def FB_PLAN_CTRL_arm (p : Nat) : Fld := ⟨(FB_PLAN_CTRL p), 0, 0⟩
/-- FB_PLAN_FRAME_p (Table 8-12) -/
def FB_PLAN_FRAME (p : Nat) : Nat := 0x600208 + p * 0x10
def FB_PLAN_FRAME_frame (p : Nat) : Fld := ⟨(FB_PLAN_FRAME p), 63, 0⟩
/-- FB_PLAN_DIGEST_p (Table 8-13) -/
def FB_PLAN_DIGEST (p : Nat) : Nat := 0x600280 + p * 0x8
def FB_PLAN_DIGEST_digest (p : Nat) : Fld := ⟨(FB_PLAN_DIGEST p), 63, 0⟩
/-- FB_TRANSIT (Table 8-14) -/
def FB_TRANSIT : Nat := 0x600300
def FB_TRANSIT_share : Fld := ⟨FB_TRANSIT, 7, 0⟩
/-- FB_CAGE (Table 8-14) -/
def FB_CAGE : Nat := 0x600308
def FB_CAGE_relay_limit : Fld := ⟨FB_CAGE, 31, 16⟩
def FB_CAGE_escape : Fld := ⟨FB_CAGE, 15, 0⟩
/-- FB_EPOCH (Table 8-15) -/
def FB_EPOCH : Nat := 0x600310
def FB_EPOCH_count : Fld := ⟨FB_EPOCH, 63, 32⟩
def FB_EPOCH_pending : Fld := ⟨FB_EPOCH, 1, 1⟩
def FB_EPOCH_version : Fld := ⟨FB_EPOCH, 0, 0⟩
/-- FB_EPOCH_FRAME (Table 8-15) -/
def FB_EPOCH_FRAME : Nat := 0x600318
def FB_EPOCH_FRAME_frame : Fld := ⟨FB_EPOCH_FRAME, 63, 0⟩
/-- FB_RELAY_CNT (Table 8-16) -/
def FB_RELAY_CNT : Nat := 0x600320
def FB_RELAY_CNT_relayed : Fld := ⟨FB_RELAY_CNT, 63, 32⟩
def FB_RELAY_CNT_escaped : Fld := ⟨FB_RELAY_CNT, 31, 0⟩
/-- FB_DROP_CNT (Table 8-16) -/
def FB_DROP_CNT : Nat := 0x600328
def FB_DROP_CNT_no_route : Fld := ⟨FB_DROP_CNT, 63, 48⟩
def FB_DROP_CNT_hop_limit : Fld := ⟨FB_DROP_CNT, 47, 32⟩
def FB_DROP_CNT_lifetime : Fld := ⟨FB_DROP_CNT, 31, 16⟩
def FB_DROP_CNT_late_epoch : Fld := ⟨FB_DROP_CNT, 15, 0⟩
/-- CE_CTRL (Table 10-10) -/
def CE_CTRL : Nat := 0x500000
def CE_CTRL_enable : Fld := ⟨CE_CTRL, 0, 0⟩
/-- CE_STATUS (Table 10-10) -/
def CE_STATUS : Nat := 0x500008
def CE_STATUS_reason : Fld := ⟨CE_STATUS, 63, 48⟩
def CE_STATUS_hist_head : Fld := ⟨CE_STATUS, 47, 40⟩
def CE_STATUS_apply_present : Fld := ⟨CE_STATUS, 33, 33⟩
def CE_STATUS_digest_present : Fld := ⟨CE_STATUS, 32, 32⟩
def CE_STATUS_held : Fld := ⟨CE_STATUS, 14, 8⟩
def CE_STATUS_running : Fld := ⟨CE_STATUS, 6, 0⟩
/-- CE_SUBMIT (Table 10-11) -/
def CE_SUBMIT : Nat := 0x500010
def CE_SUBMIT_record : Fld := ⟨CE_SUBMIT, 47, 6⟩
/-- CE_SUBMIT_STAT (Table 10-11) -/
def CE_SUBMIT_STAT : Nat := 0x500018
def CE_SUBMIT_STAT_reason : Fld := ⟨CE_SUBMIT_STAT, 63, 48⟩
def CE_SUBMIT_STAT_tag : Fld := ⟨CE_SUBMIT_STAT, 31, 0⟩
/-- CE_SAT (Table 10-12) -/
def CE_SAT : Nat := 0x500020
def CE_SAT_late : Fld := ⟨CE_SAT, 63, 48⟩
def CE_SAT_total : Fld := ⟨CE_SAT, 47, 0⟩
/-- CE_ABORT_LAST (Table 10-12) -/
def CE_ABORT_LAST : Nat := 0x500028
def CE_ABORT_LAST_reason : Fld := ⟨CE_ABORT_LAST, 63, 48⟩
def CE_ABORT_LAST_origin : Fld := ⟨CE_ABORT_LAST, 43, 24⟩
def CE_ABORT_LAST_group : Fld := ⟨CE_ABORT_LAST, 23, 12⟩
/-- CE_ABORT_TAG (Table 10-12) -/
def CE_ABORT_TAG : Nat := 0x500030
def CE_ABORT_TAG_tag : Fld := ⟨CE_ABORT_TAG, 31, 0⟩
/-- CE_ABORT_FRAME (Table 10-12) -/
def CE_ABORT_FRAME : Nat := 0x500038
def CE_ABORT_FRAME_frame : Fld := ⟨CE_ABORT_FRAME, 63, 0⟩
/-- CE_SLOWEST (Table 10-13) -/
def CE_SLOWEST : Nat := 0x500040
def CE_SLOWEST_times : Fld := ⟨CE_SLOWEST, 63, 48⟩
def CE_SLOWEST_lag_sum : Fld := ⟨CE_SLOWEST, 47, 32⟩
def CE_SLOWEST_member : Fld := ⟨CE_SLOWEST, 19, 0⟩
/-- CE_INTEG (Table 10-14) -/
def CE_INTEG : Nat := 0x500048
def CE_INTEG_count : Fld := ⟨CE_INTEG, 63, 48⟩
def CE_INTEG_source : Fld := ⟨CE_INTEG, 47, 40⟩
def CE_INTEG_direction : Fld := ⟨CE_INTEG, 20, 20⟩
def CE_INTEG_partner : Fld := ⟨CE_INTEG, 19, 0⟩
/-- CE_INTEG_TAG (Table 10-14) -/
def CE_INTEG_TAG : Nat := 0x500050
def CE_INTEG_TAG_tag : Fld := ⟨CE_INTEG_TAG, 31, 0⟩
/-- CE_SR_SEED (Table 10-15) -/
def CE_SR_SEED : Nat := 0x500058
def CE_SR_SEED_seed : Fld := ⟨CE_SR_SEED, 63, 0⟩
/-- CE_LAG_HIST_k (Table 10-13) -/
def CE_LAG_HIST (k : Nat) : Nat := 0x501000 + k * 0x8
def CE_LAG_HIST_tag (k : Nat) : Fld := ⟨(CE_LAG_HIST k), 63, 32⟩
def CE_LAG_HIST_lag (k : Nat) : Fld := ⟨(CE_LAG_HIST k), 31, 20⟩
def CE_LAG_HIST_member (k : Nat) : Fld := ⟨(CE_LAG_HIST k), 19, 0⟩
/-- CE_LAG_PEER_a_c (Table 10-13) -/
def CE_LAG_PEER (a c : Nat) : Nat := 0x501200 + a * 0x80 + c * 0x8
def CE_LAG_PEER_samples (a c : Nat) : Fld := ⟨(CE_LAG_PEER a c), 31, 24⟩
def CE_LAG_PEER_lag_sum (a c : Nat) : Fld := ⟨(CE_LAG_PEER a c), 23, 0⟩
/-- CE_SHADOW_TAG_g (Table 10-14) -/
def CE_SHADOW_TAG (g : Nat) : Nat := 0x502000 + g * 0x8
def CE_SHADOW_TAG_valid (g : Nat) : Fld := ⟨(CE_SHADOW_TAG g), 63, 63⟩
def CE_SHADOW_TAG_tag (g : Nat) : Fld := ⟨(CE_SHADOW_TAG g), 31, 0⟩
/-- CE_GROUP_g_BOX (Table 10-1) -/
def CE_GROUP_BOX (g : Nat) : Nat := 0x510000 + g * 0x20
def CE_GROUP_BOX_valid (g : Nat) : Fld := ⟨(CE_GROUP_BOX g), 63, 63⟩
def CE_GROUP_BOX_sheet_hi (g : Nat) : Fld := ⟨(CE_GROUP_BOX g), 55, 52⟩
def CE_GROUP_BOX_sheet_lo (g : Nat) : Fld := ⟨(CE_GROUP_BOX g), 51, 48⟩
def CE_GROUP_BOX_z_hi (g : Nat) : Fld := ⟨(CE_GROUP_BOX g), 47, 44⟩
def CE_GROUP_BOX_z_lo (g : Nat) : Fld := ⟨(CE_GROUP_BOX g), 43, 40⟩
def CE_GROUP_BOX_y_hi (g : Nat) : Fld := ⟨(CE_GROUP_BOX g), 39, 36⟩
def CE_GROUP_BOX_y_lo (g : Nat) : Fld := ⟨(CE_GROUP_BOX g), 35, 32⟩
def CE_GROUP_BOX_x_hi (g : Nat) : Fld := ⟨(CE_GROUP_BOX g), 31, 28⟩
def CE_GROUP_BOX_x_lo (g : Nat) : Fld := ⟨(CE_GROUP_BOX g), 27, 24⟩
/-- CE_GROUP_g_OPT (Table 10-1) -/
def CE_GROUP_OPT (g : Nat) : Nat := 0x510008 + g * 0x20
def CE_GROUP_OPT_sample_k (g : Nat) : Fld := ⟨(CE_GROUP_OPT g), 47, 44⟩
def CE_GROUP_OPT_margin (g : Nat) : Fld := ⟨(CE_GROUP_OPT g), 39, 32⟩
def CE_GROUP_OPT_auto_threshold (g : Nat) : Fld := ⟨(CE_GROUP_OPT g), 31, 0⟩
/-- CE_GROUP_g_CNT (Table 10-1) -/
def CE_GROUP_CNT (g : Nat) : Nat := 0x510010 + g * 0x20
def CE_GROUP_CNT_completed (g : Nat) : Fld := ⟨(CE_GROUP_CNT g), 63, 32⟩
def CE_GROUP_CNT_failed (g : Nat) : Fld := ⟨(CE_GROUP_CNT g), 31, 0⟩
/-- CP_CTRL (Table 11-14) -/
def CP_CTRL : Nat := 0x200000
def CP_CTRL_remote_accept : Fld := ⟨CP_CTRL, 2, 2⟩
def CP_CTRL_enable : Fld := ⟨CP_CTRL, 0, 0⟩
/-- CP_STATUS (Table 11-15) -/
def CP_STATUS : Nat := 0x200008
def CP_STATUS_reason : Fld := ⟨CP_STATUS, 63, 48⟩
def CP_STATUS_boot_stage : Fld := ⟨CP_STATUS, 39, 32⟩
def CP_STATUS_boot_failed : Fld := ⟨CP_STATUS, 1, 1⟩
def CP_STATUS_ready : Fld := ⟨CP_STATUS, 0, 0⟩
/-- CP_AQ_SQ (Table 11-16) -/
def CP_AQ_SQ : Nat := 0x200010
def CP_AQ_SQ_base : Fld := ⟨CP_AQ_SQ, 63, 12⟩
def CP_AQ_SQ_entries : Fld := ⟨CP_AQ_SQ, 11, 0⟩
/-- CP_AQ_CQ (Table 11-16) -/
def CP_AQ_CQ : Nat := 0x200018
def CP_AQ_CQ_base : Fld := ⟨CP_AQ_CQ, 63, 12⟩
def CP_AQ_CQ_entries : Fld := ⟨CP_AQ_CQ, 11, 0⟩
/-- CP_EVENT_STAT (Table 11-17) -/
def CP_EVENT_STAT : Nat := 0x200020
def CP_EVENT_STAT_lost : Fld := ⟨CP_EVENT_STAT, 63, 32⟩
def CP_EVENT_STAT_waiting : Fld := ⟨CP_EVENT_STAT, 23, 16⟩
def CP_EVENT_STAT_held : Fld := ⟨CP_EVENT_STAT, 8, 0⟩
/-- CP_HOST_ERR (Table 11-17) -/
def CP_HOST_ERR : Nat := 0x200028
def CP_HOST_ERR_kind : Fld := ⟨CP_HOST_ERR, 63, 60⟩
def CP_HOST_ERR_count : Fld := ⟨CP_HOST_ERR, 59, 48⟩
def CP_HOST_ERR_addr : Fld := ⟨CP_HOST_ERR, 47, 0⟩
/-- CP_REMOTE_TIMEOUT (Table 11-17) -/
def CP_REMOTE_TIMEOUT : Nat := 0x200030
def CP_REMOTE_TIMEOUT_frames : Fld := ⟨CP_REMOTE_TIMEOUT, 15, 0⟩
/-- CP_CMD_CNT (Table 11-17) -/
def CP_CMD_CNT : Nat := 0x200038
def CP_CMD_CNT_ok : Fld := ⟨CP_CMD_CNT, 63, 32⟩
def CP_CMD_CNT_failed : Fld := ⟨CP_CMD_CNT, 31, 0⟩
/-- CP_LINK (Table 11-18) -/
def CP_LINK : Nat := 0x200040
def CP_LINK_retrains : Fld := ⟨CP_LINK, 63, 32⟩
def CP_LINK_flit : Fld := ⟨CP_LINK, 8, 8⟩
def CP_LINK_width : Fld := ⟨CP_LINK, 7, 4⟩
def CP_LINK_gen : Fld := ⟨CP_LINK, 3, 0⟩
/-- CP_APERTURE_k (Table 11-19) -/
def CP_APERTURE (k : Nat) : Nat := 0x200100 + k * 0x8
def CP_APERTURE_base (k : Nat) : Fld := ⟨(CP_APERTURE k), 47, 32⟩
def CP_APERTURE_valid (k : Nat) : Fld := ⟨(CP_APERTURE k), 0, 0⟩
/-- CP_QP_q (Table 11-20) -/
def CP_QP (q : Nat) : Nat := 0x200200 + q * 0x8
def CP_QP_exists (q : Nat) : Fld := ⟨(CP_QP q), 63, 63⟩
def CP_QP_urgent (q : Nat) : Fld := ⟨(CP_QP q), 62, 62⟩
def CP_QP_vector (q : Nat) : Fld := ⟨(CP_QP q), 61, 56⟩
def CP_QP_begun (q : Nat) : Fld := ⟨(CP_QP q), 40, 32⟩
def CP_QP_cq_tail (q : Nat) : Fld := ⟨(CP_QP q), 27, 16⟩
def CP_QP_sq_head (q : Nat) : Fld := ⟨(CP_QP q), 11, 0⟩
/-- FT_CTRL (Table 12-8) -/
def FT_CTRL : Nat := 0x300000
def FT_CTRL_enable : Fld := ⟨FT_CTRL, 0, 0⟩
/-- FT_STATUS (Table 12-9) -/
def FT_STATUS : Nat := 0x300008
def FT_STATUS_reason : Fld := ⟨FT_STATUS, 63, 48⟩
def FT_STATUS_level : Fld := ⟨FT_STATUS, 41, 40⟩
def FT_STATUS_fault : Fld := ⟨FT_STATUS, 39, 39⟩
def FT_STATUS_last : Fld := ⟨FT_STATUS, 31, 24⟩
def FT_STATUS_pending : Fld := ⟨FT_STATUS, 8, 0⟩
/-- FT_CLEAR (Table 12-10) -/
def FT_CLEAR : Nat := 0x300010
def FT_CLEAR_source : Fld := ⟨FT_CLEAR, 7, 0⟩
/-- FT_LOG_STAT (Table 12-10) -/
def FT_LOG_STAT : Nat := 0x300018
def FT_LOG_STAT_lost : Fld := ⟨FT_LOG_STAT, 63, 32⟩
def FT_LOG_STAT_unread : Fld := ⟨FT_LOG_STAT, 10, 0⟩
/-- FT_CANARY_CTRL (Table 12-11) -/
def FT_CANARY_CTRL : Nat := 0x300020
def FT_CANARY_CTRL_rejoin : Fld := ⟨FT_CANARY_CTRL, 1, 1⟩
def FT_CANARY_CTRL_enable : Fld := ⟨FT_CANARY_CTRL, 0, 0⟩
/-- FT_CANARY_STATUS (Table 12-11) -/
def FT_CANARY_STATUS : Nat := 0x300028
def FT_CANARY_STATUS_live : Fld := ⟨FT_CANARY_STATUS, 39, 32⟩
def FT_CANARY_STATUS_suspects : Fld := ⟨FT_CANARY_STATUS, 19, 16⟩
def FT_CANARY_STATUS_state : Fld := ⟨FT_CANARY_STATUS, 2, 0⟩
/-- FT_CANARY_TIMING (Table 12-12) -/
def FT_CANARY_TIMING : Nat := 0x300030
def FT_CANARY_TIMING_confirm : Fld := ⟨FT_CANARY_TIMING, 31, 16⟩
def FT_CANARY_TIMING_missed : Fld := ⟨FT_CANARY_TIMING, 7, 0⟩
/-- FT_MARGIN_THRESH (Table 12-12) -/
def FT_MARGIN_THRESH : Nat := 0x300038
def FT_MARGIN_THRESH_voltage : Fld := ⟨FT_MARGIN_THRESH, 63, 48⟩
def FT_MARGIN_THRESH_timing : Fld := ⟨FT_MARGIN_THRESH, 47, 32⟩
def FT_MARGIN_THRESH_optical : Fld := ⟨FT_MARGIN_THRESH, 31, 16⟩
def FT_MARGIN_THRESH_wavelength : Fld := ⟨FT_MARGIN_THRESH, 15, 0⟩
/-- FT_CANARY_PEER_x (Table 12-13) -/
def FT_CANARY_PEER (x : Nat) : Nat := 0x300100 + x * 0x8
def FT_CANARY_PEER_live (x : Nat) : Fld := ⟨(FT_CANARY_PEER x), 63, 63⟩
def FT_CANARY_PEER_suspected (x : Nat) : Fld := ⟨(FT_CANARY_PEER x), 62, 62⟩
def FT_CANARY_PEER_quorum (x : Nat) : Fld := ⟨(FT_CANARY_PEER x), 61, 61⟩
def FT_CANARY_PEER_votes (x : Nat) : Fld := ⟨(FT_CANARY_PEER x), 60, 56⟩
def FT_CANARY_PEER_missed (x : Nat) : Fld := ⟨(FT_CANARY_PEER x), 55, 48⟩
def FT_CANARY_PEER_last_frame (x : Nat) : Fld := ⟨(FT_CANARY_PEER x), 31, 0⟩
/-- FT_SRC_CFG_i (Table 12-14) -/
def FT_SRC_CFG (i : Nat) : Nat := 0x301000 + i * 0x8
def FT_SRC_CFG_act3 (i : Nat) : Fld := ⟨(FT_SRC_CFG i), 63, 60⟩
def FT_SRC_CFG_act2 (i : Nat) : Fld := ⟨(FT_SRC_CFG i), 59, 56⟩
def FT_SRC_CFG_act1 (i : Nat) : Fld := ⟨(FT_SRC_CFG i), 55, 52⟩
def FT_SRC_CFG_act0 (i : Nat) : Fld := ⟨(FT_SRC_CFG i), 51, 48⟩
def FT_SRC_CFG_class (i : Nat) : Fld := ⟨(FT_SRC_CFG i), 47, 44⟩
def FT_SRC_CFG_window (i : Nat) : Fld := ⟨(FT_SRC_CFG i), 43, 12⟩
def FT_SRC_CFG_threshold (i : Nat) : Fld := ⟨(FT_SRC_CFG i), 11, 0⟩
/-- FT_SRC_STAT_i (Table 12-14) -/
def FT_SRC_STAT (i : Nat) : Nat := 0x301800 + i * 0x8
def FT_SRC_STAT_pending (i : Nat) : Fld := ⟨(FT_SRC_STAT i), 63, 63⟩
def FT_SRC_STAT_level (i : Nat) : Fld := ⟨(FT_SRC_STAT i), 62, 61⟩
def FT_SRC_STAT_active (i : Nat) : Fld := ⟨(FT_SRC_STAT i), 60, 60⟩
def FT_SRC_STAT_count (i : Nat) : Fld := ⟨(FT_SRC_STAT i), 59, 48⟩
def FT_SRC_STAT_events (i : Nat) : Fld := ⟨(FT_SRC_STAT i), 31, 0⟩
/-- TM_CTRL (Table 13-7) -/
def TM_CTRL : Nat := 0x400000
def TM_CTRL_enable : Fld := ⟨TM_CTRL, 0, 0⟩
/-- TM_STATUS (Table 13-7) -/
def TM_STATUS : Nat := 0x400008
def TM_STATUS_reason : Fld := ⟨TM_STATUS, 63, 48⟩
def TM_STATUS_hottest : Fld := ⟨TM_STATUS, 37, 32⟩
def TM_STATUS_temp : Fld := ⟨TM_STATUS, 31, 16⟩
def TM_STATUS_power : Fld := ⟨TM_STATUS, 3, 3⟩
def TM_STATUS_critical : Fld := ⟨TM_STATUS, 2, 2⟩
def TM_STATUS_enforced : Fld := ⟨TM_STATUS, 1, 1⟩
def TM_STATUS_advisory : Fld := ⟨TM_STATUS, 0, 0⟩
/-- TM_GRACE (Table 13-8) -/
def TM_GRACE : Nat := 0x400010
def TM_GRACE_frames : Fld := ⟨TM_GRACE, 31, 0⟩
/-- TM_THROTTLE (Table 13-8) -/
def TM_THROTTLE : Nat := 0x400018
def TM_THROTTLE_floor : Fld := ⟨TM_THROTTLE, 27, 16⟩
def TM_THROTTLE_step : Fld := ⟨TM_THROTTLE, 11, 0⟩
/-- TM_CLOCK (Table 13-9) -/
def TM_CLOCK : Nat := 0x400020
def TM_CLOCK_effective : Fld := ⟨TM_CLOCK, 63, 52⟩
def TM_CLOCK_thermal : Fld := ⟨TM_CLOCK, 51, 40⟩
def TM_CLOCK_power : Fld := ⟨TM_CLOCK, 39, 28⟩
def TM_CLOCK_host : Fld := ⟨TM_CLOCK, 27, 16⟩
def TM_CLOCK_stretch_power : Fld := ⟨TM_CLOCK, 1, 1⟩
def TM_CLOCK_stretch_thermal : Fld := ⟨TM_CLOCK, 0, 0⟩
/-- TM_PWR (Table 13-10) -/
def TM_PWR : Nat := 0x400028
def TM_PWR_volts : Fld := ⟨TM_PWR, 63, 48⟩
def TM_PWR_amps : Fld := ⟨TM_PWR, 47, 32⟩
def TM_PWR_watts : Fld := ⟨TM_PWR, 31, 16⟩
def TM_PWR_bucket : Fld := ⟨TM_PWR, 15, 0⟩
/-- TM_PWR_LIMIT (Table 13-10) -/
def TM_PWR_LIMIT : Nat := 0x400030
def TM_PWR_LIMIT_sustained : Fld := ⟨TM_PWR_LIMIT, 28, 16⟩
def TM_PWR_LIMIT_in_force : Fld := ⟨TM_PWR_LIMIT, 12, 0⟩
/-- TM_SHUTDOWN (Table 13-11) -/
def TM_SHUTDOWN : Nat := 0x400038
def TM_SHUTDOWN_valid : Fld := ⟨TM_SHUTDOWN, 63, 63⟩
def TM_SHUTDOWN_cause : Fld := ⟨TM_SHUTDOWN, 62, 56⟩
def TM_SHUTDOWN_where : Fld := ⟨TM_SHUTDOWN, 55, 48⟩
def TM_SHUTDOWN_temp : Fld := ⟨TM_SHUTDOWN, 47, 32⟩
def TM_SHUTDOWN_frame : Fld := ⟨TM_SHUTDOWN, 31, 0⟩
/-- TM_ZONE_z (Table 13-12) -/
def TM_ZONE (z : Nat) : Nat := 0x400100 + z * 0x8
def TM_ZONE_level (z : Nat) : Fld := ⟨(TM_ZONE z), 63, 61⟩
def TM_ZONE_sensor (z : Nat) : Fld := ⟨(TM_ZONE z), 60, 56⟩
def TM_ZONE_valid (z : Nat) : Fld := ⟨(TM_ZONE z), 55, 48⟩
def TM_ZONE_peak (z : Nat) : Fld := ⟨(TM_ZONE z), 47, 32⟩
def TM_ZONE_temp (z : Nat) : Fld := ⟨(TM_ZONE z), 15, 0⟩
/-- TM_ZONE_CFG_z (Table 13-12) -/
def TM_ZONE_CFG (z : Nat) : Nat := 0x400400 + z * 0x8
def TM_ZONE_CFG_hysteresis (z : Nat) : Fld := ⟨(TM_ZONE_CFG z), 15, 8⟩
def TM_ZONE_CFG_advisory (z : Nat) : Fld := ⟨(TM_ZONE_CFG z), 7, 0⟩
/-- TM_MASK_z (Table 13-12) -/
def TM_MASK (z : Nat) : Nat := 0x400600 + z * 0x8
def TM_MASK_mask (z : Nat) : Fld := ⟨(TM_MASK z), 31, 0⟩
/-- TM_SENS_z_j (Table 13-13) -/
def TM_SENS (z j : Nat) : Nat := 0x401000 + z * 0x100 + j * 0x8
def TM_SENS_invalid (z j : Nat) : Fld := ⟨(TM_SENS z j), 63, 63⟩
def TM_SENS_masked (z j : Nat) : Fld := ⟨(TM_SENS z j), 62, 62⟩
def TM_SENS_count (z j : Nat) : Fld := ⟨(TM_SENS z j), 47, 32⟩
def TM_SENS_temp (z j : Nat) : Fld := ⟨(TM_SENS z j), 15, 0⟩

end Sys2Proof.Machine
end

