-- ==== Sys2Proof/Machine/RegTable.lean ====
section
/-!
DEFINITION. Sys2Proof/Machine/RegTable.lean: the register tables of the chapters as data: for each register its
offset, its repetitions, the access type of each field (Table 0-3), whether the field's own description permits a
write while its block runs (R24), and the reset value of the fields whose reset is a plain number.
-/

namespace Sys2Proof.Machine

/-- Registers of block HF. -/
def regsHF : List RegDesc := [
  ⟨0x100, [], [⟨31, 16, .ro, false⟩, ⟨7, 4, .ro, false⟩, ⟨0, 0, .ro, false⟩], 0x0⟩,
  ⟨0x110, [(0x8, 17)], [⟨15, 15, .ro, false⟩, ⟨14, 14, .ro, false⟩, ⟨13, 13, .ro, false⟩, ⟨12, 12, .ro, false⟩, ⟨9, 8, .ro, false⟩, ⟨5, 4, .ro, false⟩, ⟨1, 0, .ro, false⟩], 0x0⟩,
  ⟨0x400, [], [⟨1, 1, .ro, false⟩, ⟨0, 0, .rw, false⟩], 0x0⟩,
  ⟨0x410, [], [⟨33, 33, .ro, false⟩, ⟨32, 32, .ro, false⟩, ⟨31, 28, .ro, false⟩, ⟨27, 16, .ro, false⟩, ⟨15, 0, .ro, false⟩], 0x0⟩,
  ⟨0x800, [], [⟨63, 48, .ro, false⟩, ⟨47, 40, .ro, false⟩, ⟨33, 32, .ro, false⟩, ⟨31, 0, .ro, false⟩], 0x0⟩,
  ⟨0x820, [(0x10, 5)], [⟨49, 48, .ro, false⟩, ⟨32, 32, .ro, false⟩, ⟨31, 0, .ro, false⟩], 0x0⟩,
  ⟨0x828, [(0x10, 5)], [⟨63, 63, .ro, false⟩, ⟨31, 0, .ro, false⟩], 0x0⟩,
  ⟨0x870, [(0x8, 5)], [⟨63, 0, .ro, false⟩], 0x0⟩,
  ⟨0x8a0, [(0x8, 5)], [⟨36, 32, .ro, false⟩, ⟨31, 0, .ro, false⟩], 0x0⟩,
  ⟨0x8d0, [], [⟨63, 63, .ro, false⟩, ⟨31, 0, .ro, false⟩], 0x0⟩,
  ⟨0x8d8, [], [⟨63, 0, .ro, false⟩], 0x0⟩,
  ⟨0x8e0, [(0x8, 4)], [⟨63, 0, .ro, false⟩], 0x0⟩,
  ⟨0x10000, [], [⟨63, 48, .ro, false⟩, ⟨0, 0, .rw, true⟩], 0x0⟩,
  ⟨0x10008, [], [⟨47, 32, .rw, true⟩, ⟨15, 0, .rw, true⟩], 0x100000000400⟩,
  ⟨0x10010, [], [⟨63, 48, .ro, false⟩, ⟨47, 44, .ro, false⟩, ⟨43, 32, .ro, false⟩, ⟨19, 0, .ro, false⟩], 0x0⟩,
  ⟨0x10018, [], [⟨63, 0, .ro, false⟩], 0x0⟩,
  ⟨0x10020, [], [⟨63, 48, .rc, false⟩, ⟨47, 32, .rc, false⟩, ⟨31, 0, .rc, false⟩], 0x0⟩,
  ⟨0x18000, [(0x20, 256)], [⟨63, 63, .rw, false⟩, ⟨47, 12, .rw, false⟩], 0x0⟩,
  ⟨0x18008, [(0x20, 256)], [⟨47, 12, .rw, false⟩], 0x0⟩,
  ⟨0x18010, [(0x20, 256)], [⟨63, 48, .rw, false⟩, ⟨43, 32, .rw, false⟩, ⟨31, 0, .rw, false⟩], 0x0⟩,
  ⟨0x20000, [(0x20, 4096)], [⟨63, 63, .rw, false⟩, ⟨62, 62, .rw, false⟩, ⟨61, 61, .rw, false⟩, ⟨60, 60, .rw, false⟩, ⟨47, 12, .rw, false⟩], 0x0⟩,
  ⟨0x20008, [(0x20, 4096)], [⟨47, 12, .rw, false⟩], 0x0⟩,
  ⟨0x20010, [(0x20, 4096)], [⟨63, 48, .rw, false⟩, ⟨31, 0, .rw, false⟩], 0x0⟩,
  ⟨0x20018, [(0x20, 4096)], [⟨31, 0, .rc, false⟩], 0x0⟩,
  ⟨0x40000, [(0x40, 1024)], [⟨63, 63, .rw, true⟩, ⟨47, 16, .rw, false⟩, ⟨4, 0, .rw, false⟩], 0x10⟩,
  ⟨0x40008, [(0x40, 1024)], [⟨63, 0, .ro, false⟩], 0x0⟩,
  ⟨0x40010, [(0x40, 1024)], [⟨63, 0, .rw, false⟩], 0x0⟩,
  ⟨0x40018, [(0x40, 1024)], [⟨16, 16, .rw, false⟩, ⟨15, 0, .rw, false⟩], 0x0⟩,
  ⟨0x40020, [(0x40, 1024)], [⟨63, 32, .rc, false⟩, ⟨31, 0, .rc, false⟩], 0x0⟩,
  ⟨0x80000, [(0x8, 65536)], [⟨63, 63, .w1c, true⟩, ⟨31, 0, .rw, true⟩], 0x0⟩]

/-- Registers of block GD. -/
def regsGD : List RegDesc := [
  ⟨0x100000, [], [⟨1, 1, .st, false⟩, ⟨0, 0, .rw, true⟩], 0x0⟩,
  ⟨0x100008, [], [⟨15, 8, .ro, false⟩, ⟨7, 7, .ro, false⟩, ⟨6, 6, .w1c, false⟩, ⟨5, 5, .ro, false⟩, ⟨3, 0, .ro, false⟩], 0x0⟩,
  ⟨0x100010, [], [⟨63, 0, .ro, false⟩], 0x0⟩,
  ⟨0x100018, [], [⟨63, 0, .rw, false⟩], 0x0⟩,
  ⟨0x100020, [], [⟨63, 32, .ro, false⟩, ⟨31, 16, .ro, false⟩], 0x0⟩,
  ⟨0x100028, [], [⟨63, 56, .ro, false⟩, ⟨55, 40, .ro, false⟩, ⟨39, 20, .ro, false⟩, ⟨19, 0, .ro, false⟩], 0x0⟩,
  ⟨0x100030, [], [⟨31, 0, .rw, true⟩], 0x2e90edd⟩,
  ⟨0x100038, [], [⟨9, 9, .wo, true⟩, ⟨8, 8, .wo, true⟩, ⟨6, 0, .rw, true⟩], 0x0⟩,
  ⟨0x100040, [], [⟨63, 0, .rw, true⟩], 0x0⟩,
  ⟨0x100048, [], [⟨37, 32, .ro, false⟩, ⟨31, 16, .ro, false⟩, ⟨3, 3, .w1c, false⟩, ⟨2, 0, .ro, false⟩], 0x0⟩,
  ⟨0x100050, [], [⟨40, 29, .ro, false⟩, ⟨28, 13, .ro, false⟩, ⟨12, 7, .ro, false⟩, ⟨6, 0, .ro, false⟩], 0x0⟩,
  ⟨0x100058, [], [⟨47, 3, .rw, true⟩], 0x0⟩,
  ⟨0x100060, [], [⟨63, 0, .ro, false⟩], 0x0⟩,
  ⟨0x100068, [], [⟨63, 48, .rc, false⟩, ⟨37, 32, .ro, false⟩, ⟨15, 0, .ro, false⟩], 0x0⟩,
  ⟨0x100070, [], [⟨63, 0, .ro, false⟩], 0x0⟩,
  ⟨0x101000, [(0x80, 6), (0x8, 16)], [⟨63, 63, .ro, false⟩, ⟨62, 62, .ro, false⟩, ⟨47, 32, .ro, false⟩, ⟨21, 16, .ro, false⟩, ⟨14, 6, .ro, false⟩, ⟨4, 0, .ro, false⟩], 0x0⟩,
  ⟨0x102000, [(0x10, 64)], [⟨47, 3, .rw, true⟩], 0x0⟩,
  ⟨0x102008, [(0x10, 64)], [⟨63, 0, .rw, true⟩], 0x0⟩]

/-- Registers of block SQ. -/
def regsCore : List RegDesc := [
  ⟨0x10400800, [(0x1000000, 12), (0x1000, 80), (0x8, 4)], [⟨63, 0, .ro, false⟩], 0x0⟩,
  ⟨0x10400820, [(0x1000000, 12), (0x1000, 80), (0x8, 4)], [⟨63, 0, .ro, false⟩], 0x0⟩,
  ⟨0x10400840, [(0x1000000, 12), (0x1000, 80), (0x8, 4)], [⟨63, 0, .ro, false⟩], 0x0⟩,
  ⟨0x10400860, [(0x1000000, 12), (0x1000, 80)], [⟨63, 0, .ro, false⟩], 0x0⟩,
  ⟨0x10400868, [(0x1000000, 12), (0x1000, 80)], [⟨63, 0, .ro, false⟩], 0x0⟩,
  ⟨0x10400000, [(0x1000000, 12), (0x1000, 80)], [⟨2, 2, .wo, true⟩, ⟨1, 1, .wo, false⟩, ⟨0, 0, .rw, false⟩], 0x0⟩,
  ⟨0x10400008, [(0x1000000, 12), (0x1000, 80)], [⟨63, 48, .ro, false⟩, ⟨44, 32, .ro, false⟩, ⟨7, 4, .ro, false⟩, ⟨2, 0, .ro, false⟩], 0x0⟩,
  ⟨0x10400010, [(0x1000000, 12), (0x1000, 80)], [⟨12, 0, .rw, false⟩], 0x0⟩,
  ⟨0x10400018, [(0x1000000, 12), (0x1000, 80)], [⟨63, 48, .ro, false⟩, ⟨47, 32, .ro, false⟩, ⟨31, 30, .ro, false⟩, ⟨28, 16, .ro, false⟩, ⟨7, 0, .ro, false⟩], 0x0⟩,
  ⟨0x10400020, [(0x1000000, 12), (0x1000, 80)], [⟨63, 0, .ro, false⟩], 0x0⟩,
  ⟨0x10400028, [(0x1000000, 12), (0x1000, 80)], [⟨31, 0, .rw, true⟩], 0xbebc⟩,
  ⟨0x10400030, [(0x1000000, 12), (0x1000, 80)], [⟨63, 0, .rw, true⟩], 0x0⟩,
  ⟨0x10400038, [(0x1000000, 12), (0x1000, 80)], [⟨63, 0, .ro, false⟩], 0x0⟩,
  ⟨0x10400040, [(0x1000000, 12), (0x1000, 80)], [⟨63, 48, .ro, false⟩, ⟨47, 32, .ro, false⟩, ⟨31, 31, .ro, false⟩, ⟨15, 0, .rc, false⟩], 0x0⟩,
  ⟨0x10400048, [(0x1000000, 12), (0x1000, 80)], [⟨63, 0, .ro, false⟩], 0x0⟩]

/-- Registers of block SD. -/
def regsDie : List RegDesc := [
  ⟨0x10001000, [(0x1000000, 12), (0x8, 8)], [⟨7, 7, .ro, false⟩, ⟨3, 0, .ro, false⟩], 0x0⟩,
  ⟨0x10002000, [(0x1000000, 12)], [⟨63, 32, .ro, false⟩, ⟨31, 0, .ro, false⟩], 0x0⟩,
  ⟨0x10002008, [(0x1000000, 12)], [⟨63, 32, .ro, false⟩, ⟨31, 0, .ro, false⟩], 0x0⟩]

/-- Registers of block MC. -/
def regsMC : List RegDesc := [
  ⟨0x2000000, [(0x10000, 16)], [⟨1, 1, .rw, true⟩, ⟨0, 0, .rw, false⟩], 0x0⟩,
  ⟨0x2000008, [(0x10000, 16)], [⟨63, 48, .ro, false⟩, ⟨2, 0, .ro, false⟩], 0x0⟩,
  ⟨0x2000010, [(0x10000, 16)], [⟨28, 16, .st, false⟩, ⟨3, 0, .st, false⟩], 0x4000008⟩,
  ⟨0x2000018, [(0x10000, 16)], [⟨63, 32, .ro, false⟩, ⟨31, 0, .ro, false⟩], 0x0⟩,
  ⟨0x2000020, [(0x10000, 16)], [⟨63, 32, .ro, false⟩, ⟨31, 0, .ro, false⟩], 0x0⟩,
  ⟨0x2000028, [(0x10000, 16)], [⟨63, 63, .ro, false⟩, ⟨47, 4, .ro, false⟩], 0x0⟩,
  ⟨0x2000100, [(0x10000, 16), (0x8, 16)], [⟨63, 48, .ro, false⟩, ⟨47, 4, .ro, false⟩, ⟨0, 0, .ro, false⟩], 0x0⟩,
  ⟨0x2000200, [(0x10000, 16)], [⟨63, 48, .ro, false⟩, ⟨39, 39, .ro, false⟩, ⟨38, 38, .ro, false⟩, ⟨31, 16, .ro, false⟩, ⟨15, 0, .ro, false⟩], 0x0⟩,
  ⟨0x2000208, [(0x10000, 16)], [⟨31, 27, .rw, false⟩, ⟨26, 21, .rw, false⟩, ⟨19, 18, .rw, false⟩, ⟨17, 0, .rw, false⟩], 0x0⟩,
  ⟨0x2000210, [(0x10000, 16)], [⟨1, 1, .wo, true⟩, ⟨0, 0, .wo, false⟩], 0x0⟩,
  ⟨0x2000300, [(0x10000, 16)], [⟨47, 4, .rw, true⟩], 0x0⟩,
  ⟨0x2000308, [(0x10000, 16)], [⟨63, 63, .rw, true⟩, ⟨23, 18, .rw, true⟩, ⟨17, 12, .rw, true⟩, ⟨11, 8, .rw, true⟩, ⟨7, 4, .rw, true⟩], 0xfff000⟩]

/-- Registers of block DR. -/
def regsDR : List RegDesc := [
  ⟨0x1000000, [(0x100000, 6)], [⟨1, 1, .rw, true⟩, ⟨0, 0, .rw, true⟩], 0x2⟩,
  ⟨0x1000008, [(0x100000, 6)], [⟨63, 48, .ro, false⟩, ⟨35, 32, .ro, false⟩, ⟨31, 0, .ro, false⟩], 0x0⟩,
  ⟨0x1000010, [(0x100000, 6)], [⟨34, 32, .ro, false⟩, ⟨31, 16, .ro, false⟩, ⟨15, 0, .ro, false⟩], 0x0⟩,
  ⟨0x1000018, [(0x100000, 6)], [⟨31, 24, .st, false⟩, ⟨23, 16, .st, false⟩, ⟨15, 8, .st, false⟩, ⟨7, 0, .st, false⟩], 0x190c0c10⟩,
  ⟨0x1000020, [(0x100000, 6)], [⟨31, 0, .rw, true⟩], 0x15180⟩,
  ⟨0x1000028, [(0x100000, 6)], [⟨63, 0, .rw, true⟩], 0x0⟩,
  ⟨0x1000030, [(0x100000, 6)], [⟨3, 2, .ro, false⟩, ⟨1, 1, .wo, true⟩, ⟨0, 0, .wo, true⟩], 0x0⟩,
  ⟨0x1000038, [(0x100000, 6)], [⟨63, 40, .ro, false⟩, ⟨39, 35, .ro, false⟩, ⟨34, 31, .ro, false⟩, ⟨19, 0, .ro, false⟩], 0x0⟩,
  ⟨0x1001000, [(0x100000, 6), (0x40, 32)], [⟨2, 2, .wo, true⟩, ⟨1, 1, .wo, true⟩, ⟨0, 0, .rw, true⟩], 0x0⟩,
  ⟨0x1001008, [(0x100000, 6), (0x40, 32)], [⟨63, 48, .ro, false⟩, ⟨31, 16, .ro, false⟩, ⟨9, 8, .ro, false⟩, ⟨2, 0, .ro, false⟩], 0x0⟩,
  ⟨0x1001010, [(0x100000, 6), (0x40, 32)], [⟨35, 32, .ro, false⟩, ⟨31, 16, .ro, false⟩, ⟨15, 0, .rc, false⟩], 0x0⟩,
  ⟨0x1001018, [(0x100000, 6), (0x40, 32)], [⟨51, 48, .ro, false⟩, ⟨47, 32, .ro, false⟩, ⟨15, 0, .ro, false⟩], 0x0⟩,
  ⟨0x1001020, [(0x100000, 6), (0x40, 32)], [⟨63, 32, .rc, false⟩, ⟨31, 0, .rc, false⟩], 0x0⟩,
  ⟨0x1001028, [(0x100000, 6), (0x40, 32)], [⟨63, 48, .rc, false⟩, ⟨47, 32, .rc, false⟩, ⟨31, 16, .rc, false⟩, ⟨15, 0, .rc, false⟩], 0x0⟩]

/-- Registers of block FB. -/
def regsFB : List RegDesc := [
  ⟨0x600000, [], [⟨1, 1, .wo, true⟩, ⟨0, 0, .rw, true⟩], 0x0⟩,
  ⟨0x600008, [], [⟨63, 48, .ro, false⟩, ⟨39, 8, .ro, false⟩, ⟨2, 0, .ro, false⟩], 0x0⟩,
  ⟨0x600010, [], [⟨20, 20, .ro, false⟩, ⟨19, 0, .ro, false⟩], 0xfffff⟩,
  ⟨0x600100, [(0x8, 6)], [⟨63, 48, .ro, false⟩, ⟨47, 32, .ro, false⟩, ⟨31, 16, .ro, false⟩, ⟨9, 9, .ro, false⟩, ⟨8, 8, .ro, false⟩, ⟨3, 0, .ro, false⟩], 0x0⟩,
  ⟨0x600140, [(0x8, 6)], [⟨31, 0, .ro, false⟩], 0x0⟩,
  ⟨0x600200, [(0x10, 6)], [⟨63, 48, .ro, false⟩, ⟨4, 2, .ro, false⟩, ⟨1, 1, .wo, true⟩, ⟨0, 0, .wo, true⟩], 0x0⟩,
  ⟨0x600208, [(0x10, 6)], [⟨63, 0, .rw, true⟩], 0x0⟩,
  ⟨0x600280, [(0x8, 6)], [⟨63, 0, .ro, false⟩], 0x0⟩,
  ⟨0x600300, [], [⟨7, 0, .st, false⟩], 0x4⟩,
  ⟨0x600308, [], [⟨31, 16, .st, false⟩, ⟨15, 0, .st, false⟩], 0x1000008⟩,
  ⟨0x600310, [], [⟨63, 32, .ro, false⟩, ⟨1, 1, .ro, false⟩, ⟨0, 0, .ro, false⟩], 0x0⟩,
  ⟨0x600318, [], [⟨63, 0, .ro, false⟩], 0x0⟩,
  ⟨0x600320, [], [⟨63, 32, .ro, false⟩, ⟨31, 0, .ro, false⟩], 0x0⟩,
  ⟨0x600328, [], [⟨63, 48, .rc, false⟩, ⟨47, 32, .rc, false⟩, ⟨31, 16, .rc, false⟩, ⟨15, 0, .rc, false⟩], 0x0⟩]

/-- Registers of block CE. -/
def regsCE : List RegDesc := [
  ⟨0x500000, [], [⟨0, 0, .rw, true⟩], 0x0⟩,
  ⟨0x500008, [], [⟨63, 48, .ro, false⟩, ⟨47, 40, .ro, false⟩, ⟨33, 33, .ro, false⟩, ⟨32, 32, .ro, false⟩, ⟨14, 8, .ro, false⟩, ⟨6, 0, .ro, false⟩], 0x0⟩,
  ⟨0x500010, [], [⟨47, 6, .wo, true⟩], 0x0⟩,
  ⟨0x500018, [], [⟨63, 48, .ro, false⟩, ⟨31, 0, .ro, false⟩], 0x0⟩,
  ⟨0x500020, [], [⟨63, 48, .rc, false⟩, ⟨47, 0, .rc, false⟩], 0x0⟩,
  ⟨0x500028, [], [⟨63, 48, .ro, false⟩, ⟨43, 24, .ro, false⟩, ⟨23, 12, .ro, false⟩], 0x0⟩,
  ⟨0x500030, [], [⟨31, 0, .ro, false⟩], 0x0⟩,
  ⟨0x500038, [], [⟨63, 0, .ro, false⟩], 0x0⟩,
  ⟨0x500040, [], [⟨63, 48, .ro, false⟩, ⟨47, 32, .ro, false⟩, ⟨19, 0, .ro, false⟩], 0x0⟩,
  ⟨0x500048, [], [⟨63, 48, .rc, false⟩, ⟨47, 40, .ro, false⟩, ⟨20, 20, .ro, false⟩, ⟨19, 0, .ro, false⟩], 0x0⟩,
  ⟨0x500050, [], [⟨31, 0, .ro, false⟩], 0x0⟩,
  ⟨0x500058, [], [⟨63, 0, .rw, true⟩], 0x0⟩,
  ⟨0x501000, [(0x8, 64)], [⟨63, 32, .ro, false⟩, ⟨31, 20, .ro, false⟩, ⟨19, 0, .ro, false⟩], 0x0⟩,
  ⟨0x501200, [(0x80, 4), (0x8, 16)], [⟨31, 24, .ro, false⟩, ⟨23, 0, .ro, false⟩], 0x0⟩,
  ⟨0x502000, [(0x8, 4096)], [⟨63, 63, .ro, false⟩, ⟨31, 0, .ro, false⟩], 0x0⟩,
  ⟨0x510000, [(0x20, 4096)], [⟨63, 63, .rw, false⟩, ⟨55, 52, .rw, false⟩, ⟨51, 48, .rw, false⟩, ⟨47, 44, .rw, false⟩, ⟨43, 40, .rw, false⟩, ⟨39, 36, .rw, false⟩, ⟨35, 32, .rw, false⟩, ⟨31, 28, .rw, false⟩, ⟨27, 24, .rw, false⟩], 0x0⟩,
  ⟨0x510008, [(0x20, 4096)], [⟨47, 44, .rw, false⟩, ⟨39, 32, .rw, false⟩, ⟨31, 0, .rw, false⟩], 0xf00100040000⟩,
  ⟨0x510010, [(0x20, 4096)], [⟨63, 32, .rc, false⟩, ⟨31, 0, .rc, false⟩], 0x0⟩]

/-- Registers of block CP. -/
def regsCP : List RegDesc := [
  ⟨0x200000, [], [⟨2, 2, .rw, true⟩, ⟨0, 0, .rw, true⟩], 0x0⟩,
  ⟨0x200008, [], [⟨63, 48, .ro, false⟩, ⟨39, 32, .ro, false⟩, ⟨1, 1, .ro, false⟩, ⟨0, 0, .ro, false⟩], 0x0⟩,
  ⟨0x200010, [], [⟨63, 12, .rw, false⟩, ⟨11, 0, .rw, false⟩], 0x0⟩,
  ⟨0x200018, [], [⟨63, 12, .rw, false⟩, ⟨11, 0, .rw, false⟩], 0x0⟩,
  ⟨0x200020, [], [⟨63, 32, .rc, false⟩, ⟨23, 16, .ro, false⟩, ⟨8, 0, .ro, false⟩], 0x0⟩,
  ⟨0x200028, [], [⟨63, 60, .ro, false⟩, ⟨59, 48, .rc, false⟩, ⟨47, 0, .ro, false⟩], 0x0⟩,
  ⟨0x200030, [], [⟨15, 0, .rw, true⟩], 0x400⟩,
  ⟨0x200038, [], [⟨63, 32, .rc, false⟩, ⟨31, 0, .rc, false⟩], 0x0⟩,
  ⟨0x200040, [], [⟨63, 32, .ro, false⟩, ⟨8, 8, .ro, false⟩, ⟨7, 4, .ro, false⟩, ⟨3, 0, .ro, false⟩], 0x0⟩,
  ⟨0x200100, [(0x8, 16)], [⟨47, 32, .rw, true⟩, ⟨0, 0, .rw, true⟩], 0x0⟩,
  ⟨0x200200, [(0x8, 64)], [⟨63, 63, .ro, false⟩, ⟨62, 62, .ro, false⟩, ⟨61, 56, .ro, false⟩, ⟨40, 32, .ro, false⟩, ⟨27, 16, .ro, false⟩, ⟨11, 0, .ro, false⟩], 0x0⟩]

/-- Registers of block FT. -/
def regsFT : List RegDesc := [
  ⟨0x300000, [], [⟨0, 0, .rw, true⟩], 0x1⟩,
  ⟨0x300008, [], [⟨63, 48, .ro, false⟩, ⟨41, 40, .ro, false⟩, ⟨39, 39, .ro, false⟩, ⟨31, 24, .ro, false⟩, ⟨8, 0, .ro, false⟩], 0x0⟩,
  ⟨0x300010, [], [⟨7, 0, .wo, true⟩], 0x0⟩,
  ⟨0x300018, [], [⟨63, 32, .rc, false⟩, ⟨10, 0, .ro, false⟩], 0x0⟩,
  ⟨0x300020, [], [⟨1, 1, .wo, true⟩, ⟨0, 0, .rw, true⟩], 0x0⟩,
  ⟨0x300028, [], [⟨39, 32, .ro, false⟩, ⟨19, 16, .ro, false⟩, ⟨2, 0, .ro, false⟩], 0x0⟩,
  ⟨0x300030, [], [⟨31, 16, .st, false⟩, ⟨7, 0, .st, false⟩], 0x3000008⟩,
  ⟨0x300038, [], [⟨63, 48, .st, false⟩, ⟨47, 32, .st, false⟩, ⟨31, 16, .st, false⟩, ⟨15, 0, .st, false⟩], 0x19001400c80050⟩,
  ⟨0x300100, [(0x8, 16)], [⟨63, 63, .ro, false⟩, ⟨62, 62, .ro, false⟩, ⟨61, 61, .ro, false⟩, ⟨60, 56, .ro, false⟩, ⟨55, 48, .ro, false⟩, ⟨31, 0, .ro, false⟩], 0x0⟩,
  ⟨0x301000, [(0x8, 256)], [⟨63, 60, .st, false⟩, ⟨59, 56, .st, false⟩, ⟨55, 52, .st, false⟩, ⟨51, 48, .st, false⟩, ⟨47, 44, .st, false⟩, ⟨43, 12, .st, false⟩, ⟨11, 0, .st, false⟩], 0x10000000000000⟩,
  ⟨0x301800, [(0x8, 256)], [⟨63, 63, .ro, false⟩, ⟨62, 61, .ro, false⟩, ⟨60, 60, .ro, false⟩, ⟨59, 48, .ro, false⟩, ⟨31, 0, .ro, false⟩], 0x0⟩]

/-- Registers of block TM. -/
def regsTM : List RegDesc := [
  ⟨0x400000, [], [⟨0, 0, .rw, true⟩], 0x1⟩,
  ⟨0x400008, [], [⟨63, 48, .ro, false⟩, ⟨37, 32, .ro, false⟩, ⟨31, 16, .ro, false⟩, ⟨3, 3, .ro, false⟩, ⟨2, 2, .ro, false⟩, ⟨1, 1, .ro, false⟩, ⟨0, 0, .ro, false⟩], 0x0⟩,
  ⟨0x400010, [], [⟨31, 0, .st, false⟩], 0x5f5e⟩,
  ⟨0x400018, [], [⟨27, 16, .st, false⟩, ⟨11, 0, .st, false⟩], 0x3e80064⟩,
  ⟨0x400020, [], [⟨63, 52, .ro, false⟩, ⟨51, 40, .ro, false⟩, ⟨39, 28, .ro, false⟩, ⟨27, 16, .ro, false⟩, ⟨1, 1, .ro, false⟩, ⟨0, 0, .ro, false⟩], 0x8988988980000000⟩,
  ⟨0x400028, [], [⟨63, 48, .ro, false⟩, ⟨47, 32, .ro, false⟩, ⟨31, 16, .ro, false⟩, ⟨15, 0, .ro, false⟩], 0x0⟩,
  ⟨0x400030, [], [⟨28, 16, .st, false⟩, ⟨12, 0, .ro, false⟩], 0x12c012c0⟩,
  ⟨0x400038, [], [⟨63, 63, .w1c, false⟩, ⟨62, 56, .ro, false⟩, ⟨55, 48, .ro, false⟩, ⟨47, 32, .ro, false⟩, ⟨31, 0, .ro, false⟩], 0x0⟩,
  ⟨0x400100, [(0x8, 40)], [⟨63, 61, .ro, false⟩, ⟨60, 56, .ro, false⟩, ⟨55, 48, .ro, false⟩, ⟨47, 32, .rc, false⟩, ⟨15, 0, .ro, false⟩], 0x0⟩,
  ⟨0x400400, [(0x8, 40)], [⟨15, 8, .st, false⟩, ⟨7, 0, .st, false⟩], 0x300⟩,
  ⟨0x400600, [(0x8, 40)], [⟨31, 0, .st, false⟩], 0x0⟩,
  ⟨0x401000, [(0x100, 40), (0x8, 32)], [⟨63, 63, .ro, false⟩, ⟨62, 62, .ro, false⟩, ⟨47, 32, .ro, false⟩, ⟨15, 0, .ro, false⟩], 0x0⟩]

/-- The registers of the block that holds an offset (Table 0-4). -/
def regsAt (off : Nat) : List RegDesc :=
  if off < 0x100000 then regsHF
  else if off < 0x200000 then regsGD
  else if off < 0x300000 then regsCP
  else if off < 0x400000 then regsFT
  else if off < 0x500000 then regsTM
  else if off < 0x600000 then regsCE
  else if off < 0x700000 then regsFB
  else if off < 0x1000000 then []
  else if off < 0x2000000 then regsDR
  else if off < 0x10000000 then regsMC
  else if off % 0x1000000 < 0x400000 then regsDie
  else regsCore

/-- The descriptor of the register at an offset, if one is assigned there (R19). -/
def regDescAt (off : Nat) : Option RegDesc := (regsAt off).find? (·.covers off)

end Sys2Proof.Machine
end

