-- ==== Sys2Proof/Machine/RegReset.lean ====
section
/-!
DEFINITION. Sys2Proof/Machine/RegReset.lean: what every register reads after module reset (the Reset column of the register
tables).  Values given by a rule and not by a number are computed here: fault configurations (Table 12-1, Table 13-6,
R422, R521), advisory levels (Table 13-2), the default plan and its digest (R278).
-/

namespace Sys2Proof.Machine

/-- The fault class of a source (Tables 12-1 and 13-6); a reserved source has class 0. -/
def srcClass (i : Nat) : Nat :=
  if i < 0x03 then 0 else if i < 0x06 then 1 else if i < 0x09 then 2 else if i < 0x0B then 3 else if i < 0x0E then 4
  else if i < 0x10 then 0 else if i < 0x20 then 5 else if i < 0x30 then 6 else if i < 0x3C then 5 else if i < 0x40 then 0
  else if i < 0x4C then 6 else if i < 0x50 then 0 else if i < 0x60 then 5 else if i < 0x70 then 6
  else if i = 0x70 then 5 else if i = 0x71 then 6 else if i < 0x78 then 0
  else if i < 0x90 then (if i % 8 < 6 then 7 else 0) else if i < 0x96 then 2 else if i < 0x98 then 0
  else if i < 0xA4 then 8 else if i < 0xA8 then 0
  else if i < 0xD6 then 9 else if i < 0xE0 then 0 else if i < 0xE5 then 10 else if i < 0xE8 then 0
  else if i < 0xED then 11 else if i < 0xF0 then 0 else if i < 0xFD then 11 else 0

/-- The default threshold N of a source. -/
def srcThreshold (i : Nat) : Nat :=
  if i = 0x09 then 64 else if srcClass i = 6 then 1000 else if 0x80 ≤ i ∧ i < 0x86 then 4 else if i = 0xEA then 16 else 0

/-- The default window W of a source (R521 where N is 0). -/
def srcWindow (i : Nat) : Nat :=
  if i = 0x09 then 48828 else if i = 0xEA then 4882812 else 48828125

/-- Sources indexed by drift (0x78 to 0x8D): they also fence the port at level 2. -/
def srcIsDrift (i : Nat) : Bool := decide (0x78 ≤ i) && decide (i < 0x8E) && decide (i % 8 < 6)

/-- Core BIST sources. -/
def srcIsBist (i : Nat) : Bool := decide (0x98 ≤ i) && decide (i < 0xA4)

/-- FT_SRC_CFG_i at reset. -/
def srcCfgReset (i : Nat) : Nat :=
  let act3 := if i = 0x0C ∨ i = 0x0D then 1 else 9
  let act2 := if srcIsDrift i then 5 else if srcIsBist i then 3 else 1
  (act3 <<< 60) + (act2 <<< 56) + (1 <<< 52) + (srcClass i <<< 44) + (srcWindow i <<< 12) + srcThreshold i

/-- The default advisory level of a zone in degrees C (Table 13-2). -/
def advisoryReset (z : Nat) : Nat := if z < 23 then 95 else if z = 23 then 70 else 85

/-- Entry byte (lane l, slot s, any sender) of the default plan (R278). -/
def defaultPlanByte (l s : Nat) : Nat := 0x80 + 1 + (l + s) % 15

/-- Word i of the default plan: eight senders of one lane and slot. -/
def defaultPlanWord (i : Nat) : Nat :=
  let b := defaultPlanByte (i / 2 / 16) (i / 2 % 16)
  packN 8 8 fun _ => b

/-- The digest of the default plan (R277, R278). -/
def defaultPlanDigest : Word64 :=
  crc64 ((List.range 960).flatMap fun i => leBytes 8 (defaultPlanWord i))

/-- The reset value of every offset of register space. -/
def regReset (off : Nat) : Word64 :=
  if 0x301000 ≤ off ∧ off < 0x301800 then
    (if off % 8 = 0 then BitVec.ofNat 64 (srcCfgReset ((off - 0x301000) / 8)) else 0)
  else if 0x400400 ≤ off ∧ off < 0x400540 then
    (if off % 8 = 0 then BitVec.ofNat 64 (0x300 + advisoryReset ((off - 0x400400) / 8)) else 0)
  else if 0x600280 ≤ off ∧ off < 0x6002B0 then (if off % 8 = 0 then defaultPlanDigest else 0)
  else if 0x620000 ≤ off ∧ off < 0x62C000 then
    (if off % 8 = 0 ∧ (off - 0x620000) % 0x2000 < 7680 then
      BitVec.ofNat 64 (defaultPlanWord ((off - 0x620000) % 0x2000 / 8)) else 0)
  else match regDescAt off with
    | some d => BitVec.ofNat 64 d.reset
    | none => 0

end Sys2Proof.Machine
end

