-- ==== Sys2Proof/Machine/State.lean ====
section
/-!
DEFINITION. Sys2Proof/Machine/State.lean: the state of the device as plain data.  Registers live in one canonical sparse map
(offset of register space, value); an unlisted register reads as its reset value (Machine/RegReset.lean).  Memories
live in one canonical list of (cell, byte) pairs with the vein-code difference of each word beside it.  What the spec
gives the device beyond registers and memory (queues, engines, copies, cells, collectives, timers) is in the
structures below.
-/

namespace Sys2Proof.Machine

/-! ### Memory -/

/-- All memories: HBM stacks, seams, core scratch and cluster memory.  cells: byte of a cell key (Machine/Memory.lean); an
unlisted byte is 0.  chk: for each 128-bit word, keyed by cell key / 16, its stored check bits exclusive-or the clean
check bits of its stored data (R210); 0 is clean, 0x0111 is the poison mark (R214).  istoreBad: instruction words
stored poisoned (R190), keyed by register offset.  flits: errors in flit words that carry the word of an HBM cell key / 16, not yet
met by a read; inFlight: words that the last read over a link delivered poisoned (R215). -/
structure Ram where
  cells : List Host.Cell := []
  chk : List (Nat × BitVec 16) := []
  istoreBad : List (Nat × Bool) := []
  flits : List (Nat × BitVec 16) := []
  inFlight : List Nat := []
  /-- clusters (die * 8 + cluster) and seams (die) whose memory is being initialised (R150, R208) -/
  clusterInit : List Nat := []
  seamInit : List Nat := []
  deriving DecidableEq, Repr

/-! ### Cores -/

/-- What MCFG holds in one engine (R165, R166). -/
structure EngCfg where
  opFmt : Nat
  faceFmt : Nat
  mode : Nat
  outFmt : Nat
  ovf : Bool
  rnd : Bool
  opStride : Nat
  scStride : Nat
  drainBase : Nat
  drainStride : Nat
  deriving DecidableEq, Repr

/-- One entry of an instruction queue (R156): the instruction, its index, the scalar values copied at issue, whether it
has started and finished, and how far each engine that it names has come (Machine/Matrix.lean).  uid names it. -/
structure QEntry where
  uid : Nat
  pc : Nat
  word : Word64
  vals : List Word64
  started : Bool := false
  finished : Bool := false
  progress : List (Nat × Nat) := []
  deriving DecidableEq, Repr

/-- One entry of an engine's drain buffer (R123, R128): the converted row and where it goes in core scratch. -/
structure DrainRow where
  engine : Nat
  uid : Nat
  pc : Nat
  addr : Nat
  bytes : List Byte
  poison : Bool
  deriving DecidableEq, Repr

/-- One physical set of core state under a logical number (R153, chapters 4 and 5).  Sparse fields read 0 where nothing is
listed: s scalar registers, v vector registers (256 lanes of 32 bits), vp poisoned lanes, m mask registers, acc
accumulator rows keyed engine * 128 + row (64 lanes of 32 bits), accp their poisoned lanes, face entries keyed
engine * 128 + entry (64 lanes of 256 bits), faceSc their scale bytes (64 lanes of 16 bits), facep their poisoned
lanes.  strm lists streams that differ from the one seeded by 0.  opreg: the operand register of each engine (R114).  rchk: the
difference of the stored check bits from the clean ones of each 128-bit word of faces, accumulators, vector and mask registers,
by word number (R148). -/
structure Core where
  s : List (Nat × Word64) := []
  v : List (Nat × BitVec 8192) := []
  vp : List (Nat × BitVec 256) := []
  m : List (Nat × BitVec 256) := []
  acc : List (Nat × BitVec 2048) := []
  accp : List (Nat × BitVec 64) := []
  face : List (Nat × BitVec 16384) := []
  faceSc : List (Nat × BitVec 1024) := []
  facep : List (Nat × BitVec 64) := []
  opreg : List (Nat × BitVec 256) := []
  rchk : List (Nat × BitVec 16) := []
  eng : List (Nat × EngCfg) := []
  strm : List (Nat × Word64) := []
  mq : List QEntry := []
  vq : List QEntry := []
  dq : List QEntry := []
  drains : List DrainRow := []
  /-- the frame in which the present wait began (R186) -/
  waitFrom : Nat := 0
  /-- a copy has failed since the last FENCE with dq set (R183), and its reason -/
  dmaFailed : Bool := false
  dmaReason : Nat := 0
  /-- state 2 was entered by TRAP, so resume may continue (R188) -/
  swTrap : Bool := false
  /-- the access whose answer an SLD or ATOM awaits, 0 for none -/
  loadId : Nat := 0
  /-- the argument words that the last LAUNCH loaded (R153) -/
  args : List Word64 := []
  /-- the next name of a queue entry -/
  uid : Nat := 1
  deriving DecidableEq, Repr

/-- An arrival at a barrier (R184): scope unit, barrier number, count, cores that wait. -/
structure Barrier where
  scope : Nat
  unit : Nat
  id : Nat
  count : Nat
  cores : List Nat
  deriving DecidableEq, Repr

/-! ### Row memory, copies and messages (chapters 5 and 9) -/

/-- What an access was made from. -/
inductive AccKind where
  | sld | sst | vld | vst | atom
  deriving DecidableEq, Repr

/-- An access by an instruction of a core whose answer is still to come: the core, whether it still exists as it was,
the instruction, and what has returned so far. -/
structure Access where
  id : Nat
  core : Nat
  live : Bool
  kind : AccKind
  uid : Nat
  pc : Nat
  word : Word64
  addr : Nat
  len : Nat
  fails : List (Nat × Nat)
  got : List (Nat × List Byte × Nat)
  deriving DecidableEq, Repr

/-- What a copy moves. -/
inductive CopyKind where
  | dcopy (dst src len : Nat)
  | ddesc (dst src rowBytes rows : Nat) (dstStride srcStride : Int)
  | dgather (dst table pitch rowBytes count index : Nat)
  | msend (dst mailbox src len : Nat)
  deriving DecidableEq, Repr

/-- A copy in flight (R179): its core and entry, live while that core has not been reset or replaced, and the failures so
far with their addresses, the bytes read from a row that still wait to go on (place, bytes, mask), and those whose local destination was
being initialised when they came (R150, R208).  Its unanswered requests, message and narrow accesses stand in RowSt. -/
structure Copy where
  id : Nat
  core : Nat
  live : Bool
  uid : Nat
  pc : Nat
  kind : CopyKind
  tally : Option Nat
  fails : List (Nat × Nat)
  buf : List (Nat × List Byte × Nat) := []
  late : List (Nat × List Byte × Nat) := []
  deriving DecidableEq, Repr

/-- The kind of a row request (Table 9-1). -/
inductive ReqKind where
  | read | write | atomic (kind : Nat)
  deriving DecidableEq, Repr

/-- Where the answer of a row request goes: an access, or the reading or writing side of a copy. -/
inductive ReqOwner where
  | access (id : Nat)
  | copyRead (id : Nat)
  | copyWrite (id : Nat)
  deriving DecidableEq, Repr

/-- A row request of this origin (R308): off is its place in the access; launched is the frame its cell was launched. -/
structure RowReq where
  id : Nat
  owner : ReqOwner
  member : Nat
  kind : ReqKind
  addr : Nat
  len : Nat
  off : Nat
  region : Nat
  key : Nat
  data : List Byte
  mask : Nat
  sb : Nat
  sc : Nat
  sent : Bool
  launched : Option Nat
  deadline : Nat
  seq : Nat
  parts : List (Nat × List Byte × Nat)
  deriving DecidableEq, Repr

/-- A message of this origin (R329, R330). -/
structure Msg where
  id : Nat
  copy : Nat
  dst : Nat
  mailbox : Nat
  data : List Byte
  poison : List Bool
  sent : Bool
  launched : Option Nat
  deadline : Nat
  seq : Nat
  deriving DecidableEq, Repr

/-- A message being received (R331, R332): the frame its first cell arrived and the timeout in force then, its parts by index, and
the buffers they hold (port, coordinate, cage). -/
structure Assembly where
  id : Nat
  src : Nat
  mailbox : Nat
  seq : Nat
  last : Nat
  first : Nat
  limit : Nat
  parts : List (Nat × List Byte × Bool)
  bufs : List (Nat × Nat × Bool)
  deriving DecidableEq, Repr

/-- Where an atomic's answer goes: an ATOM at a local address, a row request of this device served locally (R305), or
another device. -/
inductive AtomReply where
  | access (id : Nat)
  | own (req : Nat)
  | remote (src seq : Nat)
  deriving DecidableEq, Repr

/-- An atomic waiting in the atomic unit (R322): granted when its narrow access has started or it needs none; region is the entry
its request named; old is what it has read, with its poison, while its write is still to come (R323). -/
structure AtomJob where
  id : Nat
  addr : Nat
  kind : Nat
  sb : Nat
  sc : Nat
  reply : AtomReply
  granted : Bool
  region : Nat := 0
  old : Option (Nat × Bool) := none
  deriving DecidableEq, Repr

/-- Who waits for a narrow access (R203, R204): a copy's gather unit, an atomic, a command of the command processor, or a collective
that fetches its tables. -/
inductive NarrowUser where
  | gather (copy : Nat)
  | atomic (job : Nat)
  | command (id : Nat)
  | tables (coll : Nat)
  deriving DecidableEq, Repr

/-- Narrow accesses of one user waiting for tokens of a stack (R204): left is their number, waited whether the next has been seen to
wait. -/
structure Narrow where
  stack : Nat
  cost : Nat
  user : NarrowUser
  waited : Bool
  left : Nat := 1
  deriving DecidableEq, Repr

/-- Copies, accesses, requests, messages, atomics and the narrow path.  tokens: the level of each stack's bucket in 1/6400
token, listed where it differs from full; seqNext: the seq value tried first for the next request or message (R309). -/
structure RowSt where
  accesses : List Access := []
  copies : List Copy := []
  reqs : List RowReq := []
  msgs : List Msg := []
  asm : List Assembly := []
  atoms : List AtomJob := []
  narrow : List Narrow := []
  tokens : List (Nat × Nat) := []
  barriers : List Barrier := []
  seqNext : Nat := 0
  deriving DecidableEq, Repr

/-! ### Command processor (chapter 11) -/

/-- A queue pair that exists (R391 to R395): rings in host memory, the tail and head the host wrote, the phase of the next
completion entry, and interrupt coalescing.  CP_QP_q holds its class, vector and indices. -/
structure QPair where
  q : Nat
  sqBase : Nat
  sqSize : Nat
  cqBase : Nat
  cqSize : Nat
  tail : Nat
  cqHead : Nat
  phase : Bool
  coalCount : Nat
  coalFrames : Nat
  unsignalled : Nat
  since : Nat
  deleting : Bool
  deriving DecidableEq, Repr

/-- Where a command came from: a queue pair of the host, another device, or a queue pair that a reset of the host
interface has deleted since (R389). -/
inductive CmdOrigin where
  | queue (q : Nat)
  | remote (src seq : Nat)
  | silent
  deriving DecidableEq, Repr

/-- How far a command has come: waiting for its frame at its queue's head, begun and not yet executed, executed and waiting
for what ends it, or sent to another device. -/
inductive CmdPhase where
  | held
  | begun
  | running
  | away (seq deadline target : Nat)
  deriving DecidableEq, Repr

/-- A command that has reached its queue's head (Table 11-4).  aux holds what the command keeps while it runs; began is the
model's next name at the moment it began, which orders it against a handover (R488); asked: its narrow accesses have been queued
(R203). -/
structure Cmd where
  id : Nat
  origin : CmdOrigin
  packet : List Byte
  phase : CmdPhase
  aux : List Nat
  began : Nat := 0
  asked : Bool := false
  deriving DecidableEq, Repr

/-- A completion that waits for a free entry (R395). -/
structure Cpl where
  q : Nat
  tag : Nat
  reason : Nat
  w0 : Nat
  w1 : Nat
  w2 : Nat
  poison : Bool
  noIrq : Bool
  deriving DecidableEq, Repr

/-- An event of Table 11-9. -/
structure Event where
  kind : Nat
  w1 : Nat
  w2 : Nat
  deriving DecidableEq, Repr

/-- The command processor.  msix lists the MSI-X messages sent (vectors, newest last); msixTable is the table of BAR0 by offset, where it
differs from its reset value, and msixPending the pending bit array (R384).
lostSince counts events lost since one was last delivered (R404); resetDue is the queue pair (64 for none) and tag of a RESET
of scope 0 whose reset is still to come (R403). -/
structure CpSt where
  qps : List QPair := []
  cmds : List Cmd := []
  cpls : List Cpl := []
  events : List Event := []
  lostSince : Nat := 0
  msix : List Nat := []
  msixTable : List (Nat × Word64) := []
  msixPending : Word64 := 0
  resetDue : Option (Nat × Nat) := none
  linkUp : Bool := false
  trained : Bool := false
  d3hot : Bool := false
  lastRead : List Byte := []
  lastEp : Bool := false
  /-- the queue that the management core of the urgent class served last, and that the other three did (R392) -/
  turnUrgent : Nat := 63
  turnAll : Nat := 63
  deriving DecidableEq, Repr

/-! ### Service of dies, clusters, cores and stacks -/

/-- What the device knows of its units beyond their registers: physical cores (die * 88 + cluster * 11 + position) whose
last BIST failed, clusters (die * 8 + cluster) taken out by OFFLINE, the rows (stack, MC_REPAIR_ADDR) programmed since
manufacture and those being programmed (R225), the state to which a stack changes (R200), and the last Legend (R413). -/
structure SvcSt where
  failed : List Nat := []
  clustersOff : List Nat := []
  repairs : List (Nat × Nat) := []
  repairing : List (Nat × Nat) := []
  changeTo : List (Nat × Nat) := []
  legend : List Byte := []
  deriving DecidableEq, Repr

/-! ### Faults (chapter 12) -/

/-- An event that a source has raised and the classifier has not yet taken (R418): reported level and the two details of
Table 12-3. -/
structure FaultEv where
  src : Nat
  level : Nat
  d0 : Nat
  d1 : Nat
  deriving DecidableEq, Repr

/-! ### The grid (chapter 2) -/

/-- What is known of one partner (port, colour): consecutive echoes within and outside the limit (R57), frames since the
last echo, the arrival error last measured here on its ranging cells, and the advance it reports. -/
structure Partner where
  good : Nat
  bad : Nat
  since : Nat
  measured : Option Int
  reported : Option Nat
  deriving DecidableEq, Repr

/-- What a device holds its grid frequency to (R46, R47): its own oscillator, the grid reference input, or its aligned partners. -/
inductive Anchor where
  | oscillator | reference | partners
  deriving DecidableEq, Repr

/-- The grid block.  silent: frames since a datum announce; holdover: frames counted toward R51, while counting is set; listen:
frames of the cold start; bellRun: consecutive decoded cells on lane 31 from each (port * 16 + coordinate); heard: whether an
announce has been heard since LISTEN began; heardFrame: the grid count last heard less own count; demoted: R49 bars this device
from the master role; anchor: what holds the frequency; phase: the sum of the steps steered so far, in fine steps (R47). -/
structure GridSt where
  partners : List (Nat × Partner) := []
  silent : Nat := 0
  holdover : Nat := 0
  counting : Bool := false
  listen : Nat := 0
  bellRun : List (Nat × Nat) := []
  heard : Bool := false
  heardFrame : Option Int := none
  demoted : Bool := false
  anchor : Anchor := .oscillator
  phase : Int := 0
  deriving DecidableEq, Repr

/-! ### Cells, bell records and the headframe's queues (chapters 7 and 8) -/

/-- A cell between its guard and its CRC (Tables 7-3 and 7-4). -/
structure Cell where
  op : Nat
  len : Nat
  seq : Nat
  hops : Nat
  hopSrc : Nat
  hopDst : Nat
  cls : Nat
  epoch : Nat
  src : Nat
  dst : Nat
  payload : List Byte
  acct : Nat
  deriving DecidableEq, Repr

/-- A cell that a receiver has passed to the headframe and that no step has taken yet. -/
structure RxCell where
  id : Nat
  port : Nat
  lane : Nat
  slot : Nat
  frame : Nat
  cell : Cell
  deriving DecidableEq, Repr

/-- A cell waiting in the headframe to be launched (R289): transit cells carry the port, coordinate and kind of the buffer
they hold; queue is the port and coordinate of the chosen next hop; since is the frame it began to wait, headAt the
frame it came to the head of its queue; relayLimit and escape are the values of FB_CAGE when it was accepted (R66); twin is
the original that a sample duplicate doubles, and leftBy the port by which that has left (R380). -/
structure Waiting where
  id : Nat
  cell : Cell
  transit : Option (Nat × Nat × Bool)
  cage : Bool
  queue : Option (Nat × Nat)
  since : Nat
  headAt : Option Nat
  relayLimit : Nat := 256
  escape : Nat := 8
  twin : Option Nat := none
  leftBy : Option Nat := none
  deriving DecidableEq, Repr

/-- Header fields of a bell record that is not one between partners (R248, R352, R407): its origin, the device it is for, the hops it
has taken, and its sequence number. -/
structure BellVia where
  src : Nat
  dst : Nat
  hops : Nat
  seq : Nat
  deriving DecidableEq, Repr

/-- A bell record waiting for one partner of one port (R275). -/
structure Bell where
  port : Nat
  coord : Nat
  kind : Nat
  payload : List Byte
  via : Option BellVia := none
  deriving DecidableEq, Repr

/-- A cell put on the glass in the frame in progress: the slot and frame at which it is aimed (R56, R74), and the PAM4 levels of its
byte-times 32 to 319, four to a byte (R235). -/
structure Launch where
  port : Nat
  lane : Nat
  slot : Nat
  colour : Nat
  frame : Nat
  levels : List Nat
  deriving DecidableEq, Repr

/-- A misdelivery notice to be sent (R247). -/
structure Notice where
  id : Nat
  port : Nat
  lane : Nat
  slot : Nat
  colour : Nat
  frame : Nat
  coord : Nat
  header : List Byte
  deriving DecidableEq, Repr

/-- The headframe's cells.  sent, credit and freed are counts by (port * 16 + coordinate) * 2 + (1 for cage): cells sent,
credit last received, buffers freed (R276); budget counts transit lane-slots used in this frame by port * 16 +
coordinate, turn tells whose turn the round-robin between transit and local cells is (R285), and served the input last served by
each output queue (R38). -/
structure NetSt where
  rx : List RxCell := []
  waiting : List Waiting := []
  bells : List Bell := []
  notices : List Notice := []
  noticed : List (Nat × Nat) := []
  sent : List (Nat × Nat) := []
  credit : List (Nat × Nat) := []
  freed : List (Nat × Nat) := []
  budget : List (Nat × Nat) := []
  turn : List (Nat × Bool) := []
  served : List (Nat × Nat) := []
  glass : List Launch := []
  deriving DecidableEq, Repr

/-! ### Drifts (chapter 7) -/

/-- One lane beyond its registers.  tPrev: T of the last 10 us step; tf: the last T_f inside the table, in 1/32 degrees C; cold: the
lane holds under R242, and okFor counts 10 us steps in range since; sets: the 16 current sets in force; errs: monitor errors
of the last 256 cells per colour, and lastErr the last one of each colour with its frame; wantRecal: a recalibration is due;
returnAt: the boundary at which a swept lane returns; discarded: a sweep to repeat after HOLD (R259); lastRecal: the frame of
its last scheduled recalibration; written: contour entries a sweep found, (entry, value), not yet in the banks; checking: its
colour check is under way; checked: the result of a check that waits for the port, or of a CAL that failed. -/
structure Lane where
  tPrev : Option Int := none
  tf : Nat := 0
  cold : Bool := false
  okFor : Nat := 0
  sets : List Word64 := []
  errs : List (Nat × List Int) := []
  lastErr : List (Nat × Nat × Int) := []
  wantRecal : Bool := false
  returnAt : Option Nat := none
  discarded : Bool := false
  lastRecal : Nat := 0
  written : List (Nat × Word64) := []
  checking : Bool := false
  checked : Option Bool := none
  deriving DecidableEq, Repr

/-- One drift beyond its registers: sensor readings (1/16 degrees C), T_chip of the last 25 steps of 10 us (newest first), the
10 us steps for which the slope has been at most release_slope, whether its active bank has been loaded, the frame a
contour commit was armed, whether a slope hold applies, and whether its lanes are being checked to end it (R253). -/
structure Drift where
  sensors : List (Option Int) := []
  chip : List Int := []
  calm : Nat := 0
  loaded : Bool := false
  armedAt : Nat := 0
  holding : Bool := false
  releasing : Bool := false
  lanes : List (Nat × Lane) := []
  deriving DecidableEq, Repr

/-! ### Map, Survey, plans and epochs (chapter 8) -/

/-- One Map entry (Table 8-3). -/
structure MapEntry where
  serial : Nat
  fid : Nat
  zbPeer : Nat
  zbColour : Nat
  zbValid : Bool
  deriving DecidableEq, Repr

/-- A Map (Table 8-2). -/
structure FabMap where
  generation : Nat
  sheets : Nat
  ex : Nat
  ey : Nat
  ez : Nat
  twoD : Bool
  atlas : Bool
  master : Nat
  backup : Nat
  entries : List MapEntry
  deriving DecidableEq, Repr

/-- A change to the live set (Table 8-7): 0 live, 1 fenced, 2 absent. -/
structure Change where
  fid : Nat
  state : Nat
  deriving DecidableEq, Repr

/-- An announced epoch change (R292). -/
structure Epoch where
  origin : Nat
  seq : Nat
  frame : Nat
  changes : List Change
  deriving DecidableEq, Repr

/-- What Survey knows of position y of port p, keyed p * 16 + y (R269 to R271): the frame of its last probe, what its last reply
carried (replier ID, serial, Map generation), the position that reply implies for this device, whether its identity has
matched, lanes on which a lane probe from it arrived, lanes still to be probed toward it, lanes probed since the last survey probe,
and lanes that the reply to that probe is to confirm. -/
structure Surveyed where
  probeAt : Option Nat := none
  reply : Option (Nat × Nat × Nat) := none
  implied : Option Nat := none
  matched : Bool := false
  heardLanes : Nat := 0
  toProbe : Nat := 0
  probed : Nat := 0
  asked : Nat := 0
  deriving DecidableEq, Repr

/-- What a partner last announced of its plan (R280, R283): pending, its frame and digest, digest in use, and consecutive
announces that differed. -/
structure PlanHeard where
  pending : Bool := false
  frame : Nat := 0
  digest : Nat := 0
  inUse : Nat := 0
  differ : Nat := 0
  deriving DecidableEq, Repr

/-- A plan switch being cancelled (R280, R281): its port, the first frame that carries PLAN_CANCEL, its frame F and its digest. -/
structure PlanStop where
  port : Nat
  start : Nat
  frame : Nat
  digest : Word64
  deriving DecidableEq, Repr

/-- A pending Map load (R268). -/
structure MapLoad where
  frame : Nat
  map : FabMap
  deriving DecidableEq, Repr

/-- The fabric block beyond its registers.  live0 and live1: the devices not live in the live set of each version, with their
state; map0 and map1: the Map each version was built from; announced: changes not yet in a version, in order of arrival;
built: the switch frame the other version has been built for; seen: (origin, sequence) pairs taken; lastSwitch: the frame
of the last switch; leftLoop: the frame in which each port left loopback; above: the frame since which a degraded port
has been at or above its threshold; plans: what partners announced, by port * 16 + coordinate; fallback: ports that
revert to the default plan; switchedAt: the frame of each port's last plan switch; planSent: the frame of
each port's last announce; cancels: plan switches being cancelled; bellOnly: devices found bell-only, counted (R271). -/
structure FabSt where
  map : Option FabMap := none
  mapNext : Option MapLoad := none
  map0 : Option FabMap := none
  map1 : Option FabMap := none
  live0 : List Change := []
  live1 : List Change := []
  announced : List Epoch := []
  built : Option Nat := none
  seen : List (Nat × Nat) := []
  nextEpochSeq : Nat := 1
  lastSwitch : Nat := 0
  survey : List (Nat × Surveyed) := []
  leftLoop : List (Nat × Nat) := []
  looped : List Nat := []
  above : List (Nat × Nat) := []
  plans : List (Nat × PlanHeard) := []
  fallback : List Nat := []
  switchedAt : List (Nat × Nat) := []
  planSent : List (Nat × Nat) := []
  cancels : List PlanStop := []
  bellOnly : Nat := 0
  deriving DecidableEq, Repr

/-! ### The Canary (chapter 12) -/

/-- The last heartbeat from a device: frame sent, frame of arrival, and its sender's state (R428, R440); inTime: of the last eight that
arrived within eight frames, the frames in which they were sent. -/
structure Heard where
  sent : Nat
  arrived : Nat
  state : Nat
  inTime : List Nat := []
  deriving DecidableEq, Repr

/-- A vote that a SUSPECT brought (R430). -/
structure Vote where
  suspect : Nat
  voter : Nat
  at_ : Nat
  deriving DecidableEq, Repr

/-- The Canary beyond its registers.  heard: by fabric ID; checked: the last heartbeat frame judged, and missed: consecutive
misses, of each partner (axis * 16 + coordinate, 48 for the ZB peer); suspects: row members suspected (x, frame it began);
voted: frame of the last SUSPECT for each; quorum: frame since which quorum has been held; verdicts: verdicts reached, and
SELF_DEAD taken as such, whose announce may still be due (x, frame); minorityAt: frame since which the device has been in
minority; deadLeft: SELF_DEAD records still to be sent, frame of the next, and the source that declared it. -/
structure CanarySt where
  heard : List (Nat × Heard) := []
  checked : List (Nat × Nat) := []
  missed : List (Nat × Nat) := []
  suspects : List (Nat × Nat) := []
  voted : List (Nat × Nat) := []
  votes : List Vote := []
  quorum : List (Nat × Nat) := []
  verdicts : List (Nat × Nat) := []
  reached : List Nat := []
  minorityAt : Option Nat := none
  deadLeft : Option (Nat × Nat × Nat) := none
  beatAt : Option Nat := none
  deriving DecidableEq, Repr

/-- The classifier beyond its registers (R419, R425, R426, R442): frames at which windows opened, records not yet read, records
lost since the last read, and the margins sampled: unit (set * 4096 + die or drift * 64 + cluster or lane), present and least
margin since the last read of the set, with the frame of the sample. -/
structure FaultSt where
  opened : List (Nat × Nat) := []
  log : List (List Byte) := []
  lost : Nat := 0
  margins : List (Nat × Int × Int) := []
  sampledAt : Nat := 0
  deriving DecidableEq, Repr

/-! ### Collectives (chapter 10) -/

/-- A cell that a collective's slot has taken: the member it came from, whether it is a sample duplicate, its place in the
chunk, its payload, and the exponent byte or proposal of its accounting field. -/
structure CollPart where
  src : Nat
  dup : Bool
  pos : Nat
  data : List Byte
  acct : Nat
  deriving DecidableEq, Repr

/-- A chunk (or block) of one part and stage that is being received (R348, R349): this member's own contribution once it is
ready, its 16 exponent bytes, the running sum by element in arrival order, and the cells taken. -/
structure CollSlot where
  part : Nat
  stage : Nat
  item : Nat
  own : Option (List Word32)
  ex : List Int
  sum : List (Option Word32)
  cells : List CollPart
  deriving DecidableEq, Repr

/-- A held collective: its record (Table 10-3), the command that waits for it, the frame it began and its seed, whether AUTO
chose LATENCY, the cells that wait for the engine, the slots being received, results still to be written and reduce
slots still to be completed, saturations, whether this member applied, whether it has completed, and what the seal
holds: records heard (stage, member, lag), stages sent, and the largest lag seen with its member (R374, R379); opened: its data
phase has begun, table: its AS8 scale table as read then (R354), satTold: saturations already reported (R357). -/
structure Coll where
  id : Nat
  record : List Byte
  cmd : Option Nat
  begun : Option Nat := none
  seed : Word64 := 0
  latency : Bool := false
  cells : List RxCell := []
  slots : List CollSlot := []
  toWrite : Nat := 0
  toSum : Nat := 0
  sat : Nat := 0
  applied : Bool := false
  completed : Bool := false
  dataDone : Bool := false
  heard : List (Nat × Nat × Nat) := []
  sentDone : Nat := 0
  slowLag : Nat := 0
  slowId : Nat := 0
  opened : Bool := false
  table : List Byte := []
  satTold : Nat := 0
  deriving DecidableEq, Repr

/-- An abort that this member has sent or forwarded and repeats (R373). -/
structure CollAbort where
  id : Nat
  group : Nat
  tag : Nat
  payload : List Byte
  since : Nat
  next : Nat
  deriving DecidableEq, Repr

/-- The COLL_DONE records of a collective, repeated until 1,024 frames after the seal (R374): axis, frame last sent, and
payload. -/
structure CollDones where
  coll : Nat
  group : Nat
  recs : List (Nat × Nat × List Byte)
  sealedAt : Option Nat
  deriving DecidableEq, Repr

/-- The digests of one collective: for each group partner, over the cells sent and over the cells received (R381). -/
structure CollDigest where
  tag : Nat
  coll : Nat
  pairs : List (Nat × Word64 × Word64)
  deriving DecidableEq, Repr

/-- What a seal records (R379): the slowest member and its lag, and the lag of each direct partner (axis * 16 + coordinate). -/
structure CollLag where
  tag : Nat
  member : Nat
  lag : Nat
  peers : List (Nat × Nat)
  deriving DecidableEq, Repr

/-- The collective engine.  ended: (group, tag) of collectives ended, newest first; applied: (group, tag) of Smelts applied,
newest first (R371); submits: records submitted from memory that is being initialised (R150, R208). -/
structure CollSt where
  held : List Coll := []
  ended : List (Nat × Nat) := []
  aborts : List CollAbort := []
  dones : List CollDones := []
  digests : List CollDigest := []
  lags : List CollLag := []
  applied : List (Nat × Nat) := []
  submits : List Nat := []
  deriving DecidableEq, Repr

/-! ### Temperature and power (chapter 13) -/

/-- One zone beyond its registers (R449 to R452, R456): its previous sample, whether it is at advisory and at critical, the frame
its grace time ends, whether that has ended (the stepping of R451), whether it holds its set's ceiling down, the samples at
which it last stepped and was released, samples below critical minus 5 in a row, the highest temperatures since the last
read of the register and since the last THERMAL_READ, and whether a swap makes the next sample judge it afresh. -/
structure Zone where
  prev : Option Int := none
  adv : Bool := false
  crit : Bool := false
  grace : Option Nat := none
  forced : Bool := false
  enf : Bool := false
  stepAt : Nat := 0
  relAt : Option Nat := none
  calm : Nat := 0
  peak : Option Int := none
  hostPeak : Option Int := none
  rejudge : Bool := false
  deriving DecidableEq, Repr

/-- Temperature and power beyond the registers.  runs: last count of each sensor (zone * 32 + number) and how often it has come in
a row; tick and ptick: sensor and power samples of 2 us taken; ceil: thermal ceilings of dies below nominal, in MHz; power:
the power ceiling; bucket: the excess bucket in pJ; pStepAt: the power sample of the last step of the ceiling; nOver and
nUnder: consecutive power samples above, and at or below, the peak limit; the four others count consecutive samples of each
input beyond the limits of R461. -/
structure ThermalSt where
  zones : List (Nat × Zone) := []
  runs : List (Nat × Nat × Nat) := []
  tick : Nat := 0
  ptick : Nat := 0
  sampledAt : Nat := 0
  ceil : List (Nat × Nat) := []
  power : Nat := 2200
  bucket : Nat := 0
  watts : Nat := 0
  pStepAt : Nat := 0
  nOver : Nat := 0
  nUnder : Nat := 0
  mainLow : Nat := 0
  mainHigh : Nat := 0
  auxOut : Nat := 0
  stbyOut : Nat := 0
  deriving DecidableEq, Repr

/-- Where the rails stand (Table 13-4): off, in a step of power-up, on (main power good), or in a step of power-down. -/
inductive RailPhase where
  | off
  | up (step : Nat)
  | on
  | down (step : Nat)
  deriving DecidableEq, Repr

/-- What keeps the rails off (R453, R464): nothing, a shutdown (until PWR_EN or the main input has been cycled), or a rail
fault (until PWR_EN has been cycled). -/
inductive RailHold where
  | none | shutdown | railFault
  deriving DecidableEq, Repr

/-- The standby controller: what it keeps through a module reset.  Inputs in mV as last given; dies and drifts whose rails
failed; strap: HF_PKG_STRAP as latched at the last boot; shutdown: TM_SHUTDOWN while the rails are off; i3c: the last answer
of the I3C port. -/
structure PowerSt where
  phase : RailPhase := .on
  pwrEn : Bool := true
  hold : RailHold := .none
  mainMv : Nat := 48000
  auxMv : Nat := 12000
  standbyMv : Nat := 3300
  deadDies : List Nat := []
  deadDrifts : List Nat := []
  railFault : Bool := false
  strap : Word64 := 0
  i3c : List Byte := []
  deriving DecidableEq, Repr

/-- The test port (R506): the bypass bit, the identification and boundary chains as last shifted out, the preloaded values and
the pins that EXTEST drives. -/
structure TapSt where
  bypass : Bool := false
  out : List Bool := []
  preload : List Bool := []
  driven : Option (List Bool) := none
  deriving DecidableEq, Repr

/-! ### Flash, firmware and identity (chapter 14) -/

/-- A firmware slot whose commit record stands (R479, R481): version, payload length, the record's digest (none for an image that
stood in the flash at manufacture, whose digest Config gives), store sequence, and whether digest and signature verify. -/
structure FwSlot where
  version : Nat
  length : Nat
  digest : Option (List Byte)
  seq : Nat
  good : Bool
  deriving DecidableEq, Repr

/-- A contour slot whose commit record stands: its table (entry, value), zero where nothing is listed, and store sequence. -/
structure ContourSlot where
  table : List (Nat × Word64)
  seq : Nat
  deriving DecidableEq, Repr

/-- Module flash and fuses, kept through resets and power-off: firmware slots by component * 2 + slot, contour slots by
drift * 2 + slot, and the programmed fuse words of each component, oldest first (R484). -/
structure FlashSt where
  fw : List (Nat × FwSlot) := (List.range 5).map fun k => (2 * k, ⟨1, 4096, none, 1, true⟩)
  contour : List (Nat × ContourSlot) := (List.range 6).map fun n => (2 * n, ⟨[], 1⟩)
  fuses : List (Nat × List Nat) := []
  deriving DecidableEq, Repr

/-- A firmware handover (R486, R487): its component, its command, F, whether the units have switched at F, the version and slot
of the old code, the cores still on it, and the model's next name at the switch, from which commands have begun since (R488). -/
structure Handover where
  comp : Nat
  cmd : Nat
  frame : Nat
  switched : Bool
  oldVersion : Nat
  oldSlot : Nat
  oldCores : List Nat
  firstId : Nat
  deriving DecidableEq, Repr

/-- A measurement of a component (R491): slot, version, the frame from which it has been in use, and the commit record's digest. -/
structure Measure where
  slot : Nat
  version : Nat
  since : Nat
  digest : Option (List Byte)
  deriving DecidableEq, Repr

/-- Firmware and identity beyond the registers.  legend: version and slot that the Legend shows, by component; done: handovers
completed since module reset; measured: the components as last measured; contours: tables loaded at boot, by drift; nonce:
HF_AUTH_NONCE; auth: the authorisation in force with the frame of its acceptance; tried: the Sorarn slots whose attempts
failed at this boot (R477). -/
structure FwSt where
  handovers : List Handover := []
  legend : List (Nat × Nat × Nat) := []
  done : Nat := 0
  measured : List (Nat × Measure) := []
  contours : List (Nat × List (Nat × Word64)) := []
  nonce : List Word64 := []
  auth : Option (List Byte × Nat) := none
  tried : List Nat := []
  deriving DecidableEq, Repr

/-- The whole device but its queue of commands.  hostEp marks the bytes of host memory that the device wrote with EP set (R386). -/
structure Dev where
  regs : List (Nat × Word64) := []
  next : List (Nat × Word64) := []
  ram : Ram := {}
  host : List Host.Cell := []
  hostEp : List (Nat × Bool) := []
  cores : List (Nat × Core) := []
  row : RowSt := {}
  cp : CpSt := {}
  svc : SvcSt := {}
  grid : GridSt := {}
  net : NetSt := {}
  drifts : List (Nat × Drift) := []
  fab : FabSt := {}
  coll : CollSt := {}
  canary : CanarySt := {}
  ft : FaultSt := {}
  tm : ThermalSt := {}
  pw : PowerSt := {}
  tap : TapSt := {}
  flash : FlashSt := {}
  fw : FwSt := {}
  faults : List FaultEv := []
  /-- the model's own counter: how many free values have been drawn -/
  freeCtr : Nat := 0
  /-- the model's own counter: the next name given to a command, access, copy or message -/
  nextId : Nat := 1
  deriving DecidableEq, Repr

/-- The state: the commands that wait, first in first out, and the device. -/
structure State where
  pending : List Instr
  dev : Dev
  deriving DecidableEq, Repr

/-- A command that ends in a stop.  No command of this device does: a step whose condition does not hold changes
nothing (notes/assumptions). -/
inductive Fault where
  /-- no command raises it; the type needs a value -/
  | none
  deriving DecidableEq, Repr

/-- A command that has no meaning. -/
inductive Refusal where
  /-- raised by the arm of a command that the model does not give a meaning to; safe -/
  | notModelled (mnemonic : String)
  deriving DecidableEq, Repr

/-- The machine right after module reset: no command waits, every register at its reset value, every memory 0. -/
def State.reset : State := { pending := [], dev := {} }

end Sys2Proof.Machine
end

