-- ==== Sys2Proof/Machine/Ops.lean ====
section
/-!
DEFINITION. Sys2Proof/Machine/Ops.lean: the named operations on registers, free values, names and host memory.
-/

namespace Sys2Proof.Machine

/-- A command whose effect on everything but the queue is f. -/
def State.act (s : State) (f : Dev → Dev) : Host.Outcome State Fault Refusal := .next { s with dev := f s.dev }

/-! ### Registers -/

/-- The value in use of the register at an offset of register space. -/
def Dev.reg (d : Dev) (off : Nat) : Word64 := smGet regReset d.regs off

/-- Write the value in use of a register, whatever its access type. -/
def Dev.setReg (d : Dev) (off : Nat) (v : Word64) : Dev := { d with regs := smPut regReset d.regs off v }

/-- A field of the value in use. -/
def Dev.fld (d : Dev) (f : Fld) : Nat := wget (d.reg f.off) f.hi f.lo

/-- Write one field. -/
def Dev.setFld (d : Dev) (f : Fld) (v : Nat) : Dev := d.setReg f.off (wput (d.reg f.off) f.hi f.lo v)

/-- Whether a one-bit field is set. -/
def Dev.flag (d : Dev) (f : Fld) : Bool := d.fld f != 0

/-- Raise a counting field by n, saturating at its width. -/
def Dev.countSat (d : Dev) (f : Fld) (n : Nat) : Dev := d.setFld f (satAdd (f.hi + 1 - f.lo) (d.fld f) n)

/-- Raise a counting field by n, wrapping at its width. -/
def Dev.countWrap (d : Dev) (f : Fld) (n : Nat) : Dev := d.setFld f (d.fld f + n)

/-- Return every register of a range of offsets to its reset value. -/
def Dev.resetRegs (d : Dev) (lo hi : Nat) : Dev :=
  { d with regs := smClear d.regs lo hi, next := smClear d.next lo hi }

/-- Grid time. -/
def Dev.frame (d : Dev) : Nat := (d.reg GD_FRAME).toNat

/-- The variant of the module (Table 1-2): 1 FB-VYC12F, 2 FB-VYC12B, 3 FB-VYC08B. -/
def Dev.variant (d : Dev) : Nat := d.fld HF_PKG_STRAP_variant

/-- Whether host-ready has been reached. -/
def Dev.ready (d : Dev) : Bool := d.flag CP_STATUS_ready

/-- Whether compute die n is in service (Table 1-3). -/
def Dev.dieUp (d : Dev) (n : Nat) : Bool := decide (n < 12) && d.flag (HF_DIE_STRAP_in_service n)

/-- Whether compute die n is fitted on this variant (Table 0-1). -/
def Dev.dieFitted (d : Dev) (n : Nat) : Bool := decide (n < 12) && !(d.variant == 3 && decide (n % 3 = 2))

/-- Whether drift n is fitted on this variant and powered (Table 0-1, R33, R464). -/
def Dev.driftFitted (d : Dev) (n : Nat) : Bool :=
  (decide (n < 4) || (decide (n < 6) && d.variant == 1)) && !d.pw.deadDrifts.contains n

/-! ### Free values and names -/

/-- The next free value, without drawing it. -/
def Dev.freeAt (d : Dev) (i : Nat) : Word64 := Config.freeWord (d.freeCtr + i)

/-- Mark n free values as drawn. -/
def Dev.draw (d : Dev) (n : Nat) : Dev := { d with freeCtr := d.freeCtr + n }

/-- Take a new name. -/
def Dev.bump (d : Dev) : Dev := { d with nextId := d.nextId + 1 }

/-! ### Host memory (bytes of the host bus; a byte never written reads 0) -/

/-- What an unlisted byte of host memory reads as. -/
def zeroByte (_ : Nat) : Byte := 0

/-- n bytes of host memory. -/
def Dev.hostRead (d : Dev) (a n : Nat) : List Byte := (List.range n).map fun i => smGet zeroByte d.host (a + i)

/-- Store bytes in a canonical byte map. -/
def putBytes (m : List Host.Cell) (a : Nat) : List Byte → List Host.Cell
  | [] => m
  | b :: t => putBytes (smPut zeroByte m a b) (a + 1) t

/-- The EP marks of host memory after n bytes at a are written, those in bad with EP set (R386). -/
def putMarks (m : List (Nat × Bool)) (a n : Nat) (bad : List Nat) : List (Nat × Bool) :=
  bad.foldl (fun m i => smPut (fun _ => false) m (a + i) true) (m.filter fun e => decide (e.1 < a) || decide (a + n ≤ e.1))

/-- Write bytes of host memory, those at the places in bad in writes with EP set (R386). -/
def Dev.hostWrite (d : Dev) (a : Nat) (l : List Byte) (bad : List Nat := []) : Dev :=
  { d with host := putBytes d.host a l, hostEp := putMarks d.hostEp a l.length bad }

/-! ### Cores -/

/-- The state of a core that nothing has written: everything 0, every engine unconfigured (R150, R166). -/
def Core.fresh : Core := {}

/-- Package core k. -/
def Dev.core (d : Dev) (k : Nat) : Core := smGet (fun _ => Core.fresh) d.cores k

/-- Write package core k. -/
def Dev.setCore (d : Dev) (k : Nat) (c : Core) : Dev :=
  { d with cores := smPut (fun _ => Core.fresh) d.cores k c }

/-- Change package core k. -/
def Dev.modCore (d : Dev) (k : Nat) (f : Core → Core) : Dev := d.setCore k (f (d.core k))

/-- The compute die, logical number, cluster and position of package core k (R34). -/
def dieOf (k : Nat) : Nat := k / 80
def localOf (k : Nat) : Nat := k % 80
def clusterOf (k : Nat) : Nat := k % 80 / 10
def posOf (k : Nat) : Nat := k % 10

/-- SQ_STATUS.state of core k. -/
def Dev.coreState (d : Dev) (k : Nat) : Nat := d.fld (SQ_STATUS_state k)

end Sys2Proof.Machine
end

