-- ==== Sys2Proof/Machine/Flags.lean ====
section
/-!
DEFINITION. Sys2Proof/Machine/Flags.lean: how a unit reports: fault sources (R417), the cause flag of a source (R420), command
packets and completions (R396, R398), device events (R404), reason codes (Table 11-12) and trap codes (Table 5-15).
-/

namespace Sys2Proof.Machine

/-! ### Reason codes (Table 11-12) -/

def OK : Nat := 0x0000
def BAD_OPCODE : Nat := 0x0101
def BAD_LENGTH : Nat := 0x0102
def BAD_FIELD : Nat := 0x0103
def CFG_RANGE : Nat := 0x0201
def CFG_CONFLICT : Nat := 0x0202
def CFG_PLAN_COLLISION : Nat := 0x0203
def CFG_MAP_MISMATCH : Nat := 0x0204
def BUSY_RUNNING : Nat := 0x0301
def QUEUE_FULL : Nat := 0x0302
def ABSENT_UNIT : Nat := 0x0401
def KEY_MISMATCH : Nat := 0x0501
def OUT_OF_REGION : Nat := 0x0502
def TIMEOUT_REMOTE : Nat := 0x0601
def TIMEOUT_COLLECTIVE : Nat := 0x0602
def PEER_FENCED : Nat := 0x0701
def NO_ROUTE : Nat := 0x0702
def MISDELIVERED : Nat := 0x0703
def COLL_ORDER_MISMATCH : Nat := 0x0801
def COLL_ABORTED : Nat := 0x0802
def COLL_INTEGRITY : Nat := 0x0803
def TEMP_GATED : Nat := 0x0901
def THROTTLED : Nat := 0x0902
def SIG_INVALID : Nat := 0x0A01
def ROLLBACK_REFUSED : Nat := 0x0A02
def UNCORRECTABLE : Nat := 0x0B01
def FAULT_ACTIVE : Nat := 0x0C01
def CORE_TRAPPED : Nat := 0x0C02

/-! ### Fault sources -/

/-- A source raises an event at a level, with the details of Table 12-3 (R417). -/
def Dev.raise (d : Dev) (src level d0 d1 : Nat) : Dev := { d with faults := d.faults ++ [⟨src, level, d0, d1⟩] }

/-- Whether the cause of a source persists (R420). -/
def Dev.setActive (d : Dev) (src : Nat) (b : Bool) : Dev := d.setFld (FT_SRC_STAT_active src) (b2n b)

/-- Detail 0 of a drift or fabric source (Table 12-3). -/
def portDetail (port lane fid : Nat) : Nat := port + lane * 2 ^ 8 + fid * 2 ^ 32

/-! ### What a boundary owes (R76) -/

/-- A launch-governing switch due at this boundary or an earlier one has still to be taken: a slot plan, a contour table, the Map or
a routing version.  Commands scheduled at the boundary and cores waiting for it come after (R76). -/
def Dev.switchDue (d : Dev) : Bool :=
  (List.range 6).any (fun n =>
    (decide (1 ≤ d.fld (FB_PLAN_CTRL_state n)) && decide (d.fld (FB_PLAN_CTRL_state n) ≤ 2) &&
      decide (d.fld (FB_PLAN_FRAME_frame n) ≤ d.frame)) ||
    (d.fld (DR_CONTOUR_CTRL_state n) == 1 && decide (d.fld (DR_CONTOUR_FRAME_frame n) ≤ d.frame))) ||
  (match d.fab.mapNext with | some m => decide (m.frame ≤ d.frame) | none => false) ||
  (match d.fab.built with | some f => decide (f ≤ d.frame) | none => false)

/-! ### Command packets (Tables 11-4 and 11-5) -/

def Cmd.opcode (c : Cmd) : Nat := leAt c.packet 0 2
def Cmd.flags (c : Cmd) : Nat := leAt c.packet 2 2
def Cmd.tag (c : Cmd) : Nat := leAt c.packet 4 4
def Cmd.frame (c : Cmd) : Nat := leAt c.packet 8 8
def Cmd.target (c : Cmd) : Nat := leAt c.packet 16 4
/-- Parameter word p0 to p4. -/
def Cmd.p (c : Cmd) (i : Nat) : Nat := leAt c.packet (24 + 8 * i) 8
def Cmd.atFrame (c : Cmd) : Bool := bitAt c.flags 0
def Cmd.notBefore (c : Cmd) : Bool := bitAt c.flags 1
def Cmd.serial (c : Cmd) : Bool := bitAt c.flags 2
def Cmd.isRemote (c : Cmd) : Bool := bitAt c.flags 3
def Cmd.noIrq (c : Cmd) : Bool := bitAt c.flags 4

/-- The command with a name. -/
def Dev.findCmd (d : Dev) (id : Nat) : Option Cmd := d.cp.cmds.find? (·.id == id)

/-- Change a command in place. -/
def Dev.modCmd (d : Dev) (id : Nat) (f : Cmd → Cmd) : Dev :=
  { d with cp := { d.cp with cmds := d.cp.cmds.map fun c => if c.id == id then f c else c } }

/-- Drop a command. -/
def Dev.dropCmd (d : Dev) (id : Nat) : Dev :=
  { d with cp := { d.cp with cmds := d.cp.cmds.filter (·.id != id) } }

/-- Queue a completion of a command on its queue pair, and count it (R395, Table 11-17); a command whose queue pair a host
reset deleted posts none (R389). -/
def Dev.completeLocal (d : Dev) (c : Cmd) (reason w0 w1 w2 : Nat) (poison : Bool) : Dev :=
  let d := (d.dropCmd c.id).countSat (if reason = OK then CP_CMD_CNT_ok else CP_CMD_CNT_failed) 1
  match c.origin with
  | .queue q => { d with cp := { d.cp with cpls := d.cp.cpls ++
      [⟨q, c.tag, reason, w0 % 2 ^ 32, w1 % 2 ^ 32, w2 % 2 ^ 32, poison, c.noIrq⟩] } }
  | _ => d

/-! ### Device events (R404) -/

/-- Opcode of AWAIT_EVENT. -/
def opAwaitEvent : Nat := 0x0106

/-- The AWAIT_EVENT commands that wait, oldest first. -/
def Dev.awaiting (d : Dev) : List Cmd := d.cp.cmds.filter fun c => c.opcode == opAwaitEvent && c.phase == .running

/-- Keep CP_EVENT_STAT's waiting and held fields in step. -/
def Dev.eventStat (d : Dev) : Dev :=
  (d.setFld CP_EVENT_STAT_waiting d.awaiting.length).setFld CP_EVENT_STAT_held d.cp.events.length

/-- Deliver an event to a waiting AWAIT_EVENT (Table 11-9); w0 [31:16] holds the events lost since the last delivery. -/
def Dev.deliver (d : Dev) (c : Cmd) (e : Event) : Dev :=
  let lost := min d.cp.lostSince 0xFFFF
  { (d.completeLocal c OK (e.kind + lost * 2 ^ 16) e.w1 e.w2 false) with
    cp := { (d.completeLocal c OK (e.kind + lost * 2 ^ 16) e.w1 e.w2 false).cp with lostSince := 0 } }

/-- A device event: it completes the oldest waiting AWAIT_EVENT, is held (up to 256), or is counted as lost (R404). -/
def Dev.event (d : Dev) (kind w1 w2 : Nat) : Dev :=
  match d.awaiting with
  | c :: _ => (d.deliver c ⟨kind, w1, w2⟩).eventStat
  | [] =>
    if d.cp.events.length < 256 then
      Dev.eventStat { d with cp := { d.cp with events := d.cp.events ++ [⟨kind, w1, w2⟩] } }
    else
      let d := d.countSat CP_EVENT_STAT_lost 1
      { d with cp := { d.cp with lostSince := d.cp.lostSince + 1 } }

end Sys2Proof.Machine
end

