-- ==== Sys2Proof/Machine/Vein.lean ====
section
/-!
DEFINITION. Sys2Proof/Machine/Vein.lean: the vein code (R209 to R211, R214): GF(16), the columns of Table 6-4, the check bits of
a clean word, and decoding from a syndrome.
-/

namespace Sys2Proof.Machine

/-- Times α in GF(16) built on x^4 + x + 1. -/
def gfDouble (a : Nat) : Nat := if a % 16 ≥ 8 then (2 * (a % 16)) % 16 ^^^ 3 else 2 * (a % 16)

/-- The product in GF(16). -/
def gfMul (a b : Nat) : Nat :=
  (if bitAt b 0 then a % 16 else 0) ^^^ (if bitAt b 1 then gfDouble a else 0) ^^^
  (if bitAt b 2 then gfDouble (gfDouble a) else 0) ^^^ (if bitAt b 3 then gfDouble (gfDouble (gfDouble a)) else 0)

/-- The inverse in GF(16) of a non-zero element, a^14. -/
def gfInv (a : Nat) : Nat :=
  let a2 := gfMul a a; let a4 := gfMul a2 a2; let a8 := gfMul a4 a4
  gfMul a8 (gfMul a4 a2)

/-- Q(x, y) = x² + xy + 8y² (R209). -/
def gfQ (x y : Nat) : Nat := gfMul x x ^^^ gfMul x y ^^^ gfMul 8 (gfMul y y)

/-- A column or syndrome: four elements of GF(16). -/
structure Col where
  h0 : Nat
  h1 : Nat
  h2 : Nat
  h3 : Nat
  deriving DecidableEq, Repr

def Col.add (a b : Col) : Col := ⟨a.h0 ^^^ b.h0, a.h1 ^^^ b.h1, a.h2 ^^^ b.h2, a.h3 ^^^ b.h3⟩
def Col.scale (e : Nat) (a : Col) : Col := ⟨gfMul e a.h0, gfMul e a.h1, gfMul e a.h2, gfMul e a.h3⟩

/-- The column of data symbol i (Table 6-4). -/
def dataCol (i : Nat) : Col :=
  let n := if i < 14 then i + 2 else i + 3
  ⟨1, n % 16, n / 16, gfQ (n % 16) (n / 16)⟩

/-- The column of check symbol k (Table 6-4). -/
def checkCol (k : Nat) : Col :=
  if k = 0 then ⟨1, 0, 0, 0⟩ else if k = 1 then ⟨0, 0, 0, 1⟩ else if k = 2 then ⟨1, 1, 0, 1⟩ else ⟨1, 0, 1, 8⟩

/-- T, the sum of the data symbols times their columns (R210). -/
def dataSum (w : Nat) : Nat → Col
  | 0 => ⟨0, 0, 0, 0⟩
  | n + 1 => (dataSum w n).add (Col.scale (digit 4 w n) (dataCol n))

/-- The check bits of a clean 128-bit word (R210). -/
def cleanCheck (w : Nat) : BitVec 16 :=
  let t := dataSum w 32
  BitVec.ofNat 16 ((t.h0 ^^^ t.h1 ^^^ t.h2) + 16 * (t.h3 ^^^ t.h1 ^^^ gfMul 8 t.h2) + 256 * t.h1 + 4096 * t.h2)

/-- The poison mark (R214). -/
def poisonMark : BitVec 16 := 0x0111

/-- The syndrome of a word whose stored check bits differ from the clean ones by c (R210). -/
def syndrome (c : BitVec 16) : Col :=
  ((Col.scale (digit 4 c.toNat 0) (checkCol 0)).add (Col.scale (digit 4 c.toNat 1) (checkCol 1))).add
  ((Col.scale (digit 4 c.toNat 2) (checkCol 2)).add (Col.scale (digit 4 c.toNat 3) (checkCol 3)))

/-- What the decoder finds (R211). -/
abbrev Verdict := VeinAnswer

/-- Decode a syndrome (R211). -/
def verdictOf (s : Col) : Verdict :=
  if s = ⟨0, 0, 0, 0⟩ then .clean
  else if s = ⟨0, 1, 0, 0⟩ then .poisoned
  else if s.h0 ≠ 0 then
    let q := Col.scale (gfInv s.h0) s
    let n := q.h1 + 16 * q.h2
    if q.h3 ≠ gfQ q.h1 q.h2 then .bad
    else if n = 0 ∨ n = 1 ∨ n = 16 then .check
    else if n < 16 then .data (n - 2) s.h0
    else if n ≤ 34 then .data (n - 3) s.h0
    else .bad
  else if s.h1 = 0 ∧ s.h2 = 0 then .check
  else .bad

/-- Decode a word from the difference of its check bits. -/
def veinDecode (c : BitVec 16) : Verdict := verdictOf (syndrome c)

/-- The difference of check bits after symbol number n (0 to 31 data, 32 to 35 check) of a stored word is altered by v
(R516). -/
def symbolDiff (n v : Nat) : BitVec 16 :=
  if n < 32 then cleanCheck (v * 2 ^ (4 * n))
  else if n < 36 then BitVec.ofNat 16 (v * 2 ^ (4 * (n - 32)))
  else 0

/-! ### The self-test of a checker (R223) -/

/-- One word of the self-test: its number among the 16 fixed words, the error put into its check bits, and the answers that pass. -/
structure VeinTest where
  word : Nat
  diff : BitVec 16
  ok : Verdict → Bool

/-- The self-test: 16 clean words, one error in each position, one in each pair of positions, and the poison mark. -/
def veinTests : List VeinTest :=
  ((List.range 16).map fun w => ⟨w, 0, (· == .clean)⟩) ++
  ((List.range 36).flatMap fun n => [1, 8, 15].map fun v => ⟨0, symbolDiff n v, (· == if n < 32 then .data n v else .check)⟩) ++
  ((List.range 36).flatMap fun m => (List.range m).map fun n =>
    ⟨0, symbolDiff n 1 ^^^ symbolDiff m 1, fun x => x == .bad || x == .poisoned⟩) ++
  [⟨0, poisonMark, (· == .poisoned)⟩]

/-- Whether a checker passes, given what it answers to a word number and an error. -/
def selfTest (f : Nat → BitVec 16 → Verdict) : Bool := veinTests.all fun t => t.ok (f t.word t.diff)

/-- A checker as a list of its faults describes it. -/
def checkerAnswer (faults : List VeinFault) (checker word : Nat) (diff : BitVec 16) : Verdict :=
  match faults.find? fun x => x.checker == checker && x.word == word && x.diff == diff with
  | some x => x.answer
  | none => veinDecode diff

end Sys2Proof.Machine
end

