-- ==== Sys2Proof/Machine/Memory.lean ====
section
/-!
DEFINITION. Sys2Proof/Machine/Memory.lean: the local address map, the interleave, and reads and writes through the vein code
(R192 to R200, R210 to R219, R516).  A local address is turned into a cell key: an HBM byte has the key
stack * 2^36 + offset, every other byte its local address.
-/

namespace Sys2Proof.Machine

/-! ### The address map -/

/-- The memory that holds an address. -/
inductive MemUnit where
  | hbm (stack : Nat)
  | seam (die : Nat)
  | scratch (core : Nat)
  | cluster (die cluster : Nat)
  deriving DecidableEq, Repr

/-- A unit and the cell key of a byte. -/
structure Place where
  unit : MemUnit
  key : Nat
  deriving DecidableEq, Repr

def hbmTop : Nat := 0xC000000000
def baseSpan : Nat := 0x3000000000
def stackSpan : Nat := 0xC00000000
def seamBase : Nat := 0x010000000000
def scratchBase : Nat := 0x020000000000
def stackKey : Nat := 2 ^ 36

/-- MC_STATUS.state of stack s. -/
def Dev.stackState (d : Dev) (s : Nat) : Nat := d.fld (MC_STATUS_state s)

/-- The stacks of base die b that are in service, ascending. -/
def Dev.stacksUp (d : Dev) (b : Nat) : List Nat := [4 * b, 4 * b + 1, 4 * b + 2, 4 * b + 3].filter (d.stackState · == 2)

/-- Whether a change of base die b's range is under way (R200 step 1). -/
def Dev.baseChanging (d : Dev) (b : Nat) : Bool := [4 * b, 4 * b + 1, 4 * b + 2, 4 * b + 3].any (d.stackState · == 3)

/-- Whether the interleave is package-wide (Table 6-7). -/
def Dev.packageWide (d : Dev) : Bool := d.flag HF_HBM_MODE_mode

/-- Stack and offset of an HBM address in package-wide mode (R195). -/
def widePlace (a : Nat) : Nat × Nat :=
  let g := a / 4096
  (g % 16 ^^^ (g / 16) % 16 ^^^ (g / 256) % 16, (g / 16) * 4096 + a % 4096)

/-- Stack and offset of an HBM address in local-first mode, all four stacks of its base die in service (R194). -/
def localPlace4 (a : Nat) : Nat × Nat :=
  let b := a / baseSpan
  let g := (a % baseSpan) / 4096
  (4 * b + (g % 4 ^^^ (g / 4) % 4 ^^^ (g / 16) % 4), (g / 4) * 4096 + a % 4096)

/-- Stack and offset of an HBM address, or none when it is not mapped (R194, R195, R199, R200). -/
def Dev.hbmPlace (d : Dev) (a : Nat) : Option (Nat × Nat) :=
  let b := a / baseSpan
  if d.packageWide then
    let p := widePlace a
    if d.stackState p.1 = 2 then some p else none
  else if d.baseChanging b then none
  else
    let ups := d.stacksUp b
    let k := ups.length
    if k = 4 then some (localPlace4 a)
    else if a % baseSpan < k * stackSpan then
      let g := (a % baseSpan) / 4096
      some (ups.getD (g % k) 0, (g / k) * 4096 + a % 4096)
    else none

/-- Where a local address lies; none when it is absent (R192, R193) or in register space (R520). -/
def Dev.place (d : Dev) (a : Nat) : Option Place :=
  if a < hbmTop then
    match d.hbmPlace a with
    | some (s, o) => some ⟨.hbm s, s * stackKey + o⟩
    | none => none
  else if seamBase ≤ a ∧ a < seamBase + 12 * 2 ^ 30 then
    let n := (a - seamBase) / 2 ^ 30
    if d.dieUp n then some ⟨.seam n, a⟩ else none
  else if scratchBase ≤ a ∧ a < scratchBase + 12 * 2 ^ 29 then
    let n := (a - scratchBase) / 2 ^ 29
    let o := (a - scratchBase) % 2 ^ 29
    if !d.dieUp n then none
    else if o < 80 * 2 ^ 21 then some ⟨.scratch (n * 80 + o / 2 ^ 21), a⟩
    else if 2 ^ 28 ≤ o ∧ o < 2 ^ 28 + 8 * 2 ^ 24 then some ⟨.cluster n ((o - 2 ^ 28) / 2 ^ 24), a⟩
    else none
  else none

/-- The points that decide whether a range is present: presence is uniform in each aligned 4 KiB block. -/
def rangePoints (a n : Nat) : List Nat :=
  (List.range ((a + n - 1) / 4096 + 1 - a / 4096)).map fun i => max a ((a / 4096 + i) * 4096)

/-- Whether every byte of a non-empty range is present (R193). -/
def Dev.present (d : Dev) (a n : Nat) : Bool := (rangePoints a n).all fun x => (d.place x).isSome

/-- Whether an address lies in register space. -/
def inRegSpace (a : Nat) : Bool := decide (regSpaceBase ≤ a) && decide (a < regSpaceBase + 2 ^ 32)

/-- Whether a memory is being initialised, so that requests to it are held (R150, R208). -/
def Dev.unitHeld (d : Dev) : MemUnit → Bool
  | .hbm _ => false
  | .seam n => d.ram.seamInit.contains n
  | .scratch k => d.coreState k == 6
  | .cluster n c => d.ram.clusterInit.contains (n * 8 + c)

/-- Whether some byte of a range is held. -/
def Dev.held (d : Dev) (a n : Nat) : Bool :=
  (rangePoints a n).any fun x => match d.place x with
    | some p => d.unitHeld p.unit
    | none => false

/-- The scratch window of package core k (Table 6-2). -/
def scratchWindow (k : Nat) : Nat := scratchBase + dieOf k * 2 ^ 29 + localOf k * 2 ^ 21

/-! ### Error counts -/

/-- The compute die of an on-die memory. -/
def MemUnit.die : MemUnit → Nat
  | .hbm _ => 0
  | .seam n => n
  | .scratch k => dieOf k
  | .cluster n _ => n

/-- Lowest hot-location entry of a stack, the lowest-numbered among equals (R219). -/
def Dev.coldest (d : Dev) (s : Nat) : Nat :=
  (List.range 16).foldl (fun best k => if d.fld (MC_HOT_count s k) < d.fld (MC_HOT_count s best) then k else best) 0

/-- Enter a correction at a word in the hot-location table (R219). -/
def Dev.hotEnter (d : Dev) (s a : Nat) : Dev :=
  match (List.range 16).find? fun k => d.flag (MC_HOT_valid s k) && d.fld (MC_HOT_addr s k) == a / 16 with
  | some k => d.countSat (MC_HOT_count s k) 1
  | none =>
    let k := d.coldest s
    ((d.setFld (MC_HOT_addr s k) (a / 16)).setFld (MC_HOT_valid s k) 1).setFld (MC_HOT_count s k) 1

/-- Count a corrected word and raise the vein-corrected source of its memory (R212, R219). -/
def Dev.countCorrected (d : Dev) (u : MemUnit) (a : Nat) : Dev :=
  match u with
  | .hbm s =>
    ((((d.countSat (MC_VEIN_COUNT_corrected s) 1).setFld (MC_VEIN_LAST_ue s) 0).setFld (MC_VEIN_LAST_addr s) (a / 16)).hotEnter
      s a).raise (0x20 + s) 0 a 0
  | .seam n => (d.countSat (SQ_SEAM_VEIN_corrected n) 1).raise (0x40 + n) 0 a 0
  | u => (d.countSat (SQ_CORE_VEIN_corrected u.die) 1).raise (0x60 + u.die) 0 a 0

/-- Count an uncorrectable word and raise the vein-uncorrectable source of its memory (R214). -/
def Dev.countBad (d : Dev) (u : MemUnit) (a : Nat) : Dev :=
  match u with
  | .hbm s =>
    (((d.countSat (MC_VEIN_COUNT_uncorrectable s) 1).setFld (MC_VEIN_LAST_ue s) 1).setFld (MC_VEIN_LAST_addr s) (a / 16)).raise
      (0x10 + s) 1 a UNCORRECTABLE
  | .seam n => (d.countSat (SQ_SEAM_VEIN_uncorrectable n) 1).raise (0x30 + n) 1 a UNCORRECTABLE
  | u => (d.countSat (SQ_CORE_VEIN_uncorrectable u.die) 1).raise (0x50 + u.die) 1 a UNCORRECTABLE

/-! ### Words through the decoder -/

/-- The difference of a word's stored check bits from the clean ones. -/
def Dev.chkAt (d : Dev) (key : Nat) : BitVec 16 := smGet (fun _ => 0) d.ram.chk (key / 16)

def Dev.setChk (d : Dev) (key : Nat) (c : BitVec 16) : Dev :=
  { d with ram := { d.ram with chk := smPut (fun _ => (0 : BitVec 16)) d.ram.chk (key / 16) c } }

/-- The byte at a cell key. -/
def Dev.cell (d : Dev) (key : Nat) : Byte := smGet zeroByte d.ram.cells key

/-- Store bytes at a cell key. -/
def Dev.putCells (d : Dev) (key : Nat) (l : List Byte) : Dev :=
  { d with ram := { d.ram with cells := putBytes d.ram.cells key l } }

/-- Flip the bits of one 4-bit data symbol of the word at a key. -/
def Dev.flipSymbol (d : Dev) (key i v : Nat) : Dev :=
  let k := key / 16 * 16 + i / 2
  d.putCells k [d.cell k ^^^ BitVec.ofNat 8 (if i % 2 = 0 then v else v * 16)]

/-- Read the word that holds address a through the decoder: correct it and write it back (R212), or mark it poisoned
(R214).  The data then stands in the cells and the poison in the check bits. -/
def Dev.scrubWord (d : Dev) (a : Nat) : Dev :=
  match d.place a with
  | none => d
  | some p =>
    match veinDecode (d.chkAt p.key) with
    | .clean => d
    | .poisoned => d
    | .data i v => ((d.flipSymbol p.key i v).setChk p.key 0).countCorrected p.unit (a / 16 * 16)
    | .check => (d.setChk p.key 0).countCorrected p.unit (a / 16 * 16)
    | .bad => (d.setChk p.key poisonMark).countBad p.unit (a / 16 * 16)

/-- Word addresses of a range. -/
def wordsOf (a n : Nat) : List Nat :=
  if n = 0 then [] else (List.range ((a + n - 1) / 16 + 1 - a / 16)).map fun i => (a / 16 + i) * 16

/-- The flit word that carries the HBM word at address a to its reader: the receiver of the link corrects it, or delivers it marked
poisoned, and counts it against the link.  The stored word stays as it is (R215). -/
def Dev.linkWord (d : Dev) (a : Nat) : Dev :=
  match d.place a with
  | some ⟨.hbm s, key⟩ =>
    let w := key / 16
    let x := smGet (fun _ => 0) d.ram.flits w
    let seen := d.ram.inFlight.filter (· != w)
    let d := { d with ram := { d.ram with flits := smPut (fun _ => (0 : BitVec 16)) d.ram.flits w 0, inFlight := seen } }
    match veinDecode x with
    | .clean => d
    | .data _ _ => d.raise (0x6C + s / 4) 0 (a / 16 * 16) 0
    | .check => d.raise (0x6C + s / 4) 0 (a / 16 * 16) 0
    | _ => Dev.raise { d with ram := { d.ram with inFlight := seen ++ [w] } } (0x5C + s / 4) 1 (a / 16 * 16) UNCORRECTABLE
  | _ => d

/-- Read the word that holds address a through the decoder of its memory and over the link to its reader. -/
def Dev.readWord (d : Dev) (a : Nat) : Dev := (d.scrubWord a).linkWord a

/-- Read every word of a range. -/
def Dev.scrub (d : Dev) (a n : Nat) : Dev := (wordsOf a n).foldl Dev.readWord d

/-- The byte of a local address; an absent address reads 0. -/
def Dev.byteAt (d : Dev) (a : Nat) : Byte :=
  match d.place a with
  | some p => d.cell p.key
  | none => 0

/-- Whether the word at an address stands poisoned, or was delivered poisoned when it was read last. -/
def Dev.poisonAt (d : Dev) (a : Nat) : Bool :=
  match d.place a with
  | some p => d.chkAt p.key == poisonMark || d.ram.inFlight.contains (p.key / 16)
  | none => false

/-- The bytes of a range as they stand. -/
def Dev.bytesAt (d : Dev) (a n : Nat) : List Byte := (List.range n).map fun i => d.byteAt (a + i)

/-- The poison of each word that a range touches, lowest word first. -/
def Dev.poisonsAt (d : Dev) (a n : Nat) : List Bool := (wordsOf a n).map d.poisonAt

/-- Alter one symbol of a stored word as an armed injection asks; 0x3F names no symbol. -/
def Dev.injectSymbol (d : Dev) (key sym v : Nat) : Dev :=
  if sym < 32 then (d.flipSymbol key sym v).setChk key (d.chkAt key ^^^ symbolDiff sym v)
  else if sym < 36 then d.setChk key (d.chkAt key ^^^ symbolDiff sym v)
  else d

/-- The next write to the word that MC_INJECT_ADDR names stores it altered, and arm clears (Table 6-13). -/
def Dev.injectAt (d : Dev) (u : MemUnit) (a key : Nat) : Dev :=
  match u with
  | .hbm s =>
    if d.flag (MC_INJECT_arm s) && d.fld (MC_INJECT_ADDR_addr s) == a / 16 then
      ((d.injectSymbol key (d.fld (MC_INJECT_sym_a s)) (d.fld (MC_INJECT_val_a s))).injectSymbol key
        (d.fld (MC_INJECT_sym_b s)) (d.fld (MC_INJECT_val_b s))).setFld (MC_INJECT_arm s) 0
    else d
  | _ => d

/-- Store part or all of one word: bytes at address a, all inside one word.  A partial write reads the word first, and
leaves a poisoned word poisoned (R213, R216). -/
def Dev.storeWord (d : Dev) (a : Nat) (l : List Byte) (poison : Bool) : Dev :=
  match d.place a with
  | none => d
  | some p =>
    let d1 := if l.length = 16 then d else d.scrubWord a
    let bad := poison || (decide (l.length ≠ 16) && d1.chkAt p.key == poisonMark)
    let d2 := (d1.putCells p.key l).setChk p.key (if bad then poisonMark else 0)
    Dev.injectAt { d2 with ram := { d2.ram with inFlight := d2.ram.inFlight.filter (· != p.key / 16) } } p.unit a p.key

/-- Store bytes from address a, word by word; poison gives the mark of each word touched. -/
def Dev.storeParts (d : Dev) : List Nat → Nat → List Byte → (Nat → Bool) → Dev
  | [], _, _, _ => d
  | w :: ws, a, l, poison =>
    let n := min (w + 16 - a) l.length
    (d.storeWord a (l.take n) (poison (w / 16))).storeParts ws (a + n) (l.drop n) poison

/-- Write bytes to a present range; poison tells for each word number (address / 16) whether it is written poisoned. -/
def Dev.write (d : Dev) (a : Nat) (l : List Byte) (poison : Nat → Bool) : Dev :=
  d.storeParts (wordsOf a l.length) a l poison

/-- Write clean bytes. -/
def Dev.writeClean (d : Dev) (a : Nat) (l : List Byte) : Dev := d.write a l fun _ => false

/-- Write every cell of a key range to zero with valid check bits. -/
def Dev.zeroKeys (d : Dev) (lo hi : Nat) : Dev :=
  { d with ram := { d.ram with cells := smClear d.ram.cells lo hi, chk := smClear d.ram.chk (lo / 16) (hi / 16) } }

/-- The canonical form of memory (the layout of State.lean). -/
def Ram.wf (r : Ram) : Bool :=
  smWf zeroByte r.cells && smWf (fun _ => (0 : BitVec 16)) r.chk && smWf (fun _ => false) r.istoreBad &&
    smWf (fun _ => (0 : BitVec 16)) r.flits

end Sys2Proof.Machine
end

