-- ==== Sys2Proof/Machine/Cells.lean ====
section
/-!
DEFINITION. Sys2Proof/Machine/Cells.lean: cells on the glass (R232 to R235): header, body, CRC, scrambling, and what a
receiver reads back; and the fields of the op word of row, message and bell cells (Tables 9-4, 9-8, R275).
-/

namespace Sys2Proof.Machine

/-! ### Header and body -/

/-- The 128-bit header (Table 7-4). -/
def Cell.header (c : Cell) : Nat :=
  c.dst % 2 ^ 20 + c.src % 2 ^ 20 * 2 ^ 20 + c.epoch % 2 * 2 ^ 40 + c.cls % 8 * 2 ^ 41 + c.hopDst % 16 * 2 ^ 44 +
  c.hopSrc % 16 * 2 ^ 48 + c.hops % 8 * 2 ^ 52 + c.seq % 2 ^ 16 * 2 ^ 56 + c.len % 2 ^ 9 * 2 ^ 72 + c.op % 2 ^ 32 * 2 ^ 96

/-- Byte-times 32 to 311 (Table 7-3). -/
def Cell.body (c : Cell) : List Byte := leBytes 16 c.header ++ padTo 256 c.payload ++ leBytes 8 c.acct

/-- The cell whose byte-times 32 to 311 are given. -/
def Cell.ofBody (b : List Byte) : Cell :=
  let h := leAt b 0 16
  { op := bitsOf h 127 96, len := bitsOf h 80 72, seq := bitsOf h 71 56, hops := bitsOf h 54 52,
    hopSrc := bitsOf h 51 48, hopDst := bitsOf h 47 44, cls := bitsOf h 43 41, epoch := bitsOf h 40 40,
    src := bitsOf h 39 20, dst := bitsOf h 19 0, payload := sliceB b 16 256, acct := leAt b 272 8 }

/-- The CRC bytes in transmission order, most significant first (R234). -/
def crcBytes (body : List Byte) : List Byte := (leBytes 8 (crc64 body).toNat).reverse

/-! ### Scrambling (R235) -/

/-- One bit of the generator x^31 + x^28 + 1: the oldest bit leaves, the sum of the 31st and 28th last enters. -/
def scramNext (g : BitVec 31) : BitVec 31 := (g <<< 1) ||| (if g.getLsbD 30 != g.getLsbD 27 then 1 else 0)

/-- n bits of the generator as a number, the first lowest, and the state after them. -/
def scramBits : Nat → BitVec 31 → Nat × BitVec 31
  | 0, g => (0, g)
  | n + 1, g =>
    let r := scramBits n (scramNext g)
    (b2n (g.getLsbD 30) + 2 * r.1, r.2)

/-- Add the generator's sequence to bytes. -/
def scrambleFrom : BitVec 31 → List Byte → List Byte
  | _, [] => []
  | g, b :: t =>
    let r := scramBits 8 g
    (b ^^^ BitVec.ofNat 8 r.1) :: scrambleFrom r.2 t

/-- Scrambling and descrambling are one operation; the generator starts from all ones. -/
def scramble (l : List Byte) : List Byte := scrambleFrom (BitVec.allOnes 31) l

/-- Byte-times 32 to 319 as launched. -/
def Cell.wire (c : Cell) : List Byte := scramble (c.body ++ crcBytes c.body)

/-- A byte as four PAM4 levels, bits [1:0] first: 00, 01, 11 and 10 are levels 0, 1, 2 and 3 (R235). -/
def pam4 (b : Byte) : List Nat :=
  (List.range 4).map fun i => match digit 2 b.toNat i with | 0 => 0 | 1 => 1 | 3 => 2 | _ => 3

/-- The levels of some byte-times. -/
def symbols (l : List Byte) : List Nat := l.flatMap pam4

/-- The first two checks of R238: length, CRC, class and len; none counts as a CRC failure. -/
def readWire (l : List Byte) : Option Cell :=
  let b := scramble l
  let body := b.take 280
  if l.length = 288 ∧ b.drop 280 = crcBytes body then
    let c := Cell.ofBody body
    if c.cls < 6 ∧ c.len ≤ 256 then some c else none
  else none

/-- The header of a received cell as 16 bytes. -/
def Cell.headerBytes (c : Cell) : List Byte := leBytes 16 c.header

/-- Well-formed: every field fits its bits, and the payload is 256 bytes. -/
def Cell.wf (c : Cell) : Bool :=
  decide (c.op < 2 ^ 32) && decide (c.len ≤ 256) && decide (c.seq < 2 ^ 16) && decide (c.hops < 8) &&
  decide (c.hopSrc < 16) && decide (c.hopDst < 16) && decide (c.cls < 6) && decide (c.epoch < 2) &&
  decide (c.src < 2 ^ 20) && decide (c.dst < 2 ^ 20) && decide (c.payload.length = 256) && decide (c.acct < 2 ^ 64)

/-! ### Op words -/

/-- Row cells (Table 9-4): type, kind, mask or reason, index. -/
def rowOp (type kind mask index : Nat) : Nat := type % 16 * 2 ^ 28 + kind % 16 * 2 ^ 24 + mask % 2 ^ 16 * 2 ^ 8 + index % 256
def Cell.rowType (c : Cell) : Nat := bitsOf c.op 31 28
def Cell.rowKind (c : Cell) : Nat := bitsOf c.op 27 24
def Cell.rowMask (c : Cell) : Nat := bitsOf c.op 23 8
def Cell.rowIndex (c : Cell) : Nat := bitsOf c.op 7 0

/-- Message cells (Table 9-8): type, mailbox, index, last, poison; a refusal carries its reason at [113:98]. -/
def msgDataOp (mailbox index last : Nat) (poison : Bool) : Nat :=
  mailbox % 2 ^ 10 * 2 ^ 18 + index % 256 * 2 ^ 10 + last % 256 * 2 ^ 2 + b2n poison * 2
def msgAcceptOp (mailbox : Nat) : Nat := 0x8 * 2 ^ 28 + mailbox % 2 ^ 10 * 2 ^ 18
def msgRefuseOp (mailbox reason : Nat) : Nat := 0xF * 2 ^ 28 + mailbox % 2 ^ 10 * 2 ^ 18 + reason % 2 ^ 16 * 2 ^ 2
def Cell.msgType (c : Cell) : Nat := bitsOf c.op 31 28
def Cell.msgMailbox (c : Cell) : Nat := bitsOf c.op 27 18
def Cell.msgIndex (c : Cell) : Nat := bitsOf c.op 17 10
def Cell.msgLast (c : Cell) : Nat := bitsOf c.op 9 2
def Cell.msgPoison (c : Cell) : Bool := bitAt c.op 1
def Cell.msgReason (c : Cell) : Nat := bitsOf c.op 17 2

/-- Bell cells (R275): kind, data credit, cage credit. -/
def bellOp (kind dataCredit cageCredit : Nat) : Nat :=
  kind % 256 * 2 ^ 24 + dataCredit % 2 ^ 12 * 2 ^ 12 + cageCredit % 2 ^ 8 * 2 ^ 4
def Cell.bellKind (c : Cell) : Nat := bitsOf c.op 31 24
def Cell.bellData (c : Cell) : Nat := bitsOf c.op 23 12
def Cell.bellCage (c : Cell) : Nat := bitsOf c.op 11 4

/-! ### Bell kinds (Table 8-6) -/

def kDatum : Nat := 0x01
def kProbe : Nat := 0x02
def kReply : Nat := 0x03
def kLaneProbe : Nat := 0x04
def kMisdelivery : Nat := 0x05
def kPlanAnnounce : Nat := 0x06
def kPlanCancel : Nat := 0x07
def kEpoch : Nat := 0x08
def kCredit : Nat := 0x09

/-- Priority of a kind, 1 first. -/
def bellPriority (k : Nat) : Nat :=
  if 0x10 ≤ k ∧ k < 0x20 then 1 else if k = kDatum then 2 else if k = kEpoch then 3 else if k = kPlanCancel then 4
  else if 0x20 ≤ k ∧ k < 0x30 then 5 else if 0x30 ≤ k ∧ k < 0x40 then 6 else if k = kPlanAnnounce then 7
  else if k = kMisdelivery then 8 else if k = kProbe ∨ k = kReply then 9 else 10

end Sys2Proof.Machine
end

