-- ==== Sys2Proof/Machine/Formats.lean ====
section
/-!
DEFINITION. Sys2Proof/Machine/Formats.lean: number formats and arithmetic rules (R82 to R113): reading a code as an
exact value, rounding, conversion, MX blocks, group sums, and the FP32 and INT32 operations.  An exact finite value is
a sign, a natural magnitude and a power of two; nothing here is rounded except where a rule says so.
-/

namespace Sys2Proof.Machine

/-- A value read from a code: NaN, an infinity, or (-1)^neg * m * 2^e; m = 0 is a zero with its sign. -/
inductive Num where
  | nan
  | inf (neg : Bool)
  | fin (neg : Bool) (m : Nat) (e : Int)
  deriving DecidableEq, Repr

/-- The shape of a floating format (Table 3-1).  special: 0 infinities and NaNs at the top exponent, 1 only code
0x7F/0xFF is NaN (FP8 E4M3), 2 neither (FP6, FP4). -/
structure FloatFmt where
  ebits : Nat
  fbits : Nat
  bias : Nat
  special : Nat
  deriving DecidableEq, Repr

def fp32F : FloatFmt := ⟨8, 23, 127, 0⟩
def bf16F : FloatFmt := ⟨8, 7, 127, 0⟩
def fp16F : FloatFmt := ⟨5, 10, 15, 0⟩
def e4m3F : FloatFmt := ⟨4, 3, 7, 1⟩
def e5m2F : FloatFmt := ⟨5, 2, 15, 0⟩
def e3m2F : FloatFmt := ⟨3, 2, 3, 2⟩
def e2m1F : FloatFmt := ⟨2, 1, 1, 2⟩

/-- A format code of Table 5-3. -/
inductive Fmt where
  | fp32 | bf16 | fp16 | e4m3 | e5m2 | fp6 | fp4 | int8 | int4 | int4mx | int32 | int16
  deriving DecidableEq, Repr

/-- Table 5-3; codes 0xC to 0xF are reserved. -/
def fmtOf : Nat → Option Fmt
  | 0 => some .fp32 | 1 => some .bf16 | 2 => some .fp16 | 3 => some .e4m3 | 4 => some .e5m2 | 5 => some .fp6
  | 6 => some .fp4 | 7 => some .int8 | 8 => some .int4 | 9 => some .int4mx | 10 => some .int32 | 11 => some .int16
  | _ => none

/-- Bits of one element (Table 3-1). -/
def Fmt.bits : Fmt → Nat
  | .fp32 => 32 | .bf16 => 16 | .fp16 => 16 | .e4m3 => 8 | .e5m2 => 8 | .fp6 => 6 | .fp4 => 4 | .int8 => 8
  | .int4 => 4 | .int4mx => 4 | .int32 => 32 | .int16 => 16

/-- Formats held as MX blocks (R89). -/
def Fmt.isMx : Fmt → Bool
  | .fp6 | .fp4 | .int4mx => true
  | _ => false

/-- Integer formats; block-scaled INT4 elements are integers too. -/
def Fmt.isInt : Fmt → Bool
  | .int8 | .int4 | .int4mx | .int32 | .int16 => true
  | _ => false

/-- The floating shape of a floating format. -/
def Fmt.flt : Fmt → FloatFmt
  | .bf16 => bf16F | .fp16 => fp16F | .e4m3 => e4m3F | .e5m2 => e5m2F | .fp6 => e3m2F | .fp4 => e2m1F
  | _ => fp32F

/-- emax of the MX pseudocode. -/
def Fmt.emax : Fmt → Int
  | .fp6 => 4
  | _ => 2

/-! ### Reading a code -/

/-- Read a code of a floating format; a subnormal reads as a zero with its sign (R86). -/
def decodeF (f : FloatFmt) (code : Nat) : Num :=
  let neg := bitAt code (f.ebits + f.fbits)
  let ex := bitsOf code (f.ebits + f.fbits - 1) f.fbits
  let fr := code % 2 ^ f.fbits
  if ex = 0 then .fin neg 0 0
  else if f.special = 0 ∧ ex = 2 ^ f.ebits - 1 then (if fr = 0 then .inf neg else .nan)
  else if f.special = 1 ∧ ex = 2 ^ f.ebits - 1 ∧ fr = 2 ^ f.fbits - 1 then .nan
  else .fin neg (2 ^ f.fbits + fr) ((ex : Int) - (f.bias : Int) - (f.fbits : Int))

/-- An integer as a value. -/
def numOfInt (i : Int) : Num := .fin (decide (i < 0)) i.natAbs 0

/-- Read an element code of any format of Table 5-3, without its block scale. -/
def decodeNum (f : Fmt) (code : Nat) : Num :=
  if f.isInt then numOfInt (sext f.bits code) else decodeF f.flt code

/-- Read an FP32 code. -/
def fpRead (w : Word32) : Num := decodeF fp32F w.toNat

/-! ### Exact operations -/

def negNum : Num → Num
  | .nan => .nan
  | .inf s => .inf (!s)
  | .fin s m e => .fin (!s) m e

/-- Floor of log2 of a positive finite magnitude m * 2^e. -/
def expOf (m : Nat) (e : Int) : Int := (Nat.log2 m : Int) + e

/-- The signed integer of a finite value at weight 2^w, exact when w <= e. -/
def atWeight (neg : Bool) (m : Nat) (e w : Int) : Int :=
  let v : Int := ((m * 2 ^ (e - w).toNat : Nat) : Int)
  if neg then -v else v

/-- The exact sum; the sign of a zero sum follows R88. -/
def addNum : Num → Num → Num
  | .nan, _ => .nan
  | _, .nan => .nan
  | .inf a, .inf b => if a = b then .inf a else .nan
  | .inf a, _ => .inf a
  | _, .inf b => .inf b
  | .fin a m e, .fin b n g =>
    if m = 0 ∧ n = 0 then .fin (a && b) 0 0
    else if m = 0 then .fin b n g
    else if n = 0 then .fin a m e
    else
      let w := min e g
      let s := atWeight a m e w + atWeight b n g w
      if s = 0 then .fin false 0 0 else .fin (decide (s < 0)) s.natAbs w

/-- The exact product (R88 for the sign of a zero; an infinity times a zero is NaN). -/
def mulNum : Num → Num → Num
  | .nan, _ => .nan
  | _, .nan => .nan
  | .inf a, .inf b => .inf (a != b)
  | .inf a, .fin b n _ => if n = 0 then .nan else .inf (a != b)
  | .fin a m _, .inf b => if m = 0 then .nan else .inf (a != b)
  | .fin a m e, .fin b n g => if m = 0 ∨ n = 0 then .fin (a != b) 0 0 else .fin (a != b) (m * n) (e + g)

/-- A value times 2^k, exactly. -/
def scaleNum : Num → Int → Num
  | .fin s m e, k => if m = 0 then .fin s m e else .fin s m (e + k)
  | v, _ => v

/-- Compare two non-NaN values; +0 and -0 are equal (R100). -/
def cmpLt : Num → Num → Bool
  | .nan, _ => false
  | _, .nan => false
  | .inf a, .inf b => a && !b
  | .inf a, .fin .. => a
  | .fin .., .inf b => !b
  | .fin a m e, .fin b n g =>
    let w := min e g
    decide (atWeight a m e w < atWeight b n g w)

/-- Equality of values; NaN equals nothing (R100). -/
def cmpEq (x y : Num) : Bool :=
  x != .nan && y != .nan && !cmpLt x y && !cmpLt y x

/-- At most; false with a NaN operand (R100). -/
def cmpLe (x y : Num) : Bool := x != .nan && y != .nan && !cmpLt y x

/-! ### Rounding and writing a code -/

/-- Divide m by 2^sh, rounding to nearest even (R92), or stochastically with a 16-bit draw (R96). -/
def roundShift (m sh : Nat) (draw : Option Nat) : Nat :=
  let q := m >>> sh
  let r := m % 2 ^ sh
  match draw with
  | none => if 2 * r > 2 ^ sh ∨ (2 * r = 2 ^ sh ∧ q % 2 = 1) then q + 1 else q
  | some d => if (r * 2 ^ 16) / 2 ^ sh + d ≥ 2 ^ 16 then q + 1 else q

/-- Round a magnitude to p significant bits with the exponent range unbounded. -/
def roundSig (p m : Nat) (e : Int) (draw : Option Nat) : Nat × Int :=
  let n := Nat.log2 m + 1
  if n ≤ p then (m, e) else (roundShift m (n - p) draw, e + ((n - p : Nat) : Int))

/-- The canonical NaN of a format (Table 3-3). -/
def canonNan (f : FloatFmt) : Nat :=
  if f.special = 1 then 2 ^ (f.ebits + f.fbits) - 1
  else ((2 ^ f.ebits - 1) <<< f.fbits) + 2 ^ (f.fbits - 1)

/-- The code of the largest finite value, without its sign. -/
def maxFinite (f : FloatFmt) : Nat :=
  if f.special = 0 then ((2 ^ f.ebits - 1) <<< f.fbits) - 1
  else if f.special = 1 then 2 ^ (f.ebits + f.fbits) - 2
  else 2 ^ (f.ebits + f.fbits) - 1

/-- The sign bit of a format. -/
def signBit (f : FloatFmt) (neg : Bool) : Nat := if neg then 2 ^ (f.ebits + f.fbits) else 0

/-- What an out-of-range finite value is written as (Table 3-5). -/
def outOfRange (f : FloatFmt) (neg ovf : Bool) : Nat :=
  if !ovf then maxFinite f + signBit f neg
  else if f.special = 0 then ((2 ^ f.ebits - 1) <<< f.fbits) + signBit f neg
  else if f.special = 1 then canonNan f
  else maxFinite f + signBit f neg

/-- Write a value as a code of a floating format under ovf and an optional stochastic draw (R84, R87, R92 to R96). -/
def encodeF (f : FloatFmt) (ovf : Bool) (draw : Option Nat) : Num → Nat
  | .nan => canonNan f
  | .inf s =>
    if f.special = 0 then ((2 ^ f.ebits - 1) <<< f.fbits) + signBit f s
    else if f.special = 1 then (if ovf then canonNan f else maxFinite f + signBit f s)
    else maxFinite f + signBit f s
  | .fin s m e =>
    if m = 0 then signBit f s
    else
      let r := roundSig (f.fbits + 1) m e draw
      let ex := expOf r.1 r.2
      let field : Int := ex + (f.bias : Int)
      if field < 1 then signBit f s
      else
        -- the fraction with its leading one, at exactly fbits + 1 bits
        let sig := if Nat.log2 r.1 ≤ f.fbits then r.1 <<< (f.fbits - Nat.log2 r.1) else r.1 >>> (Nat.log2 r.1 - f.fbits)
        let mag := (field.toNat <<< f.fbits) + (sig - 2 ^ f.fbits)
        if mag > maxFinite f then outOfRange f s ovf else mag + signBit f s

/-- Round a value to an integer (R92, R96), half to even. -/
def roundInt (neg : Bool) (m : Nat) (e : Int) (draw : Option Nat) : Int :=
  let q := if 0 ≤ e then m <<< e.toNat else roundShift m (-e).toNat draw
  if neg then -(q : Int) else (q : Int)

/-- Narrow an exact integer to a width under ovf: clamp under SAT, wrap under WRAP (R95, R107, R139). -/
def narrowInt (w : Nat) (ovf : Bool) (i : Int) : Nat :=
  if ovf then wrap w i else wrap w (clampI i (-(2 ^ (w - 1) : Nat)) ((2 ^ (w - 1) : Nat) - 1))

/-- Write a value as an integer code (R95). -/
def encodeInt (w : Nat) (ovf : Bool) (draw : Option Nat) : Num → Nat
  | .nan => 0
  | .inf s => if s then 2 ^ (w - 1) else 2 ^ (w - 1) - 1
  | .fin s m e => narrowInt w ovf (roundInt s m e draw)

/-- Write a value as an element code of a format without a block scale. -/
def encodeNum (f : Fmt) (ovf : Bool) (draw : Option Nat) (v : Num) : Nat :=
  if f.isInt then encodeInt f.bits ovf draw v else encodeF f.flt ovf draw v

/-- Write an FP32 code under ovf. -/
def fpWrite (ovf : Bool) (v : Num) : Word32 := BitVec.ofNat 32 (encodeF fp32F ovf none v)

/-! ### Stochastic streams (R98) -/

/-- One step of a xorshift stream. -/
def streamStep (s : Word64) : Word64 :=
  let a := s ^^^ (s <<< 13)
  let b := a ^^^ (a >>> 7)
  b ^^^ (b <<< 17)

/-- The 16-bit value a stepped stream gives. -/
def streamDraw (s : Word64) : Nat := wget s 63 48

/-- The state of stream l when the seed register is written. -/
def streamSeed (seed : Word64) (l : Nat) : Word64 :=
  let s := seed ^^^ BitVec.ofNat 64 (l * 0x9E3779B97F4A7C15)
  if s = 0 then 1 else s

/-! ### MX blocks (R89 to R91) -/

/-- The value of an MX element (R89). -/
def mxValue (f : Fmt) (scale code : Nat) : Num :=
  if scale = 0xFF then .nan else scaleNum (decodeNum f code) ((scale : Int) - 127)

def isNanN : Num → Bool | .nan => true | _ => false
def isInfN : Num → Bool | .inf _ => true | _ => false

/-- floor(log2) of the largest finite magnitude; none when all finite magnitudes are zero. -/
def amaxExp : List Num → Option Int
  | [] => none
  | .fin _ m e :: t =>
    if m = 0 then amaxExp t
    else match amaxExp t with
      | none => some (expOf m e)
      | some x => some (max x (expOf m e))
  | _ :: t => amaxExp t

/-- The end of an MX element range with a sign (R91). -/
def mxEnd (f : Fmt) (neg : Bool) : Nat :=
  if f.isInt then (if neg then 8 else 7) else maxFinite f.flt + signBit f.flt neg

/-- The E8M0 scale of a block (the pseudocode of R91). -/
def mxScale (f : Fmt) (ovf : Bool) (xs : List Num) : Nat :=
  if xs.any isNanN || (ovf && xs.any isInfN) then 0xFF
  else match amaxExp xs with
    | none => 0x7F
    | some x => (clampI (x - f.emax) (-127) 127 + 127).toNat

/-- One element of a block whose scale is fixed (R91); it saturates whatever ovf holds. -/
def mxElem (f : Fmt) (scale : Nat) (draw : Option Nat) (x : Num) : Nat :=
  if scale = 0xFF then 0
  else match x with
    | .inf s => mxEnd f s
    | v =>
      let y := scaleNum v (127 - (scale : Int))
      if f.isInt then encodeInt 4 false draw y else encodeF f.flt false draw y

/-! ### Max, min and FP32 operations (R99, R139) -/

/-- Whether a value is negative or a negative zero. -/
def negN : Num → Bool
  | .inf s => s
  | .fin s _ _ => s
  | .nan => false

/-- max under R99. -/
def maxNum (x y : Num) : Num :=
  if isNanN x then y else if isNanN y then x
  else if cmpLt x y then y else if cmpLt y x then x
  else if negN x then y else x

/-- min under R99. -/
def minNum (x y : Num) : Num :=
  if isNanN x then y else if isNanN y then x
  else if cmpLt x y then x else if cmpLt y x then y
  else if negN x then x else y

def absNum : Num → Num
  | .nan => .nan
  | .inf _ => .inf false
  | .fin _ m e => .fin false m e

/-! ### Group sums and accumulation (R101 to R107) -/

/-- The exponent of a non-zero product in the s * 2^E form of R102: the sum of the operands' exponents. -/
def prodExp : Num → Num → Option Int
  | .fin _ m e, .fin _ n g => if m = 0 ∨ n = 0 then none else some (expOf m e + expOf n g)
  | _, _ => none

/-- The largest of the listed exponents. -/
def maxExp : List (Num × Num) → Option Int
  | [] => none
  | (x, y) :: t =>
    match prodExp x y, maxExp t with
    | none, r => r
    | some a, none => some a
    | some a, some b => some (max a b)

/-- A product truncated toward zero to weight 2^w. -/
def truncAt (w : Int) : Num → Int
  | .fin s m e =>
    let q := if w ≤ e then m <<< (e - w).toNat else m >>> (w - e).toNat
    if s then -(q : Int) else (q : Int)
  | _ => 0

/-- The sum of one group of products (R102, R105). -/
def groupSum (ps : List (Num × Num)) : Num :=
  let prods := ps.map fun p => mulNum p.1 p.2
  if prods.any isNanN then .nan
  else if prods.any (· == .inf false) then (if prods.any (· == .inf true) then .nan else .inf false)
  else if prods.any (· == .inf true) then .inf true
  else match maxExp ps with
    | none => .fin false 0 0
    | some x =>
      let w := x - 32
      let s := prods.foldl (fun a p => a + truncAt w p) 0
      .fin (decide (s < 0)) s.natAbs w

/-- The exact integer sum of a group of integer products. -/
def intSum (ps : List (Int × Int)) : Int := ps.foldl (fun a p => a + p.1 * p.2) 0

/-- A group sum times its block scales (R103); 0x7F stands for a side without scales (R117). -/
def scaleSum (s : Num) (sa sb : Nat) : Num :=
  if sa = 0xFF ∨ sb = 0xFF then .nan else scaleNum s ((sa : Int) + (sb : Int) - 254)

def isZeroN : Num → Bool
  | .fin _ m _ => m == 0
  | _ => false

/-- Add a group sum into an FP32 accumulator (R104). -/
def accAdd (acc : Word32) (g : Num) : Word32 :=
  if isZeroN g then acc else fpWrite true (addNum (fpRead acc) g)

/-- Split an FP32 code into two BF16 codes (R129). -/
def bf16Split (x : Word32) : Nat × Nat :=
  match fpRead x with
  | .nan => (canonNan bf16F, 0)
  | .inf s => (encodeF bf16F true none (.inf s), 0)
  | v =>
    let hi := encodeF bf16F false none v
    (hi, encodeF bf16F false none (addNum v (negNum (decodeF bf16F hi))))

/-! ### The special operations (R140, Table 4-8) -/

/-- Integer square root by bits, for numbers below 2^(2 * fuel). -/
def isqrtAux : Nat → Nat → Nat → Nat
  | 0, _, r => r
  | k + 1, n, r => let c := r + 2 ^ k; if c * c ≤ n then isqrtAux k n c else isqrtAux k n r

/-- floor(sqrt n). -/
def isqrt (n : Nat) : Nat := isqrtAux (Nat.log2 n / 2 + 1) n 0

/-- The value sig * 2^e with one of the codes the bound admits: when the exact result is a float, itself or up to
ulps codes either way; otherwise the two codes around it and ulps - 1 more on each side.  pick is free. -/
def pickNear (ulps pick : Nat) (neg exact : Bool) (sig : Nat) (e : Int) : Num :=
  if exact then .fin neg (sig + pick % (2 * ulps + 1) - ulps) e
  else .fin neg (sig + 1 + pick % (2 * ulps) - ulps) e

/-- The leading 24 bits of a positive number v * 2^e known exactly from below, with whether they are all of it. -/
def lead24 (v : Nat) (e : Int) (exact : Bool) : Nat × Int × Bool :=
  let n := Nat.log2 v
  if n ≤ 23 then (v <<< (23 - n), e - ((23 - n : Nat) : Int), exact)
  else (v >>> (n - 23), e + ((n - 23 : Nat) : Int), exact && v % 2 ^ (n - 23) == 0)

/-- Whether a result is normal: the bound of R140 speaks of normal results only. -/
def pickFrom (ulps pick : Nat) (neg : Bool) (r : Nat × Int × Bool) : Num :=
  pickNear ulps pick neg r.2.2 r.1 r.2.1

def recipNum (pick : Nat) : Num → Num
  | .nan => .nan
  | .inf s => .fin s 0 0
  | .fin s m e =>
    if m = 0 then .inf s
    else
      let k := Nat.log2 m + 64
      pickFrom 1 pick s (lead24 (2 ^ k / m) (-e - (k : Int)) (2 ^ k % m == 0))

/-- m * 2^e with an even exponent. -/
def evenExp (m : Nat) (e : Int) : Nat × Int := if e % 2 = 0 then (m, e) else (2 * m, e - 1)

def sqrtNum (pick : Nat) : Num → Num
  | .nan => .nan
  | .inf s => if s then .nan else .inf false
  | .fin s m e =>
    if m = 0 then .fin s 0 0 else if s then .nan
    else
      let p := evenExp m e
      let v := p.1 <<< 128
      let r := isqrt v
      pickFrom 1 pick false (lead24 r (p.2 / 2 - 64) (r * r == v))

def rsqrtNum (pick : Nat) : Num → Num
  | .nan => .nan
  | .inf s => if s then .nan else .fin false 0 0
  | .fin s m e =>
    if m = 0 then .inf s else if s then .nan
    else
      let p := evenExp m e
      let q := 2 ^ 256 / p.1
      let r := isqrt q
      pickFrom 1 pick false (lead24 r (-(p.2 / 2) - 128) (r * r * p.1 == 2 ^ 256))

/-- Working precision of exp2 and log2, in bits. -/
def xpBits : Nat := 192

/-- 2^(frac / 2^n) at the working precision, n bits of fraction, from successive square roots of 2. -/
def exp2Aux : Nat → Nat → Nat → Nat → Nat
  | 0, _, _, acc => acc
  | n + 1, frac, root, acc =>
    let r := isqrt (root <<< xpBits)
    exp2Aux n (frac % 2 ^ n) r (if frac / 2 ^ n = 1 then (acc * r) >>> xpBits else acc)

def exp2Num (pick : Nat) : Num → Num
  | .nan => .nan
  | .inf s => if s then .fin false 0 0 else .inf false
  | .fin s m e =>
    if m = 0 then .fin false 1 0
    else if 8 ≤ expOf m e then (if s then .fin false 1 (-1000) else .fin false 1 1000)
    else
      -- x = ip + frac / 2^160, 0 <= frac; bits below 2^-160 change no result by a unit
      let x := truncAt (-160) (.fin s m e)
      let ip := x / ((2 ^ 160 : Nat) : Int)
      let frac := (x % ((2 ^ 160 : Nat) : Int)).toNat
      if frac = 0 then pickFrom 2 pick false (lead24 1 ip (decide (atWeight s m e (min e (-160)) =
          atWeight (decide (x < 0)) x.natAbs (-160) (min e (-160)))))
      else pickFrom 2 pick false
        (lead24 (exp2Aux 160 frac (2 <<< xpBits) (1 <<< xpBits)) (ip - (xpBits : Int)) false)

/-- n fraction bits of log2 of x / 2^xpBits in [1, 2). -/
def log2Aux : Nat → Nat → Nat → Nat
  | 0, _, acc => acc
  | n + 1, x, acc =>
    let y := (x * x) >>> xpBits
    if y ≥ 2 <<< xpBits then log2Aux n (y >>> 1) (2 * acc + 1) else log2Aux n y (2 * acc)

def log2Num (pick : Nat) : Num → Num
  | .nan => .nan
  | .inf s => if s then .nan else .inf false
  | .fin s m e =>
    if m = 0 then .inf true else if s then .nan
    else
      let n := Nat.log2 m
      let ip := expOf m e
      if m = 2 ^ n then
        if ip = 0 then .fin false 0 0
        else pickFrom 2 pick (decide (ip < 0)) (lead24 ip.natAbs 0 true)
      else
        let frac := log2Aux 120 (m <<< (xpBits - n)) 0
        let v : Int := ip * ((2 ^ 120 : Nat) : Int) + (frac : Int)
        pickFrom 2 pick (decide (v < 0)) (lead24 (if v < 0 then v.natAbs - 1 else v.natAbs) (-120) false)

end Sys2Proof.Machine
end

