-- ==== Sys2Proof/Machine/Operands.lean ====
section
/-!
DEFINITION. Sys2Proof/Machine/Operands.lean: the 64-bit core instructions: fields of Tables 5-1 to 5-14, which words are legal
when issued (R155, R164, R171 to R173, R97), which scalar registers a queued instruction names (R156), and addresses of
a core program (R161).
-/

namespace Sys2Proof.Machine

/-- Group and operation of an instruction word (Table 5-1). -/
def grp (w : Word64) : Nat := wget w 63 60
def opc (w : Word64) : Nat := wget w 59 56

/-- A 5-bit register field whose high bit is given. -/
def regField (w : Word64) (hi : Nat) : Nat := wget w hi (hi - 4)

/-- Bit b of an instruction word. -/
def wbit (w : Word64) (b : Nat) : Bool := bitAt w.toNat b

/-- No bit outside the mask is set. -/
def onlyBits (w : Word64) (mask : Nat) : Bool := (w.toNat &&& (2 ^ 64 - 1 - mask)) == 0

/-- The mask of bits [hi:lo]. -/
def span (hi lo : Nat) : Nat := (2 ^ (hi + 1 - lo) - 1) * 2 ^ lo

/-- Group, op and the wait and sig fields of a queued instruction. -/
def queuedHead : Nat := span 63 48
/-- Group and op of a sequencer instruction. -/
def seqHead : Nat := span 63 56

/-- Scalar group: register and immediate forms (Table 5-6). -/
def legalScalar (w : Word64) : Bool :=
  if wbit w 55 then
    onlyBits w (seqHead + 2 ^ 55 + span 47 38 + span 31 0) && (opc w != 0xF || decide (wget w 31 0 ≤ 5))
  else decide (opc w < 0xD) && onlyBits w (seqHead + span 47 33)

/-- Branch group (Table 5-6). -/
def legalBranch (w : Word64) : Bool :=
  if opc w ≤ 5 then onlyBits w (seqHead + span 47 38 + span 23 0)
  else if opc w = 6 then onlyBits w (seqHead + span 23 0)
  else if opc w = 7 then onlyBits w (seqHead + span 47 43 + span 23 0)
  else if opc w = 8 then onlyBits w (seqHead + span 47 43)
  else false

/-- An FP8 or FP6 format. -/
def isF86 : Fmt → Bool
  | .e4m3 | .e5m2 | .fp6 => true
  | _ => false

/-- Operand and face pairs of Table 4-2 (single-pass). -/
def pairOk (o f : Fmt) : Bool :=
  (isF86 o && isF86 f) ||
  (o == f && (o == .fp4 || o == .int8 || o == .int4 || o == .int4mx || o == .bf16 || o == .fp16))

/-- Whether an engine accumulates INT32 (Table 4-2, R133). -/
def intAcc (mode : Nat) (o : Fmt) : Bool := mode == 4 || (mode == 0 && (o == .int8 || o == .int4))

/-- Formats and mode of MCFG (R164). -/
def mcfgOk (o f out : Fmt) (mode : Nat) (rnd : Bool) : Bool :=
  (if mode = 0 then pairOk o f
   else if mode = 1 then o == .fp32 && f == .fp32
   else if mode = 2 ∨ mode = 3 then o == f && (o == .bf16 || o == .fp16 || o == .e4m3 || o == .e5m2)
   else if mode = 4 then o == .int16 && f == .int16 && out == .int32
   else false) &&
  (if intAcc mode o then out == .int32 || out == .int8
   else out == .fp32 || out == .bf16 || out == .fp16 || out == .e4m3 || out == .e5m2) &&
  !(rnd && decide (8 < out.bits))

/-- Matrix group (Table 5-7, R155, R164, R170). -/
def legalMatrix (w : Word64) : Bool :=
  wget w 47 44 != 0 &&
  (match opc w with
   | 0 => wget w 3 0 == 0
   | 1 => wget w 16 0 == 0 &&
      (match fmtOf (wget w 43 40), fmtOf (wget w 39 36), fmtOf (wget w 32 29) with
       | some o, some f, some out => mcfgOk o f out (wget w 35 33) (wbit w 27)
       | _, _, _ => false)
   | 2 => wget w 21 0 == 0 && decide (wget w 29 27 ≤ 4)
   | 3 => wget w 23 0 == 0 && !(wbit w 29 && wget w 36 30 != 0)
   | _ => false)

/-- Vector register form: which operand fields a vop uses: 3, 2 or 1 sources, rotate, a compare, a mask operation. -/
def legalVector (w : Word64) : Bool :=
  let vop := wget w 47 42
  let vd := wget w 41 37
  let va := wget w 36 32
  let vb := wget w 31 27
  let vc := wget w 26 22
  opc w == 0 && wget w 17 0 == 0 &&
  (if vop = 3 then true
   else if vop < 6 then vc == 0
   else if vop < 8 then vb == 0 && vc == 0
   else if vop < 0xC then vc == 0 && decide (vd < 8)
   else if vop = 0xC then vc == 0
   else if 0x10 ≤ vop ∧ vop < 0x15 then vb == 0 && vc == 0
   else if 0x18 ≤ vop ∧ vop < 0x1B then vb == 0 && vc == 0
   else if vop = 0x1B then wget w 23 22 == 0
   else if 0x20 ≤ vop ∧ vop < 0x2B then vc == 0
   else if 0x2B ≤ vop ∧ vop < 0x2E then vc == 0 && decide (vd < 8)
   else if 0x30 ≤ vop ∧ vop < 0x33 then vc == 0 && decide (vd < 8) && decide (va < 8) && decide (vb < 8)
   else if vop = 0x33 then vc == 0 && vb == 0 && decide (vd < 8) && decide (va < 8)
   else false)

/-- Vector immediate form (R171, R172). -/
def legalImm (w : Word64) : Bool :=
  let typ := wget w 33 32
  let op := opc w
  decide (typ < 2) && !(decide (9 ≤ op) && decide (op ≤ 14) && typ == 0) &&
  !(decide (6 ≤ op) && decide (op ≤ 8) && wget w 47 46 != 0) && !(op == 15 && wget w 42 38 != 0)

/-- Convert group (R97, R173). -/
def legalConvert (w : Word64) : Bool :=
  wget w 24 0 == 0 &&
  (match fmtOf (wget w 34 31), fmtOf (wget w 30 27) with
   | some s, some t =>
     let rnd := wbit w 25
     match opc w with
     | 0 => ((s == .fp32 && t == .int32) || (s == .int32 && t == .fp32)) && !rnd
     | 1 => (s == .fp32 || s == .int32) && wget w 37 35 == 0 && !(rnd && decide (8 < t.bits))
     | 2 => s != .fp32 && s != .int32 && !rnd &&
        (if s == .int8 || s == .int4 || s == .int16 then t == .int32 else t == .fp32)
     | _ => false
   | _, _ => false)

/-- Load, store and atomic group (Table 5-10, R176). -/
def legalMem (w : Word64) : Bool :=
  match opc w with
  | 0 => wget w 32 24 == 0
  | 1 => wget w 32 24 == 0
  | 2 => onlyBits w (seqHead + span 47 35 + span 31 0)
  | 3 => onlyBits w (seqHead + span 47 36 + span 31 0)
  | 4 => onlyBits w (seqHead + span 47 24) && decide (wget w 27 24 ≤ 13)
  | _ => false

/-- Whether an instruction word is legal when issued (R155). -/
def legal (w : Word64) : Bool :=
  match grp w with
  | 0 => legalScalar w
  | 1 => legalBranch w
  | 2 => legalMatrix w
  | 3 => legalVector w
  | 4 => legalConvert w
  | 5 => legalMem w
  | 6 => match opc w with
    | 0 => wget w 15 0 == 0
    | 1 => onlyBits w (queuedHead + span 42 38)
    | 2 => onlyBits w (queuedHead + span 42 38)
    | _ => false
  | 7 => match opc w with
    | 0 => onlyBits w (seqHead + span 47 27)
    | 1 => onlyBits w (seqHead + span 47 27)
    | 2 => onlyBits w (seqHead + span 47 27)
    | 3 => onlyBits w (seqHead + span 47 32 + span 15 0)
    | 4 => wget w 15 0 == 0
    | _ => false
  | 8 => match opc w with
    | 0 => onlyBits w (seqHead + span 47 44)
    | 1 => onlyBits w (seqHead + span 47 45)
    | 2 => onlyBits w (seqHead + span 47 45)
    | _ => false
  | 9 => opc w == 0 && onlyBits w (seqHead + span 47 32) && wget w 47 46 != 3
  | 10 => decide (opc w < 2) && onlyBits w (seqHead + span 47 43)
  | 11 => (opc w == 0 && onlyBits w (seqHead + span 15 0)) || (opc w == 1 && onlyBits w seqHead)
  | 12 => legalImm w
  | _ => false

/-- The queue an instruction runs in, numbered as SQ_TRAP.queue: 0 sequencer, 1 matrix, 2 vector, 3 DMA (Table 5-2). -/
def queueOf (w : Word64) : Nat :=
  match grp w with
  | 2 => 1
  | 3 => 2
  | 4 => 2
  | 12 => 2
  | 5 => if opc w < 2 then 2 else 0
  | 6 => 3
  | 7 => if opc w = 4 then 3 else 0
  | _ => 0

/-- High bits of the scalar register fields a queued instruction names, in the order their values are copied (R156). -/
def namedRegs (w : Word64) : List Nat :=
  match grp w, opc w with
  | 2, 0 => [15, 10]
  | 2, 1 => [26, 21]
  | 2, 2 => [26]
  | 5, 0 => [42]
  | 5, 1 => [42]
  | 6, 0 => [47, 42, 37]
  | 6, 1 => [42]
  | 6, 2 => [42]
  | 7, 4 => [47, 42, 37]
  | _, _ => []

/-- Depth of a queue (Table 5-5). -/
def queueDepth (q : Nat) : Nat := if q = 2 then 32 else 16

/-! ### Addresses of a core program (R161) -/

/-- What a 64-bit address names. -/
inductive CoreAddr where
  | loc (a : Nat)
  | row (member a : Nat)
  | bad
  deriving DecidableEq, Repr

/-- R161: bits [63:53] are 0; bit 52 marks a row address; a local address has bits [51:48] clear. -/
def coreAddr (a : Nat) : CoreAddr :=
  if a ≥ 2 ^ 53 then .bad
  else if a ≥ 2 ^ 52 then .row (a / 2 ^ 48 % 16) (a % 2 ^ 48)
  else if a ≥ 2 ^ 48 then .bad
  else .loc a

/-- A base register value plus a sign-extended offset, modulo 2^64. -/
def addrPlus (base : Word64) (bits v : Nat) : Nat := wrap 64 ((base.toNat : Int) + sext bits v)

end Sys2Proof.Machine
end

