-- ==== Sys2Proof/Machine/CoreOps.lean ====
section
/-!
DEFINITION. Sys2Proof/Machine/CoreOps.lean: what the instructions of a core share: its registers, the instruction at its
program counter, traps and stops (R187), semaphores (R158, R159), and its three queues (R156, R157).
-/

namespace Sys2Proof.Machine

/-! ### Registers of a core -/

/-- Scalar register i; s0 reads 0 (R154). -/
def Core.sreg (c : Core) (i : Nat) : Word64 := if i = 0 then 0 else smGet (fun _ => 0) c.s i

/-- Write scalar register i; a write to s0 has no effect (R154). -/
def Core.setS (c : Core) (i : Nat) (v : Word64) : Core :=
  if i = 0 then c else { c with s := smPut (fun _ => (0 : Word64)) c.s i v }

/-- Vector register r, its poisoned lanes, and mask register j; m0 reads as all ones (R135). -/
def Core.vreg (c : Core) (r : Nat) : BitVec 8192 := smGet (fun _ => 0) c.v r
def Core.vpois (c : Core) (r : Nat) : BitVec 256 := smGet (fun _ => 0) c.vp r
def Core.mask (c : Core) (j : Nat) : BitVec 256 := if j = 0 then BitVec.allOnes 256 else smGet (fun _ => 0) c.m j

/-- The first word number of a vector register (64 words of four lanes), of a mask register (2 words), of an accumulator row (16 words of
four lanes), of a face entry (128 words, two to a lane) and of its scale bytes (8 words of eight lanes) (R148). -/
def vecWord (r : Nat) : Nat := r * 64
def maskWord (j : Nat) : Nat := 2048 + 2 * j
def accWord (e r : Nat) : Nat := 4096 + (e * 128 + r) * 16
def faceWord (e j : Nat) : Nat := 16384 + (e * 128 + j) * 128
def faceScWord (e j : Nat) : Nat := 81920 + (e * 128 + j) * 8

/-- Write vector register r with valid check bits, and its poisoned lanes. -/
def Core.setV (c : Core) (r : Nat) (v : BitVec 8192) (p : BitVec 256) : Core :=
  { c with v := smPut (fun _ => (0 : BitVec 8192)) c.v r v, vp := smPut (fun _ => (0 : BitVec 256)) c.vp r p,
           rchk := smClear c.rchk (vecWord r) (vecWord (r + 1)) }
/-- Write mask register j with valid check bits; a write to m0 has no effect (R135). -/
def Core.setM (c : Core) (j : Nat) (v : BitVec 256) : Core :=
  if j = 0 then c else
    { c with m := smPut (fun _ => (0 : BitVec 256)) c.m j v, rchk := smClear c.rchk (maskWord j) (maskWord (j + 1)) }

/-- Lane l of a vector register. -/
def lane (v : BitVec 8192) (l : Nat) : Word32 := BitVec.ofNat 32 (digit 32 v.toNat l)
/-- A vector register from its lanes. -/
def ofLanes (f : Nat → Word32) : BitVec 8192 := BitVec.ofNat 8192 (packN 32 256 fun l => (f l).toNat)
/-- A 256-bit mask from its bits. -/
def ofBits (f : Nat → Bool) : BitVec 256 := BitVec.ofNat 256 (packN 1 256 fun l => b2n (f l))
/-- Bit l of a mask. -/
def mbit (m : BitVec 256) (l : Nat) : Bool := bitAt m.toNat l

/-- Write the selected lanes of a vector register and their poison, in words with valid check bits; the other lanes stay as they are
(R135, R136). -/
def Core.putLanes (c : Core) (vd : Nat) (sel : BitVec 256) (f : Nat → Word32) (p : BitVec 256) : Core :=
  let old := c.vreg vd
  let v := ofLanes fun l => if mbit sel l then f l else lane old l
  let vp := (c.vpois vd &&& ~~~sel) ||| (sel &&& p)
  { c with v := smPut (fun _ => (0 : BitVec 8192)) c.v vd v, vp := smPut (fun _ => (0 : BitVec 256)) c.vp vd vp,
           rchk := c.rchk.filter fun e => !(e.1 / 64 == vd && digit 4 sel.toNat (e.1 % 64) != 0) }

/-- Stream l (R98); before SQ_SR_SEED is written the streams stand as seeded by 0. -/
def Core.stream (c : Core) (l : Nat) : Word64 := smGet (streamSeed 0) c.strm l
def Core.setStream (c : Core) (l : Nat) (v : Word64) : Core :=
  { c with strm := smPut (streamSeed 0) c.strm l v }

/-! ### Registers through the vein code (R148) -/

/-- Change symbol i (four bits) of a word by v in a sparse map of registers of m words each. -/
def flipIn {n : Nat} (l : List (Nat × BitVec n)) (m word i v : Nat) : List (Nat × BitVec n) :=
  smPut (fun _ => (0 : BitVec n)) l (word / m)
    (smGet (fun _ => 0) l (word / m) ^^^ BitVec.ofNat n (v * 2 ^ (128 * (word % m) + 4 * i)))

/-- Set bits lo to lo + len - 1 of the poison of the register that a word belongs to. -/
def poisonIn {n : Nat} (l : List (Nat × BitVec n)) (m word len : Nat) : List (Nat × BitVec n) :=
  smPut (fun _ => (0 : BitVec n)) l (word / m)
    (smGet (fun _ => 0) l (word / m) ||| BitVec.ofNat n ((2 ^ len - 1) * 2 ^ (len * (word % m))))

/-- Change data symbol i of register word n by v; m0 is no register and does not change. -/
def Core.flipWord (c : Core) (n i v : Nat) : Core :=
  if n < maskWord 0 then { c with v := flipIn c.v 64 n i v }
  else if n < maskWord 1 then c
  else if n < accWord 0 0 then { c with m := flipIn c.m 2 (n - maskWord 0) i v }
  else if n < faceWord 0 0 then { c with acc := flipIn c.acc 16 (n - accWord 0 0) i v }
  else if n < faceScWord 0 0 then { c with face := flipIn c.face 128 (n - faceWord 0 0) i v }
  else { c with faceSc := flipIn c.faceSc 8 (n - faceScWord 0 0) i v }

/-- The stored check bits of a word exclusive-or the clean ones. -/
def Core.wordDiff (c : Core) (n : Nat) : BitVec 16 := smGet (fun _ => 0) c.rchk n
def Core.setDiff (c : Core) (n : Nat) (x : BitVec 16) : Core := { c with rchk := smPut (fun _ => (0 : BitVec 16)) c.rchk n x }

/-- Mark the lanes of register word n poisoned; a mask register keeps the poison mark in its check bits. -/
def Core.poisonWord (c : Core) (n : Nat) : Core :=
  let d := c.setDiff n 0
  if n < maskWord 0 then { d with vp := poisonIn c.vp 64 n 4 }
  else if n < accWord 0 0 then c.setDiff n poisonMark
  else if n < faceWord 0 0 then { d with accp := poisonIn c.accp 16 (n - accWord 0 0) 4 }
  else if n < faceScWord 0 0 then
    let w := n - faceWord 0 0
    { d with facep := poisonIn c.facep 64 (w / 128 * 64 + w % 128 / 2) 1 }
  else { d with facep := poisonIn c.facep 8 (n - faceScWord 0 0) 8 }

/-- Read register word n of core k through its decoder: correct and count it, or mark it poisoned and count it. -/
def Dev.scrubReg (k : Nat) (d : Dev) (n : Nat) : Dev :=
  let c := d.core k
  match veinDecode (c.wordDiff n) with
  | .clean => d
  | .poisoned => d.setCore k (c.poisonWord n)
  | .data i v => (d.setCore k ((c.flipWord n i v).setDiff n 0)).countCorrected (.scratch k) 0
  | .check => (d.setCore k (c.setDiff n 0)).countCorrected (.scratch k) 0
  | .bad => (d.setCore k (c.poisonWord n)).countBad (.scratch k) 0

/-- Read the register words that p names, in rising order; only a word whose check bits differ from the clean ones changes. -/
def Dev.readRegs (d : Dev) (k : Nat) (p : Nat → Bool) : Dev :=
  (((d.core k).rchk.map (·.1)).filter p).foldl (Dev.scrubReg k) d

/-! ### The instruction at the program counter -/

/-- Offset of instruction i in the instruction store of core k (R152). -/
def istore (k i : Nat) : Nat := 0x10800000 + dieOf k * 0x1000000 + localOf k * 0x10000 + 8 * i

/-- The program counter of core k. -/
def Dev.pc (d : Dev) (k : Nat) : Nat := d.fld (SQ_STATUS_pc k)

/-- The instruction that core k issues next. -/
def Dev.instr (d : Dev) (k : Nat) : Word64 := d.reg (istore k (d.pc k))

/-- Whether that word reads poisoned (R189). -/
def Dev.instrBad (d : Dev) (k : Nat) : Bool := smGet (fun _ => false) d.ram.istoreBad (istore k (d.pc k))

/-- The sequencer of core k is running and not waiting for a load. -/
def Dev.sequencing (d : Dev) (k : Nat) : Bool := decide (k < 960) && d.coreState k == 1 && (d.core k).loadId == 0

/-- The sequencer of core k issues an instruction of this group and operation. -/
def Dev.issues (d : Dev) (k g op : Nat) : Bool :=
  d.sequencing k && !d.instrBad k && legal (d.instr k) && grp (d.instr k) == g && opc (d.instr k) == op

/-! ### Traps and stops -/

/-- Take a core out of every barrier it waits at. -/
def Dev.leaveBarriers (d : Dev) (k : Nat) : Dev :=
  { d with row := { d.row with barriers :=
      (d.row.barriers.map fun b => { b with cores := b.cores.filter (· != k) }).filter (!·.cores.isEmpty) } }

/-- The core leaves state 1: the sequencer stops, and each queue discards what it has not started (R187). -/
def Dev.leaveRun (d : Dev) (k st : Nat) : Dev :=
  let d := d.modCore k fun c => { c with
    mq := c.mq.filter (·.started), vq := c.vq.filter (·.started), dq := c.dq.filter (·.started), loadId := 0 }
  (((d.leaveBarriers k).setFld (SQ_STATUS_state k) st).setFld (SQ_STATUS_wait k) 0).setFld (SQ_CTRL_run k) 0

/-- A trap (R187, Table 5-19): recorded, state 2, and the core's event.  A core that has already left state 1 takes none. -/
def Dev.trapWith (d : Dev) (k code queue pc reason addr swcode : Nat) : Dev :=
  if d.coreState k ≠ 1 then d
  else
    let d := d.setReg (SQ_TRAP k) (BitVec.ofNat 64
      (code + pc % 2 ^ 13 * 2 ^ 16 + queue % 4 * 2 ^ 30 + swcode % 2 ^ 16 * 2 ^ 32 + reason % 2 ^ 16 * 2 ^ 48))
    let d := (d.setReg (SQ_TRAP_ADDR k) (BitVec.ofNat 64 addr)).leaveRun k 2
    (d.modCore k fun c => { c with swTrap := code == 0x0B }).event 1 k (code + 2 * 2 ^ 8)

/-- A trap without a reason or a software code. -/
def Dev.trap (d : Dev) (k code queue pc addr : Nat) : Dev := d.trapWith k code queue pc 0 addr 0

def trapIllegal : Nat := 0x01
def trapAlign : Nat := 0x02
def trapPoison : Nat := 0x03
def trapAddr : Nat := 0x04
def trapRefused : Nat := 0x05
def trapTimeout : Nat := 0x06
def trapDma : Nat := 0x07
def trapWait : Nat := 0x08
def trapBarrier : Nat := 0x09
def trapSem : Nat := 0x0A
def trapSoft : Nat := 0x0B

/-- A core in state 1 stops as SQ_CTRL.stop gives: state 3, no trap recorded, the core's event (R187). -/
def Dev.stopCore (d : Dev) (k : Nat) : Dev :=
  if d.coreState k = 1 then (d.leaveRun k 3).event 1 k (3 * 2 ^ 8) else d

/-- The program goes on at index n; an index past the store takes the address-fault trap (R163). -/
def Dev.goTo (d : Dev) (k n : Nat) : Dev :=
  if 8191 < n then d.trap k trapAddr 0 (d.pc k) 8192
  else (d.setFld (SQ_STATUS_pc k) n).setFld (SQ_STATUS_wait k) 0

/-- The index at which a stopped program would go on; the last instruction has no next one, and the index stays. -/
def Dev.afterStop (d : Dev) (k : Nat) : Nat := min (d.pc k + 1) 8191

/-- The program goes on at the next instruction. -/
def Dev.advance (d : Dev) (k : Nat) : Dev := d.goTo k (d.pc k + 1)

/-- A sequencer instruction waits; code is that of SQ_STATUS.wait (Table 5-17). -/
def Dev.waits (d : Dev) (k code : Nat) : Dev :=
  if d.fld (SQ_STATUS_wait k) = code then d
  else (d.modCore k fun c => { c with waitFrom := d.frame }).setFld (SQ_STATUS_wait k) code

/-! ### Semaphores -/

/-- Semaphore j of core k (Table 5-21). -/
def Dev.sem (d : Dev) (k j : Nat) : Nat := digit 8 (d.reg (SQ_SEM k)).toNat j

def Dev.setSem (d : Dev) (k j v : Nat) : Dev := d.setFld ⟨SQ_SEM k, 8 * j + 7, 8 * j⟩ v

/-- Raise a semaphore; above 255 it takes the semaphore-overflow trap naming the raising instruction (R159). -/
def Dev.raiseSem (d : Dev) (k j queue pc : Nat) : Dev :=
  if d.sem k j < 255 then d.setSem k j (d.sem k j + 1) else d.trap k trapSem queue pc 0

/-! ### Queues -/

def Core.queue (c : Core) (q : Nat) : List QEntry := if q = 1 then c.mq else if q = 2 then c.vq else c.dq

def Core.setQueue (c : Core) (q : Nat) (l : List QEntry) : Core :=
  if q = 1 then { c with mq := l } else if q = 2 then { c with vq := l } else { c with dq := l }

/-- Change the entry with a name. -/
def Dev.modEntry (d : Dev) (k q uid : Nat) (f : QEntry → QEntry) : Dev :=
  d.modCore k fun c => c.setQueue q ((c.queue q).map fun e => if e.uid == uid then f e else e)

/-- Scalar value i of a queue entry. -/
def QEntry.val (e : QEntry) (i : Nat) : Word64 := e.vals.getD i 0

/-- The first entry of a queue that has not started. -/
def Core.headOf (c : Core) (q : Nat) : Option QEntry := (c.queue q).find? (!·.started)

/-- Whether an entry waits on semaphore j (Table 5-1). -/
def QEntry.waitsOn (e : QEntry) (j : Nat) : Bool := wbit e.word 55 && wget e.word 54 52 == j

/-- Queues before queue q in the order of R159 whose next instruction waits on semaphore j. -/
def Core.aheadOn (c : Core) (q j : Nat) : Nat :=
  ([1, 2, 3].filter fun r => decide (r < q) && (match c.headOf r with | some e => e.waitsOn j | none => false)).length

/-- Whether the semaphore an entry of queue q waits on lets it start (R158, R159). -/
def Dev.semReady (d : Dev) (k q : Nat) (e : QEntry) : Bool :=
  !wbit e.word 55 || decide ((d.core k).aheadOn q (wget e.word 54 52) < d.sem k (wget e.word 54 52))

/-- An entry starts: it lowers its semaphore (R158). -/
def Dev.startEntry (d : Dev) (k q : Nat) (e : QEntry) : Dev :=
  let d := if wbit e.word 55 then d.setSem k (wget e.word 54 52) (d.sem k (wget e.word 54 52) - 1) else d
  d.modEntry k q e.uid fun x => { x with started := true }

/-- An entry has done its work; QUEUED_INSTRUCTION_COMPLETE frees it. -/
def Dev.finishEntry (d : Dev) (k q uid : Nat) : Dev := d.modEntry k q uid fun x => { x with finished := true }

/-- Whether anything of an entry is still under way: its work, or rows in a drain buffer. -/
def Core.entryDone (c : Core) (e : QEntry) : Bool := e.finished && !(c.drains.any (·.uid == e.uid))

/-- An entry completes: it leaves its queue and raises its semaphore (R158). -/
def Dev.completeEntry (d : Dev) (k q : Nat) (e : QEntry) : Dev :=
  let d := d.modCore k fun c => c.setQueue q ((c.queue q).filter (·.uid != e.uid))
  if wbit e.word 51 then d.raiseSem k (wget e.word 50 48) q e.pc else d

/-- Issue a queued instruction: copy the scalar registers it names into an entry (R156). -/
def Dev.enqueue (d : Dev) (k q : Nat) (w : Word64) : Dev :=
  let c := d.core k
  let e : QEntry := { uid := c.uid, pc := d.pc k, word := w, vals := (namedRegs w).map fun hi => c.sreg (regField w hi) }
  d.setCore k { c.setQueue q (c.queue q ++ [e]) with uid := c.uid + 1 }

end Sys2Proof.Machine
end

