-- ==== Sys2Proof/Machine/Scalar.lean ====
section
/-!
DEFINITION. Sys2Proof/Machine/Scalar.lean: the scalar and branch instructions (R163, Table 5-6).  Each is one step of the
sequencer of a core; it changes nothing where that core is not about to issue that instruction.
-/

namespace Sys2Proof.Machine

/-! ### Shared operations -/

/-- Operand b: the sign-extended immediate when bit 55 is set, otherwise sb. -/
def scalarB (c : Core) (w : Word64) : Word64 :=
  if wbit w 55 then BitVec.ofNat 64 (wrap 64 (sext 32 (wget w 31 0))) else c.sreg (regField w 37)

/-- A scalar result: sd is written and the program goes on. -/
def Dev.scalarResult (d : Dev) (k hi : Nat) (v : Word64) : Dev :=
  (d.modCore k fun c => c.setS (regField (d.instr k) hi) v).advance k

/-- Scalar operation op of two 64-bit values. -/
def Dev.alu (d : Dev) (k op : Nat) (f : Word64 → Word64 → Word64) : Dev :=
  if d.issues k 0 op then
    d.scalarResult k 47 (f ((d.core k).sreg (regField (d.instr k) 42)) (scalarB (d.core k) (d.instr k)))
  else d

/-- The shift amount: the low 6 bits. -/
def shAmt (b : Word64) : Nat := b.toNat % 64

/-- 1 for true, as a register value. -/
def boolWord (b : Bool) : Word64 := if b then 1 else 0

/-- Go to pc + a sign-extended 24-bit offset; a target outside the store takes the address-fault trap at the branch. -/
def Dev.branchTo (d : Dev) (k : Nat) : Dev :=
  let t : Int := (d.pc k : Int) + sext 24 (wget (d.instr k) 23 0)
  if 0 ≤ t ∧ t ≤ 8191 then d.goTo k t.toNat else d.trap k trapAddr 0 (d.pc k) (wrap 64 t)

/-- Conditional branch op. -/
def Dev.branchIf (d : Dev) (k op : Nat) (p : Word64 → Word64 → Bool) : Dev :=
  if d.issues k 1 op then
    if p ((d.core k).sreg (regField (d.instr k) 47)) ((d.core k).sreg (regField (d.instr k) 42)) then d.branchTo k
    else d.advance k
  else d

/-- Whether the spare of the core's cluster serves its logical position (R190). -/
def Dev.remapped (d : Dev) (k : Nat) : Bool :=
  d.flag (SQ_REMAP_active (dieOf k) (clusterOf k)) && d.fld (SQ_REMAP_position (dieOf k) (clusterOf k)) == posOf k

/-- Fabric identifier of this device. -/
def Dev.fid (d : Dev) : Nat := d.fld FB_ID_id

/-! ### Scalar instructions -/

def execSAdd (k : Nat) (s : State) := s.act fun d => d.alu k 0x0 (· + ·)
def execSSub (k : Nat) (s : State) := s.act fun d => d.alu k 0x1 (· - ·)
def execSMul (k : Nat) (s : State) := s.act fun d => d.alu k 0x2 (· * ·)
def execSAnd (k : Nat) (s : State) := s.act fun d => d.alu k 0x3 (· &&& ·)
def execSOr (k : Nat) (s : State) := s.act fun d => d.alu k 0x4 (· ||| ·)
def execSXor (k : Nat) (s : State) := s.act fun d => d.alu k 0x5 (· ^^^ ·)
def execSShl (k : Nat) (s : State) := s.act fun d => d.alu k 0x6 fun a b => a <<< shAmt b
def execSShr (k : Nat) (s : State) := s.act fun d => d.alu k 0x7 fun a b => a >>> shAmt b
def execSSra (k : Nat) (s : State) := s.act fun d => d.alu k 0x8 fun a b => a.sshiftRight (shAmt b)
def execSlt (k : Nat) (s : State) := s.act fun d => d.alu k 0x9 fun a b => boolWord (a.slt b)
def execSltu (k : Nat) (s : State) := s.act fun d => d.alu k 0xA fun a b => boolWord (a.ult b)
def execSMin (k : Nat) (s : State) := s.act fun d => d.alu k 0xB fun a b => if a.slt b then a else b
def execSMax (k : Nat) (s : State) := s.act fun d => d.alu k 0xC fun a b => if a.slt b then b else a

/-- li: sd ← imm32, sign-extended. -/
def execLi (k : Nat) (s : State) := s.act fun d => d.alu k 0xD fun _ b => b

/-- lih: sd[63:32] ← imm32, leaving sd[31:0]. -/
def execLih (k : Nat) (s : State) := s.act fun d =>
  if d.issues k 0 0xE then
    d.scalarResult k 47 (wput ((d.core k).sreg (regField (d.instr k) 47)) 63 32 (wget (d.instr k) 31 0))
  else d

/-- The special value that rdspr reads; value 5, SQ_CYCLE, counts compute cycles, which this model leaves free. -/
def Dev.special (d : Dev) (k n : Nat) : Word64 :=
  if n = 0 then BitVec.ofNat 64 (localOf k)
  else if n = 1 then BitVec.ofNat 64 (dieOf k)
  else if n = 2 then BitVec.ofNat 64 k
  else if n = 3 then BitVec.ofNat 64 (if d.remapped k then 10 else posOf k)
  else if n = 4 then BitVec.ofNat 64 d.fid
  else d.freeAt 0

def execRdspr (k : Nat) (s : State) := s.act fun d =>
  if d.issues k 0 0xF then
    let n := wget (d.instr k) 31 0
    let d1 := if n = 5 then (d.setReg (SQ_CYCLE k) (d.freeAt 0)).draw 1 else d
    d1.scalarResult k 47 (d.special k n)
  else d

/-! ### Branch instructions -/

def execBeq (k : Nat) (s : State) := s.act fun d => d.branchIf k 0x0 fun a b => a == b
def execBne (k : Nat) (s : State) := s.act fun d => d.branchIf k 0x1 fun a b => a != b
def execBlt (k : Nat) (s : State) := s.act fun d => d.branchIf k 0x2 fun a b => a.slt b
def execBge (k : Nat) (s : State) := s.act fun d => d.branchIf k 0x3 fun a b => !a.slt b
def execBltu (k : Nat) (s : State) := s.act fun d => d.branchIf k 0x4 fun a b => a.ult b
def execBgeu (k : Nat) (s : State) := s.act fun d => d.branchIf k 0x5 fun a b => !a.ult b

def execJmp (k : Nat) (s : State) := s.act fun d => if d.issues k 1 0x6 then d.branchTo k else d

/-- jal: sd ← pc + 1; pc ← pc + sext(offset).  A jump that traps writes nothing. -/
def execJal (k : Nat) (s : State) := s.act fun d =>
  if d.issues k 1 0x7 then
    let t : Int := (d.pc k : Int) + sext 24 (wget (d.instr k) 23 0)
    if 0 ≤ t ∧ t ≤ 8191 then
      (d.modCore k fun c => c.setS (regField (d.instr k) 47) (BitVec.ofNat 64 (d.pc k + 1))).branchTo k
    else d.branchTo k
  else d

/-- jr: pc ← sa, bits [12:0]. -/
def execJr (k : Nat) (s : State) := s.act fun d =>
  if d.issues k 1 0x8 then d.goTo k (wget ((d.core k).sreg (regField (d.instr k) 47)) 12 0) else d

end Sys2Proof.Machine
end

