-- ==== Sys2Proof/Machine/Routing.lean ====
section
/-!
DEFINITION. Sys2Proof/Machine/Routing.lean: coordinates, partners, the Map, routing tables (R287, R288, R299), the choice of
the next hop (R289, R297), and the headframe's queues of cells and bell records (R274 to R276, R285).
-/

namespace Sys2Proof.Machine

/-! ### Coordinates (R263, R264) -/

def noFid : Nat := 0xFFFFF
def fidX (f : Nat) : Nat := f % 16
def fidY (f : Nat) : Nat := f / 16 % 16
def fidZ (f : Nat) : Nat := f / 256 % 16
def fidSheet (f : Nat) : Nat := f / 4096

/-- Coordinate a of a fabric ID: 0 x, 1 y, 2 z. -/
def fidCoord (f a : Nat) : Nat := digit 4 f a

/-- A fabric ID with coordinate a replaced. -/
def fidWith (f a k : Nat) : Nat := putBits f (4 * a + 3) (4 * a) k

/-- The axis of a port and this device's coordinate on it. -/
def axisOf (p : Nat) : Nat := p / 2
def Dev.coordOn (d : Dev) (p : Nat) : Nat := fidCoord d.fid (axisOf p)

/-- The colour that reaches coordinate y on a port (R228). -/
def Dev.colourTo (d : Dev) (p y : Nat) : Nat := (y + 16 - d.coordOn p) % 16

/-! ### The Map -/

def FabMap.find (m : FabMap) (f : Nat) : Option MapEntry := m.entries.find? (·.fid == f)
def FabMap.has (m : FabMap) (f : Nat) : Bool := (m.find f).isSome

/-- The Map in force has an entry. -/
def Dev.inMap (d : Dev) (f : Nat) : Bool := match d.fab.map with | some m => m.has f | none => false

/-- This device's own entry. -/
def Dev.ownEntry (d : Dev) : Option MapEntry := match d.fab.map with | some m => m.find d.fid | none => none

/-- Whether a port is a ZB circuit of an atlas. -/
def Dev.isZb (d : Dev) (p : Nat) : Bool := d.flag (FB_PLANE_zb_circuit p)

/-- The fabric ID of the device at coordinate y of a port; on a ZB circuit the Map's peer. -/
def Dev.partnerAt (d : Dev) (p y : Nat) : Nat :=
  if d.isZb p then (match d.ownEntry with | some e => e.zbPeer | none => noFid)
  else if d.fid = noFid then noFid else fidWith d.fid (axisOf p) y

/-- Bit y of a 16-bit field. -/
def Dev.bit (d : Dev) (f : Fld) (y : Nat) : Bool := bitAt (d.fld f) y
def Dev.setBit (d : Dev) (f : Fld) (y : Nat) (b : Bool) : Dev := d.setFld f (putBits (d.fld f) y y (b2n b))

def Dev.liveOn (d : Dev) (p y : Nat) : Bool := d.bit (FB_PLANE_live p) y

/-- Coordinates of the partners live on a port. -/
def Dev.livePartners (d : Dev) (p : Nat) : List Nat := (List.range 16).filter (d.liveOn p)

/-- The other port of an axis (R229). -/
def pairOf (p : Nat) : Nat := if p % 2 = 0 then p + 1 else p - 1

/-- The paired port; ports 4 and 5 of an atlas have none (R301). -/
def Dev.pairPort (d : Dev) (p : Nat) : Option Nat := if d.isZb 5 && decide (4 ≤ p) then none else some (pairOf p)

/-- The ports of an axis on which its group is reached: in an atlas ZA alone serves Z (R229, R301). -/
def Dev.axisPorts (d : Dev) (a : Nat) : List Nat := [2 * a, 2 * a + 1].filter fun p => !d.isZb p

/-! ### Ports and lanes -/

def Dev.drift (d : Dev) (n : Nat) : Drift := match smFind d.drifts n with | some x => x | none => {}
def Dev.setDrift (d : Dev) (n : Nat) (x : Drift) : Dev := { d with drifts := smPut (fun _ => ({} : Drift)) d.drifts n x }
def Dev.modDrift (d : Dev) (n : Nat) (f : Drift → Drift) : Dev := d.setDrift n (f (d.drift n))
def Drift.lane (x : Drift) (l : Nat) : Lane := match smFind x.lanes l with | some y => y | none => {}
def Drift.setLane (x : Drift) (l : Nat) (y : Lane) : Drift := { x with lanes := smPut (fun _ => ({} : Lane)) x.lanes l y }
def Dev.modLane (d : Dev) (n l : Nat) (f : Lane → Lane) : Dev := d.modDrift n fun x => x.setLane l (f (x.lane l))

/-- DR_LANE_STAT_l.state (Table 7-7). -/
def Dev.laneState (d : Dev) (n l : Nat) : Nat := d.fld (DR_LANE_STAT_state n l)

/-- Move a lane to a state, and keep DR_STATUS.in_service in step. -/
def Dev.setLaneState (d : Dev) (n l st : Nat) : Dev :=
  (d.setFld (DR_LANE_STAT_state n l) st).setBit (DR_STATUS_in_service n) l (st == 2)

/-- Whether a port holds under R251. -/
def Dev.portHolds (d : Dev) (p : Nat) : Bool := (d.drift p).holding

/-- Whether a lane carries cells on a colour (Table 7-7, R250). -/
def Dev.laneCarries (d : Dev) (p l c : Nat) : Bool := d.laneState p l == 2 && !d.bit (DR_LANE_STAT_qmask p l) c

/-- Whether a port carries data: a data lane in SERVICE, neither degraded nor holding (R289). -/
def Dev.portServes (d : Dev) (p : Nat) : Bool :=
  d.driftFitted p && (List.range 30).any (fun l => d.laneState p l == 2) && !d.flag (FB_PLANE_degraded p) && !d.portHolds p

/-- GD_STATUS.state (Table 2-3). -/
def Dev.gridState (d : Dev) : Nat := d.fld GD_STATUS_state

/-- The device sends every kind of cell (R518). -/
def Dev.gridServes (d : Dev) : Bool := d.gridState == 3 || d.gridState == 4 || d.gridState == 5

/-- The partner on a colour of a port is aligned and in range (R58, R59). -/
def Dev.alignedTo (d : Dev) (p c : Nat) : Bool := d.flag (GD_RANGE_aligned p c) && !d.flag (GD_RANGE_out_of_range p c)

/-- The colour of a partner on a port: on a ZB circuit the Map's (R231). -/
def Dev.colourOf (d : Dev) (p y : Nat) : Nat :=
  if d.isZb p then (match d.ownEntry with | some e => e.zbColour | none => 0) else d.colourTo p y

/-- The coordinate reached on a colour of a port: on a ZB circuit the peer's (R228, R298). -/
def Dev.coordVia (d : Dev) (p c : Nat) : Nat :=
  if d.isZb p then (match d.ownEntry with | some e => fidZ e.zbPeer | none => 0) else (d.coordOn p + c) % 16

/-- State of a device in the live set of a version: 0 live, 1 fenced, 2 absent. -/
def liveState (l : List Change) (f : Nat) : Nat := match l.find? (·.fid == f) with | some c => c.state | none => 0

/-- The version in force, its live set and its Map. -/
def Dev.version (d : Dev) : Nat := d.fld FB_EPOCH_version
def Dev.liveSet (d : Dev) (v : Nat) : List Change := if v = 0 then d.fab.live0 else d.fab.live1
def Dev.verMap (d : Dev) (v : Nat) : Option FabMap := if v = 0 then d.fab.map0 else d.fab.map1
def Dev.fenced (d : Dev) (f : Nat) : Bool := liveState (d.liveSet d.version) f == 1
/-- A device that the Map in force has and the Map of the version in force has not: absent until Survey finds it live (R268). -/
def Dev.newToMap (d : Dev) (f : Nat) : Bool :=
  match d.fab.map, d.verMap d.version with | some m, some old => m.has f && !old.has f | _, _ => false
def Dev.absent (d : Dev) (f : Nat) : Bool := liveState (d.liveSet d.version) f == 2 || d.newToMap f

/-- This device is FENCED (R436), or ready to rejoin. -/
def Dev.selfFenced (d : Dev) : Bool := d.fld FT_CANARY_STATUS_state == 3 || d.fld FT_CANARY_STATUS_state == 4

/-- The row member at x coordinate x is suspected (R428). -/
def Dev.suspected (d : Dev) (x : Nat) : Bool := decide (x < 16) && d.flag (FT_CANARY_PEER_suspected x)

/-- Data and cage may go to a partner of a port (R58, R271 to R273, R435, R436, R518). -/
def Dev.mayData (d : Dev) (p y : Nat) : Bool :=
  !d.selfFenced && d.flag FB_CTRL_enable && d.gridServes && d.fld FB_STATUS_state == 2 && d.portServes p && d.liveOn p y &&
  d.alignedTo p (d.colourOf p y) && !d.fenced (d.partnerAt p y)

/-! ### Routing tables (R287, R288) -/

/-- A device is usable in a live set. -/
def usable (m : FabMap) (st : List Change) (f : Nat) : Bool := m.has f && liveState st f == 0

/-- D is reachable from f through usable devices by changing each differing axis once. -/
def reach (m : FabMap) (st : List Change) (D : Nat) : Nat → Nat → Bool
  | 0, f => f == D
  | n + 1, f => f == D || [0, 1, 2].any fun a =>
      fidCoord f a != fidCoord D a && usable m st (fidWith f a (fidCoord D a)) &&
        reach m st D n (fidWith f a (fidCoord D a))

/-- Axis a is minimal toward D. -/
def minimalAxis (m : FabMap) (st : List Change) (own D a : Nat) : Bool :=
  fidCoord own a != fidCoord D a && usable m st (fidWith own a (fidCoord D a)) &&
    reach m st D 2 (fidWith own a (fidCoord D a))

/-- The detour toward D: axis and coordinate. -/
def detour (m : FabMap) (st : List Change) (own D : Nat) : Option (Nat × Nat) :=
  ([0, 1, 2].flatMap fun b => (List.range 16).map fun k => (b, k)).find? fun w =>
    let W := fidWith own w.1 w.2
    W != own && !([0, 1, 2].any fun a => fidCoord own a != fidCoord D a && W == fidWith own a (fidCoord D a)) &&
    usable m st W && reach m st D 3 W

/-- The 16-bit entry for D. -/
def routeEntry (m : FabMap) (st : List Change) (own D : Nat) : Nat :=
  if D = own ∨ !usable m st D then 0
  else
    let mins := ([0, 1, 2].filter (minimalAxis m st own D)).foldl (fun v a => v + 2 ^ (12 + a)) 0
    let det := match detour m st own D with
      | some (b, k) => 2 ^ 11 + b * 2 ^ 9 + k * 2 ^ 5
      | none => 0
    if mins = 0 ∧ det = 0 then 0 else 2 ^ 15 + mins + det

/-- The lowest z of a column with a usable gateway to sheet t, and its peer. -/
def gatewayIn (m : FabMap) (st : List Change) (column t : Nat) : Option (Nat × Nat) :=
  (List.range 16).findSome? fun z =>
    match m.find (fidWith column 2 z) with
    | some e => if e.zbValid && fidSheet e.zbPeer == t && usable m st e.zbPeer then some (z, e.zbPeer) else none
    | none => none

/-- The gateway entry for sheet t (R299). -/
def gatewayEntry (m : FabMap) (st : List Change) (own t : Nat) : Nat :=
  if !m.atlas ∨ t = fidSheet own then 0
  else match gatewayIn m st own t with
    | some (z, p) => 2 ^ 63 + z * 2 ^ 48 + p
    | none => match gatewayIn m st (fidWith own 0 (fidX own ^^^ 1)) t with
      | some (z, p) => 2 ^ 63 + 2 ^ 62 + z * 2 ^ 48 + p
      | none => 0

def routeBase (v : Nat) : Nat := 0x630000 + 0x2000 * v
def gatewayBase (v : Nat) : Nat := 0x634000 + 0x80 * v

/-- Write the tables of version v. -/
def Dev.writeTables (d : Dev) (v : Nat) (m : FabMap) (st : List Change) : Dev :=
  let own := d.fid
  let d := (List.range 1024).foldl (fun d i =>
    d.setReg (routeBase v + 8 * i) (BitVec.ofNat 64 (packN 16 4 fun j =>
      routeEntry m st own (fidSheet own * 4096 + 4 * i + j)))) d
  (List.range 16).foldl (fun d t => d.setReg (gatewayBase v + 8 * t) (BitVec.ofNat 64 (gatewayEntry m st own t))) d

/-- The entry of version v for a device of the own sheet. -/
def Dev.route (d : Dev) (v D : Nat) : Nat := digit 16 (d.reg (routeBase v + D % 4096 / 4 * 8)).toNat (D % 4)

/-- The gateway entry of version v for a sheet. -/
def Dev.gateway (d : Dev) (v t : Nat) : Nat := (d.reg (gatewayBase v + 8 * (t % 16))).toNat

/-- The device of the own sheet that a cell heads for, and whether it crosses the ZB circuit here (R299). -/
def Dev.heading (d : Dev) (v dst : Nat) : Option (Nat × Bool) :=
  if fidSheet dst = fidSheet d.fid then some (dst, false)
  else
    let g := d.gateway v (fidSheet dst)
    if !bitAt g 63 then none
    else
      let x := if bitAt g 62 then fidX d.fid ^^^ 1 else fidX d.fid
      let gw := fidWith (fidWith d.fid 0 x) 2 (bitsOf g 51 48)
      if gw = d.fid then some (bitsOf g 19 0, true) else some (gw, false)

/-- Whether two devices stand in one row. -/
def sameRow (f g : Nat) : Bool := f / 16 == g / 16

/-- Whether a cell of a class has a valid entry for its destination in a version (R290): classes 0 and 1 only within the row (R291),
and no class below 2 over a ZB circuit (R300). -/
def Dev.routable (d : Dev) (v cls dst : Nat) : Bool :=
  (decide (2 ≤ cls) || sameRow d.fid dst) &&
  match d.heading v dst with
  | some (_, true) => true
  | some (t, false) => bitAt (d.route v t) 15
  | none => false

/-! ### Next hops (R289, R297) -/

/-- Cells waiting toward a coordinate of a port, and on a port. -/
def Dev.queueLen (d : Dev) (p y : Nat) : Nat := (d.net.waiting.filter fun w => !w.cage && w.queue == some (p, y)).length
def Dev.portLen (d : Dev) (p : Nat) : Nat :=
  (d.net.waiting.filter fun w => !w.cage && (match w.queue with | some q => q.1 == p | none => false)).length

/-- The ports of an axis that may carry data toward a coordinate, for a destination of the own sheet: a suspected row
partner is no next hop but to itself (R429). -/
def Dev.portsFor (d : Dev) (a y dst : Nat) : List Nat := (d.axisPorts a).filter fun p =>
  d.mayData p y && !(a == 0 && d.suspected y && d.partnerAt p y != dst)

/-- Of the ports of an axis the one with fewer waiting cells, the A plane first (R289 step 3). -/
def Dev.bestPort (d : Dev) (a y dst : Nat) : Option (Nat × Nat) :=
  match d.portsFor a y dst with
  | [] => none
  | [p] => some (p, y)
  | p :: q :: _ => if d.portLen q < d.portLen p then some (q, y) else some (p, y)

/-- The axis with the shortest queues toward its next hop over its ports, lowest first (R289 step 2). -/
def Dev.bestAxis (d : Dev) (D : Nat) (axes : List Nat) : Option Nat :=
  axes.foldl (fun best a =>
    let n (a : Nat) := (d.axisPorts a).foldl (fun n p => n + d.queueLen p (fidCoord D a)) 0
    match best with
    | none => some a
    | some b => if n a < n b then some a else some b) none

/-- Whether a class may move along an axis: classes 0 and 1 keep to the row (R291). -/
def axisOpen (cls a : Nat) : Bool := decide (2 ≤ cls) || a == 0

/-- Whether a class may take the ZB circuit toward a peer now (R298, R300). -/
def Dev.crossing (d : Dev) (cls peer : Nat) : Option (Nat × Nat) :=
  if 2 ≤ cls ∧ d.isZb 5 ∧ d.mayData 5 (fidZ peer) then some (5, fidZ peer) else none

/-- The next hop of a data cell of a class in a version: port and coordinate, or none when it waits (R289, R291, R300). -/
def Dev.nextHop (d : Dev) (v cls dst : Nat) : Option (Nat × Nat) :=
  match d.heading v dst with
  | none => none
  | some (peer, true) => d.crossing cls peer
  | some (D, false) =>
    let e := d.route v D
    if !bitAt e 15 then none
    else match d.bestAxis D ([0, 1, 2].filter fun a =>
        axisOpen cls a && bitAt e (12 + a) && !(d.portsFor a (fidCoord D a) dst).isEmpty) with
      | some a => d.bestPort a (fidCoord D a) dst
      | none => if bitAt e 11 && axisOpen cls (bitsOf e 10 9) then d.bestPort (bitsOf e 10 9) (bitsOf e 8 5) dst else none

/-- The cage's next hop: the first differing coordinate in X, Y, Z order, on a port where it is live and whose lane 30
carries its colour (R250, R257, R296, R297). -/
def Dev.cageHop (d : Dev) (v cls dst : Nat) : Option (Nat × Nat) :=
  match d.heading v dst with
  | none => none
  | some (peer, true) => (d.crossing cls peer).filter fun q => d.laneCarries q.1 30 (d.colourOf q.1 q.2)
  | some (D, false) =>
    match [0, 1, 2].find? fun a => fidCoord d.fid a != fidCoord D a with
    | some a =>
      let y := fidCoord D a
      (((d.axisPorts a).filter fun p => axisOpen cls a && d.mayData p y && d.laneCarries p 30 (d.colourOf p y)).map fun p => (p, y)).head?
    | none => none

/-! ### Credit (R276) -/

def bufKey (p y : Nat) (cage : Bool) : Nat := (p * 16 + y) * 2 + b2n cage
def cntGet (m : List (Nat × Nat)) (k : Nat) : Nat := smGet (fun _ => 0) m k
def cntPut (m : List (Nat × Nat)) (k v : Nat) : List (Nat × Nat) := smPut (fun _ => (0 : Nat)) m k v

/-- Buffers a partner holds for this device: 2,048 data, 8 cage. -/
def bufPool (cage : Bool) : Nat := if cage then 8 else 2048

/-- Whether the credit leaves a buffer free at a partner; both counts run modulo the credit field. -/
def Dev.hasCredit (d : Dev) (p y : Nat) (cage : Bool) : Bool :=
  let k := bufKey p y cage
  let md := if cage then 256 else 4096
  decide ((cntGet d.net.sent k % md + md - cntGet d.net.credit k % md) % md < bufPool cage)

/-- Free a receive buffer held for a partner. -/
def Dev.freeBuf (d : Dev) (p y : Nat) (cage : Bool) : Dev :=
  let k := bufKey p y cage
  { d with net := { d.net with freed := cntPut d.net.freed k (cntGet d.net.freed k + 1) } }

/-- Free the buffer of a received cell of lanes 0 to 30. -/
def Dev.freeRx (d : Dev) (r : RxCell) : Dev :=
  if r.lane < 31 then d.freeBuf r.port r.cell.hopSrc (r.lane == 30) else d

/-! ### Queues -/

/-- A cage cell that has crossed a ZB circuit: its src sheet is not the relay's (R297). -/
def Dev.crossed (d : Dev) (w : Waiting) : Bool := w.cage && w.transit.isSome && fidSheet w.cell.src != fidSheet d.fid

/-- The queue in which a cell stands: next hop, transit or local, cage, crossed (R285, R297). -/
def Dev.queueKey (d : Dev) (w : Waiting) : Option ((Nat × Nat) × Bool × Bool × Bool) :=
  w.queue.map fun q => (q, w.transit.isSome, w.cage, d.crossed w)

/-- Mark the heads of the queues: the first waiting cell of each queue, and each cell without a next hop, that has no mark. -/
def Dev.markHeads (d : Dev) : List ((Nat × Nat) × Bool × Bool × Bool) → List Waiting → List Waiting
  | _, [] => []
  | seen, w :: t =>
    let marked : Waiting := if w.headAt.isNone then { w with headAt := some d.frame } else w
    match d.queueKey w with
    | none => marked :: d.markHeads seen t
    | some k => if seen.contains k then w :: d.markHeads seen t else marked :: d.markHeads (k :: seen) t

/-- A waiting cell takes a queue; its time as a head starts again only when it stands in another queue. -/
def Waiting.move (w : Waiting) (q : Option (Nat × Nat)) : Waiting :=
  { w with queue := q, headAt := if q.isSome && q != w.queue then none else w.headAt }

/-- The version by which a waiting cell is routed here (R295). -/
def Dev.versionOf (d : Dev) (w : Waiting) : Nat := if w.transit.isSome then w.cell.epoch else d.version

/-- The next hop that a waiting cell would choose now. -/
def Dev.hopOf (d : Dev) (w : Waiting) : Option (Nat × Nat) :=
  if w.cage then d.cageHop (d.versionOf w) w.cell.cls w.cell.dst else d.nextHop (d.versionOf w) w.cell.cls w.cell.dst

/-- The next hop of a sample duplicate: the port paired with the one that its original waits for or left by (R380). -/
def Dev.twinHop (d : Dev) (ws : List Waiting) (w : Waiting) : Option (Nat × Nat) :=
  let first := match w.leftBy with
    | some p => some p
    | none => ((ws.find? fun (x : Waiting) => w.twin == some x.id).bind (·.queue)).map fun (q : Nat × Nat) => q.1
  match first.bind d.pairPort with
  | some p => let y := fidCoord w.cell.dst (axisOf p); if d.mayData p y then some (p, y) else none
  | none => none

/-- Whether the queue of a waiting cell still qualifies. -/
def Dev.keepsQueue (d : Dev) (w : Waiting) : Bool :=
  match w.queue with
  | some q => d.mayData q.1 q.2 && !(axisOf q.1 == 0 && d.suspected q.2 && d.partnerAt q.1 q.2 != w.cell.dst)
  | none => false

/-- Choose again the queue of every waiting cell whose queue does not qualify any more; a sample duplicate follows its original. -/
def Dev.requeue (d : Dev) : Dev :=
  let ws := d.net.waiting.map fun w =>
    if w.cage then w.move (d.hopOf w) else if w.twin.isSome || d.keepsQueue w then w else w.move (d.hopOf w)
  let ws := ws.map fun w => if w.twin.isNone || w.cage then w else match d.twinHop ws w with
    | some q => w.move (some q)
    | none => if d.keepsQueue w then w else w.move (d.hopOf w)
  { d with net := { d.net with waiting := d.markHeads [] ws } }

/-- Put a cell in the queues.  The limits of FB_CAGE under which it was accepted go with it (R66). -/
def Dev.enqueueCell (d : Dev) (c : Cell) (transit : Option (Nat × Nat × Bool)) (cage : Bool) (twin : Option Nat := none) : Dev :=
  let w : Waiting := { id := d.nextId, cell := c, transit := transit, cage := cage, queue := none, since := d.frame, headAt := none,
                       relayLimit := d.fld FB_CAGE_relay_limit, escape := d.fld FB_CAGE_escape, twin := twin, leftBy := none }
  let w := w.move (match twin with
    | some _ => (match d.twinHop d.net.waiting w with | some q => some q | none => d.hopOf w)
    | none => d.hopOf w)
  let d := d.bump
  { d with net := { d.net with waiting := d.markHeads [] (d.net.waiting ++ [w]) } }

/-- Take a waiting cell out of the queues, freeing the receive buffer that a transit cell holds. -/
def Dev.dropWaiting (d : Dev) (w : Waiting) : Dev :=
  let d := { d with net := { d.net with waiting := d.markHeads [] (d.net.waiting.filter (·.id != w.id)) } }
  match w.transit with
  | some (p, y, cage) => d.freeBuf p y cage
  | none => d

/-- A cell originated here (R263, R290). -/
def Dev.newCell (d : Dev) (cls op seq dst : Nat) (payload : List Byte) (len acct : Nat) : Cell :=
  { op := op, len := len, seq := seq, hops := 0, hopSrc := 0, hopDst := 0, cls := cls, epoch := d.version,
    src := d.fid, dst := dst, payload := padTo 256 payload, acct := acct }

/-! ### Bell records -/

/-- Whether a bell record of a kind may go to a partner (R58, R272, R435, R518); PLAN_ANNOUNCE and PLAN_CANCEL go to every partner that
Survey has not found extra or bell-only (R280). -/
def Dev.mayBell (d : Dev) (p y kind : Nat) : Bool :=
  d.gridServes && d.alignedTo p (d.colourOf p y) &&
  (kind == kDatum || kind == kProbe || kind == kReply ||
   ((d.liveOn p y || ((kind == kPlanAnnounce || kind == kPlanCancel) && !d.bit (FB_PLANE_extra p) y)) && d.fld FB_STATUS_state == 2 &&
    ((!d.fenced (d.partnerAt p y) && !d.selfFenced) || (decide (0x10 ≤ kind) && decide (kind < 0x20)))))

/-- Queue a bell record for one partner of one port. -/
def Dev.bell (d : Dev) (p y kind : Nat) (payload : List Byte) (via : Option BellVia := none) : Dev :=
  { d with net := { d.net with bells := d.net.bells ++ [⟨p, y, kind, padTo 256 payload, via⟩] } }

/-- Queue a bell record toward the next hop of a cell to its destination; without one it is lost (R352, R407). -/
def Dev.bellVia (d : Dev) (kind : Nat) (payload : List Byte) (v : BellVia) : Dev :=
  match d.nextHop d.version 4 v.dst with
  | some (p, y) => d.bell p y kind payload (some v)
  | none => d

/-- The active ports: fitted drifts whose lane 31 is in SERVICE or HOLD. -/
def Dev.activePorts (d : Dev) : List Nat :=
  (List.range 6).filter fun p => d.driftFitted p && (d.laneState p 31 == 2 || d.laneState p 31 == 3)

/-- Queue a bell record for every live partner of every port, and the ZB peer. -/
def Dev.bellAll (d : Dev) (kind : Nat) (payload : List Byte) : Dev :=
  (List.range 6).foldl (fun d p => (d.livePartners p).foldl (fun d y => d.bell p y kind payload) d) d

/-- Queue a bell record for every aligned partner of every port (datum announces). -/
def Dev.bellAligned (d : Dev) (kind : Nat) (payload : List Byte) : Dev :=
  (List.range 6).foldl (fun d p => (List.range 16).foldl (fun d c =>
    if d.flag (GD_RANGE_aligned p c) then d.bell p (d.coordVia p c) kind payload else d) d) d

/-- Ports and coordinates that reach an axis partner by its fabric ID; empty when it is no partner. -/
def Dev.pathsTo (d : Dev) (f : Nat) : List (Nat × Nat) :=
  (List.range 6).filterMap fun p =>
    if d.isZb p then (if d.partnerAt p 0 = f then some (p, fidZ f) else none)
    else if f ≠ d.fid ∧ fidWith d.fid (axisOf p) (fidCoord f (axisOf p)) = f then some (p, fidCoord f (axisOf p)) else none

/-- Queue a bell record for one axis partner, on the first port where it is live; a partner on the sheet axis that is not the ZB
peer is reached through the gateways (R352). -/
def Dev.bellTo (d : Dev) (f kind : Nat) (payload : List Byte) (seq : Nat := 0) : Dev :=
  let v : BellVia := ⟨d.fid, f, 0, seq⟩
  match ((d.pathsTo f).find? fun q => d.liveOn q.1 q.2) <|> (d.pathsTo f).head? with
  | some q => d.bell q.1 q.2 kind payload (some v)
  | none => d.bellVia kind payload v

end Sys2Proof.Machine
end

