-- ==== Sys2Proof/Machine/RowOps.lean ====
section
/-!
DEFINITION. Sys2Proof/Machine/RowOps.lean: what row memory, copies and messages share (chapter 9, R174 to R182): tallies and the
TWAIT they release, the checks of R306 and R311, the split of an access into requests (R308), the values of atomics
(Table 9-6), and what an answer does to the access or copy that waits for it.
-/

namespace Sys2Proof.Machine

/-! ### Tallies (R180, R328) -/

/-- The wait condition of R180 holds for tally t and the value sv. -/
def Dev.tallyReady (d : Dev) (t : Nat) (sv : Word64) : Bool :=
  decide ((d.fld (HF_TALLY_count t) + 2 ^ 32 - wget sv 31 0) % 2 ^ 32 < 2 ^ 31)

/-- A TWAIT on tally t completes: DMA-error trap when the error flag is set, otherwise the program goes on. -/
def Dev.twaitEnd (d : Dev) (k t : Nat) : Dev :=
  if d.flag (HF_TALLY_error t) then d.trapWith k trapDma 0 (d.pc k) (d.core k).dmaReason 0 0 else d.advance k

/-- Core k waits in a TWAIT on tally t. -/
def Dev.awaitsTally (d : Dev) (k t : Nat) : Bool :=
  d.coreState k == 1 && d.fld (SQ_STATUS_wait k) == 1 && wget (d.instr k) 47 32 == t

/-- Release every core whose TWAIT on tally t is now satisfied. -/
def Dev.wakeTally (d : Dev) (t : Nat) : Dev :=
  (List.range 960).foldl (fun d k =>
    if d.awaitsTally k t && d.tallyReady t ((d.core k).sreg (regField (d.instr k) 31)) then d.twaitEnd k t else d) d

/-- An arrival at tally t: the count rises by n, wrapping, and waiting cores resume. -/
def Dev.bumpTally (d : Dev) (t n : Nat) : Dev := (d.countWrap (HF_TALLY_count t) n).wakeTally t

/-! ### What the origin checks (R306, R311) -/

/-- The row member with x coordinate x (R304). -/
def Dev.memberFid (d : Dev) (x : Nat) : Nat := fidWith d.fid 0 x

/-- Steps 1 and 2 of R306 for a destination device; FB_STATUS.state 3 is an unmapped origin. -/
def Dev.rowGate (d : Dev) (f : Nat) : Option Nat :=
  if !d.flag FB_CTRL_enable || d.fld FB_STATUS_state == 3 || !d.inMap f || d.absent f then some NO_ROUTE
  else if d.fenced f then some PEER_FENCED
  else none

/-- R306 steps 1 and 2, then R290 and R291: no cell of a class is sent without a valid entry for its destination. -/
def Dev.pathGate (d : Dev) (cls f : Nat) : Option Nat :=
  match d.rowGate f with
  | some e => some e
  | none => if f ≠ d.fid ∧ !d.routable d.version cls f then some NO_ROUTE else none

/-- Region index and key of the import entry that covers n bytes at address a of member x (R311). -/
def Dev.importFor (d : Dev) (x a n : Nat) : Option (Nat × Nat) :=
  match (List.range 256).find? fun k =>
    d.flag (HF_IMPORT_BASE_valid k) && bitAt (d.fld (HF_IMPORT_KEY_member_mask k)) x &&
    decide (d.fld (HF_IMPORT_BASE_base k) * 4096 ≤ a) && decide (a < (d.fld (HF_IMPORT_LIMIT_limit k) + 1) * 4096) with
  | some k =>
    if a + n ≤ (d.fld (HF_IMPORT_LIMIT_limit k) + 1) * 4096 then
      some (d.fld (HF_IMPORT_KEY_region k), d.fld (HF_IMPORT_KEY_key k))
    else none
  | none => none

/-! ### Requests (R308) -/

/-- The read requests of n bytes at a: (place, address, length), none crossing a 2 KiB boundary. -/
def readPieces (a n : Nat) : List (Nat × Nat × Nat) :=
  if n = 0 then []
  else (List.range ((a + n - 1) / 2048 + 1 - a / 2048)).map fun i =>
    let lo := max a ((a / 2048 + i) * 2048)
    let hi := min (a + n) ((a / 2048 + i + 1) * 2048)
    (lo - a, lo, hi - lo)

/-- The write requests of n bytes at a: 224 bytes each but the last. -/
def writePieces (a n : Nat) : List (Nat × Nat × Nat) :=
  (List.range ((n + 223) / 224)).map fun i => (224 * i, a + 224 * i, min 224 (n - 224 * i))

/-- A request not yet sent. -/
def mkReq (owner : ReqOwner) (member : Nat) (kind : ReqKind) (addr len off : Nat) : RowReq :=
  { id := 0, owner := owner, member := member, kind := kind, addr := addr, len := len, off := off, region := 0, key := 0,
    data := [], mask := 0, sb := 0, sc := 0, sent := false, launched := none, deadline := 0, seq := 0, parts := [] }

/-- Add a request under a new name. -/
def Dev.addReq (d : Dev) (r : RowReq) : Dev :=
  { d.bump with row := { d.row with reqs := d.row.reqs ++ [{ r with id := d.nextId }] } }

def Dev.addReqs (d : Dev) (l : List RowReq) : Dev := l.foldl Dev.addReq d

def Dev.findReq (d : Dev) (id : Nat) : Option RowReq := d.row.reqs.find? (·.id == id)

def Dev.modReq (d : Dev) (id : Nat) (f : RowReq → RowReq) : Dev :=
  { d with row := { d.row with reqs := d.row.reqs.map fun r => if r.id == id then f r else r } }

def Dev.dropReq (d : Dev) (id : Nat) : Dev :=
  { d with row := { d.row with reqs := d.row.reqs.filter (·.id != id) } }

/-- The copy that a request belongs to. -/
def RowReq.copy (r : RowReq) : Option Nat := match r.owner with | .copyRead c => some c | .copyWrite c => some c | .access _ => none

/-- Give a request the region index and key of its import entry. -/
def Dev.coverReq (d : Dev) (r : RowReq) : Option RowReq :=
  match d.importFor r.member r.addr r.len with
  | some (g, k) => some { r with region := g, key := k }
  | none => none

/-- Bit j set when payload word j (16 bytes from address a) touches a poisoned word. -/
def Dev.maskOf (d : Dev) (a n : Nat) : Nat :=
  packN 1 ((n + 15) / 16) fun j => b2n ((wordsOf (a + 16 * j) (min 16 (n - 16 * j))).any d.poisonAt)

/-- Whether a mask over 16-byte payload words marks memory word w of n bytes written at a. -/
def maskMarks (mask a n w : Nat) : Bool :=
  (List.range ((n + 15) / 16)).any fun j =>
    bitAt mask j && decide ((a + 16 * j) / 16 ≤ w) && decide (w ≤ (min (a + n) (a + 16 * j + 16) - 1) / 16)

/-- Write bytes whose payload words a mask marks. -/
def Dev.writeMasked (d : Dev) (a : Nat) (l : List Byte) (mask : Nat) : Dev := d.write a l (maskMarks mask a l.length)

/-- What answers a request. -/
inductive Reply where
  | data (bytes : List Byte) (mask : Nat)
  | ack
  | old (value : Nat) (poison : Bool)
  | fail (reason : Nat)
  deriving DecidableEq, Repr

/-! ### Atomics (Table 9-6) -/

/-- Operand size in bytes of an atomic kind. -/
def atomSize (kind : Nat) : Nat := if kind = 1 ∨ (9 ≤ kind ∧ kind ≤ 13) then 8 else 4

/-- fmin32 and fmax32: a NaN operand is ignored, and zeros of one sign leave old in place. -/
def atomMinMax (f : Num → Num → Num) (old sb : Nat) : Nat :=
  let a := fpRead (BitVec.ofNat 32 old); let b := fpRead (BitVec.ofNat 32 sb)
  if isZeroN a && isZeroN b && negN a == negN b then old
  else if isNanN b && !isNanN a then old
  else (fpWrite true (f a b)).toNat

/-- The new value of an atomic. -/
def atomNew (kind old sb sc : Nat) : Nat :=
  let w := 8 * atomSize kind
  let a := old % 2 ^ w; let b := sb % 2 ^ w
  if kind = 0 ∨ kind = 1 then (a + b) % 2 ^ w
  else if kind = 2 then
    (fpWrite true (addNum (fpRead (BitVec.ofNat 32 a)) (fpRead (BitVec.ofNat 32 b)))).toNat
  else if kind = 3 ∨ kind = 9 then (if sext w b < sext w a then b else a)
  else if kind = 4 ∨ kind = 10 then (if sext w a < sext w b then b else a)
  else if kind = 5 ∨ kind = 11 then min a b
  else if kind = 6 ∨ kind = 12 then max a b
  else if kind = 7 then atomMinMax minNum a b
  else if kind = 8 then atomMinMax maxNum a b
  else (if a = sc % 2 ^ w then b else a)

/-! ### Accesses -/

def Dev.findAccess (d : Dev) (id : Nat) : Option Access := d.row.accesses.find? (·.id == id)

def Dev.modAccess (d : Dev) (id : Nat) (f : Access → Access) : Dev :=
  { d with row := { d.row with accesses := d.row.accesses.map fun a => if a.id == id then f a else a } }

/-- Trap code of a failed row access (Table 5-15). -/
def rowTrap (reason : Nat) : Nat := if reason = TIMEOUT_REMOTE then trapTimeout else trapRefused

/-- The reason of the failure with the lowest key. -/
def firstFail : List (Nat × Nat) → Option Nat
  | [] => none
  | (k, r) :: t => match firstFail t with
    | none => some r
    | some r' => if (t.all fun x => decide (k ≤ x.1)) then some r else some r'

/-- The bytes that have returned, in order. -/
def Access.bytes (a : Access) : List Byte :=
  a.got.foldl (fun l g => l.take g.1 ++ g.2.1 ++ l.drop (g.1 + g.2.1.length)) (zeros a.len)

/-- Whether byte i of what returned is poisoned. -/
def Access.poisoned (a : Access) (i : Nat) : Bool :=
  a.got.any fun g => decide (g.1 ≤ i) && decide (i < g.1 + g.2.1.length) && bitAt g.2.2 ((i - g.1) / 16)

/-- The scalar value of an SLD: size and sign of Table 5-10. -/
def loadValue (w : Word64) (l : List Byte) : Word64 :=
  let n := 8 * 2 ^ wget w 37 36
  if wbit w 35 then BitVec.ofNat 64 (wrap 64 (sext n (ofLe l))) else BitVec.ofNat 64 (ofLe l % 2 ^ n)

/-- Bytes loaded into a vector register: the first n bytes and the poison of their lanes, the rest unchanged (R174, R175). -/
def Core.loadV (c : Core) (vd : Nat) (l : List Byte) (bad : Nat → Bool) : Core :=
  let n := l.length / 4
  c.putLanes vd (ofBits fun i => decide (i < n)) (fun i => BitVec.ofNat 32 (leAt l (4 * i) 4)) (ofBits fun i => bad (4 * i))

/-- An access whose every answer is in ends (Table 9-11): failure traps at the instruction; otherwise a load writes its
register, and a poisoned SLD or ATOM takes the poisoned-data trap (R189). -/
def Dev.endAccess (d : Dev) (a : Access) : Dev :=
  let d := { d with row := { d.row with accesses := d.row.accesses.filter (·.id != a.id) } }
  let k := a.core
  if !a.live then d
  else
    let queued := a.kind == .vld || a.kind == .vst
    let blocking := a.kind == .sld || a.kind == .atom
    let awaited := !blocking || (d.core k).loadId == a.id
    let d := if blocking && awaited then d.modCore k fun c => { c with loadId := 0 } else d
    let d := match firstFail a.fails with
      | some r => if awaited then d.trapWith k (rowTrap r) (if queued then 2 else 0) a.pc r a.addr 0 else d
      | none =>
        if a.kind = .vld then
          (if (d.core k).vq.any (·.uid == a.uid) then
            d.modCore k fun c => c.loadV (wget a.word 47 43) a.bytes a.poisoned else d)
        else if blocking && awaited then
          (if (List.range a.len).any a.poisoned then d.trap k trapPoison 0 a.pc a.addr
           else
             let v := if a.kind = .sld then loadValue a.word a.bytes else BitVec.ofNat 64 (ofLe a.bytes)
             (d.modCore k fun c => c.setS (regField a.word 47) v).advance k)
        else d
    if queued then d.finishEntry k 2 a.uid else d

/-- Whether a request, or an atomic, of an access is still unanswered. -/
def Dev.accessBusy (d : Dev) (id : Nat) : Bool :=
  d.row.reqs.any (·.owner == .access id) || d.row.atoms.any (·.reply == .access id)

/-- An access receives one answer for its bytes from place off. -/
def Dev.accessAnswer (d : Dev) (id off : Nat) (x : Reply) : Dev :=
  let d := d.modAccess id fun a => match x with
    | .data l m => { a with got := a.got ++ [(off, l, m)] }
    | .ack => a
    | .old v p => { a with got := a.got ++ [(off, leBytes a.len v, b2n p)] }
    | .fail r => { a with fails := a.fails ++ [(off, r)] }
  match d.findAccess id with
  | some a => if d.accessBusy id then d else d.endAccess a
  | none => d

/-! ### Copies -/

def Dev.findCopy (d : Dev) (id : Nat) : Option Copy := d.row.copies.find? (·.id == id)

def Dev.modCopy (d : Dev) (id : Nat) (f : Copy → Copy) : Dev :=
  { d with row := { d.row with copies := d.row.copies.map fun c => if c.id == id then f c else c } }

/-- A part of a copy fails at an address. -/
def Dev.failCopy (d : Dev) (id addr reason : Nat) : Dev := d.modCopy id fun c => { c with fails := c.fails ++ [(addr, reason)] }

/-- The runs of bytes of a copy: place, source address, destination address, length. -/
def CopyKind.segs : CopyKind → List (Nat × Nat × Nat × Nat)
  | .dcopy dst src len => [(0, src, dst, len)]
  | .ddesc dst src rb rows ds ss => (List.range rows).map fun j =>
      (j * rb, wrap 64 ((src : Int) + (j : Int) * ss), wrap 64 ((dst : Int) + (j : Int) * ds), rb)
  | _ => []

/-- Source and destination address of a place of a copy. -/
def CopyKind.at (k : CopyKind) (off : Nat) : Nat × Nat :=
  match k with
  | .ddesc dst src rb _ ds ss =>
    let j := off / rb
    (wrap 64 ((src : Int) + (j : Int) * ss) + off % rb, wrap 64 ((dst : Int) + (j : Int) * ds) + off % rb)
  | .dcopy dst src _ => (src + off, dst + off)
  | _ => (0, 0)

/-- Whether a request, message or narrow access of a copy is still open. -/
def Dev.copyBusy (d : Dev) (id : Nat) : Bool :=
  d.row.reqs.any (fun r => r.owner == .copyRead id || r.owner == .copyWrite id) || d.row.msgs.any (·.copy == id) ||
    d.row.narrow.any (·.user == .gather id)

/-- A row address as one number. -/
def rowKey (member a : Nat) : Nat := member * 2 ^ 48 + a

/-- A byte of a copy that has come from a row, and whether it is poisoned; none when it has not come. -/
def Copy.bufByte (c : Copy) (i : Nat) : Option (Byte × Bool) :=
  c.buf.findSome? fun g => if g.1 ≤ i ∧ i < g.1 + g.2.1.length then
    some (g.2.1.getD (i - g.1) 0, bitAt g.2.2 ((i - g.1) / 16)) else none

/-- The bytes that have come from a row, and their poison by payload word; none while some have not. -/
def Copy.bufBytes (c : Copy) (off n : Nat) : Option (List Byte × Nat) :=
  match (List.range n).mapM fun i => c.bufByte (off + i) with
  | some l => some (l.map (·.1), packN 1 ((n + 15) / 16) fun w => b2n (((l.drop (16 * w)).take 16).any (·.2)))
  | none => none

/-- Whether the index list of a gather is known: it is local, or all of it has come. -/
def Copy.indexed (c : Copy) : Bool :=
  match c.kind with
  | .dgather _ _ _ _ count index => (match coreAddr index with | .loc _ => true | _ => (c.bufBytes 0 (4 * count)).isSome)
  | _ => true

/-- Data of a copy has been read from a row: write it locally, at once or once an initialisation there has ended, or keep it for the
writes that wait for it; an index list is kept too. -/
def Dev.copyData (d : Dev) (c : Copy) (off : Nat) (l : List Byte) (mask : Nat) : Dev :=
  let keep := d.modCopy c.id fun x => { x with buf := x.buf ++ [(off, l, mask)] }
  let dst := (c.kind.at off).2
  match c.kind, coreAddr dst with
  | .dgather .., _ => keep
  | _, .loc a =>
    if !d.present a l.length then d.failCopy c.id a CFG_RANGE
    else if d.held a l.length then d.modCopy c.id fun x => { x with late := x.late ++ [(off, l, mask)] }
    else d.writeMasked a l mask
  | _, .row _ _ => keep
  | _, .bad => d.failCopy c.id dst CFG_RANGE

/-- Writes of a copy whose bytes will not come are never sent; without an index a gather has none. -/
def Dev.dropStarved (d : Dev) (id lo n : Nat) : Dev :=
  let all := match d.findCopy id with | some c => (match c.kind with | .dgather .. => true | _ => false) | none => false
  { d with row := { d.row with reqs := d.row.reqs.filter fun r =>
      r.sent || r.owner != .copyWrite id || (!all && (decide (r.off + r.len ≤ lo) || decide (lo + n ≤ r.off))) } }

/-! ### Program order of copies (R160) -/

/-- The local ranges that a copy reads and writes, in that order. -/
def CopyKind.touches : CopyKind → List (Nat × Nat) × List (Nat × Nat)
  | .dgather dst _ _ rb count index => (locals [(index, 4 * count)], locals [(dst, count * rb)])
  | .msend _ _ src len => ([(src, len)], [])
  | k => (locals (k.segs.map fun g => (g.2.1, g.2.2.2)), locals (k.segs.map fun g => (g.2.2.1, g.2.2.2)))
where
  /-- Those of some ranges that are local. -/
  locals (l : List (Nat × Nat)) : List (Nat × Nat) :=
    l.filterMap fun r => match coreAddr r.1 with | .loc x => some (x, r.2) | _ => none

/-- Whether some range of one list overlaps one of another. -/
def overlap (a b : List (Nat × Nat)) : Bool :=
  a.any fun x => b.any fun y => decide (x.1 < y.1 + y.2) && decide (y.1 < x.1 + x.2)

/-- An earlier copy of the same DMA queue touches what this one touches, and one of the two writes it: program order (R160). -/
def Dev.copyBehind (d : Dev) (c : Copy) : Bool :=
  (d.row.copies.takeWhile (·.id != c.id)).any fun x => x.core == c.core && x.live && c.live &&
    (overlap x.kind.touches.2 (c.kind.touches.1 ++ c.kind.touches.2) || overlap x.kind.touches.1 c.kind.touches.2)

/-- Whether an unfinished copy of core k writes bytes that its next DMA instruction reads at its start (R160). -/
def Dev.copiesWrite (d : Dev) (k a n : Nat) : Bool :=
  d.row.copies.any fun x => x.core == k && x.live && overlap x.kind.touches.2 [(a, n)]

/-! ### Gathers and the narrow path (R178, R203, R204) -/

/-- Queue n narrow accesses of a user to HBM (R203); an atomic elsewhere needs none. -/
def Dev.addNarrow (d : Dev) (stack cost n : Nat) (u : NarrowUser) : Dev :=
  if n = 0 then d else { d with row := { d.row with narrow := d.row.narrow ++ [⟨stack, cost, u, false, n⟩] } }

/-- Queue the narrow accesses of a user to a range: one for each 32-byte granule in HBM, on its stack (R203, R204). -/
def Dev.narrowRange (d : Dev) (u : NarrowUser) (a n : Nat) : Dev :=
  let named := ((List.range ((a + n + 31) / 32 - a / 32)).filterMap fun g => (d.hbmPlace (a / 32 * 32 + 32 * g)).map (·.1))
  (List.range 16).foldl (fun d s => d.addNarrow s 4 (named.count s) u) d

/-- Whether narrow accesses of a user still wait. -/
def Dev.narrowBusy (d : Dev) (u : NarrowUser) : Bool := d.row.narrow.any (·.user == u)

/-- The index of row j of a gather; none when it reads as poisoned. -/
def Dev.gatherIndex (d : Dev) (c : Copy) (index j : Nat) : Option Nat :=
  match coreAddr index with
  | .loc x => if (wordsOf (x + 4 * j) 4).any d.poisonAt then none else some (ofLe (d.bytesAt (x + 4 * j) 4))
  | _ =>
    let l := (List.range 4).map fun i => (c.bufByte (4 * j + i)).getD (0, true)
    if l.any (·.2) then none else some (ofLe (l.map (·.1)))

/-- What row j of a gather is: its address when it lies wholly in local HBM and its index is sound, otherwise a reason (R178). -/
def Dev.gatherRow (d : Dev) (c : Copy) (table pitch rb index j : Nat) : Except Nat Nat :=
  match d.gatherIndex c index j with
  | none => .error UNCORRECTABLE
  | some i => if table + i * pitch + rb ≤ hbmTop ∧ d.present (table + i * pitch) rb then .ok (table + i * pitch) else .error OUT_OF_REGION

/-- The rows of a gather that can be read. -/
def Dev.gatherRows (d : Dev) (c : Copy) : List Nat :=
  match c.kind with
  | .dgather _ table pitch rb count index =>
    (List.range count).filterMap fun j => match d.gatherRow c table pitch rb index j with | .ok a => some a | .error _ => none
  | _ => []

/-- A gather whose indices are known fetches its rows through the narrow path (R203, R204). -/
def Dev.gatherFetch (d : Dev) (c : Copy) (rb : Nat) : Dev :=
  (d.gatherRows c).foldl (fun d a => d.narrowRange (.gather c.id) a rb) d

/-- A gather whose index list lay in a row and is in: its rows are fetched, or one that is misaligned traps (R162). -/
def Dev.gatherGo (d : Dev) (id : Nat) : Dev :=
  match d.findCopy id with
  | some c => match c.kind with
    | .dgather _ _ _ rb _ index =>
      if (match coreAddr index with | .row _ _ => c.fails.isEmpty && c.indexed | _ => false) then
        match (d.gatherRows c).find? fun a => a % 32 != 0 with
        | some a =>
          let d := { d with row := { d.row with copies := d.row.copies.filter (·.id != id)
                                                reqs := d.row.reqs.filter (·.copy != some id) } }
          if c.live then (d.trap c.core trapAlign 3 c.pc a).finishEntry c.core 3 c.uid else d
        | none => d.gatherFetch c rb
      else d
    | _ => d
  | none => d

/-- A request of this device is answered, once. -/
def Dev.answer (d : Dev) (r : RowReq) (x : Reply) : Dev :=
  let d := d.dropReq r.id
  match r.owner with
  | .access id => d.accessAnswer id r.off x
  | .copyRead id => match d.findCopy id, x with
    | some c, .data l m => (d.copyData c r.off l m).gatherGo id
    | some _, .fail e => (d.dropStarved id r.off r.len).failCopy id (rowKey r.member r.addr) e
    | _, _ => d
  | .copyWrite id => match x with
    | .fail e => d.failCopy id (rowKey r.member r.addr) e
    | _ => d

/-! ### The target's side -/

/-- R310 for a request that names an entry: read 0, write 1, atomic 2. -/
def Dev.regionCheck (d : Dev) (type x region key a n : Nat) : Option Nat :=
  if !(d.flag (HF_REGION_BASE_valid region) && d.fld (HF_REGION_KEY_key region) == key &&
      bitAt (d.fld (HF_REGION_KEY_src_mask region)) x) then some KEY_MISMATCH
  else if !((type == 0 && d.flag (HF_REGION_BASE_read region)) || (type == 1 && d.flag (HF_REGION_BASE_write region)) ||
      (type == 2 && d.flag (HF_REGION_BASE_atomic region))) then some OUT_OF_REGION
  else if !(decide (d.fld (HF_REGION_BASE_base region) * 4096 ≤ a) &&
      decide (a + n ≤ (d.fld (HF_REGION_LIMIT_limit region) + 1) * 4096)) then some OUT_OF_REGION
  else if !d.present a n then some OUT_OF_REGION
  else none

/-- Record a refusal (R312, Table 9-14). -/
def Dev.recordRefusal (d : Dev) (reason type region src : Nat) : Dev :=
  let d := d.setReg HF_ROW_REFUSED (BitVec.ofNat 64 (src % 2 ^ 20 + region % 2 ^ 12 * 2 ^ 32 + type * 2 ^ 44 + reason * 2 ^ 48))
  let d := (d.setReg HF_ROW_REFUSED_FRAME (d.reg GD_FRAME)).countSat HF_ROW_CNT_refused 1
  d.raise 0x09 0 0 reason

/-- The old value and its poison. -/
def Dev.atomRead (d : Dev) (a n : Nat) : Nat × Bool := (ofLe (d.bytesAt a n), d.poisonAt a)

/-- An earlier atomic on the same granule is still to come (R322). -/
def Dev.atomBehind (d : Dev) (j : AtomJob) : Bool :=
  (d.row.atoms.takeWhile (·.id != j.id)).any fun x => x.addr / 32 == j.addr / 32

/-- An atomic that is granted and behind no other on its granule reads its word (R322, R323). -/
def Dev.atomStart (d : Dev) (id : Nat) : Dev :=
  match d.row.atoms.find? (·.id == id) with
  | none => d
  | some j =>
    let n := atomSize j.kind
    if j.granted && !d.atomBehind j && !d.held j.addr n && d.present j.addr n then
      let d := d.readWord j.addr
      { d with row := { d.row with atoms := d.row.atoms.map fun x =>
          if x.id == id then { x with old := some (d.atomRead j.addr n) } else x } }
    else d

/-- An atomic reaches the atomic unit (R321, R322). -/
def Dev.addAtom (d : Dev) (a kind sb sc : Nat) (reply : AtomReply) (region : Nat := 0) : Dev :=
  let id := d.nextId
  let d := d.bump
  match d.place a with
  | some ⟨.hbm s, _⟩ =>
    let d := d.addNarrow s 8 1 (.atomic id)
    { d with row := { d.row with atoms := d.row.atoms ++ [⟨id, a, kind, sb, sc, reply, false, region, none⟩] } }
  | _ => Dev.atomStart { d with row := { d.row with atoms := d.row.atoms ++ [⟨id, a, kind, sb, sc, reply, true, region, none⟩] } } id

end Sys2Proof.Machine
end

