-- ==== Sys2Proof/Machine/Vector.lean ====
section
/-!
DEFINITION. Sys2Proof/Machine/Vector.lean: the vector instructions, register and immediate forms (R135 to R142, R171,
R172, Tables 5-9 and 4-7).  Each is one step: the entry at the head of the vector queue starts, writes its result and
has done its work; nothing changes where the head is another instruction or may not start yet.
-/

namespace Sys2Proof.Machine

/-! ### Starting an entry of the vector queue -/

/-- How many of va, vb and vc a register-form operation reads (Table 5-9). -/
def vopSources (vop : Nat) : Nat :=
  if vop = 0x03 then 3 else if 0x30 ≤ vop then 0
  else if vop = 0x06 ∨ vop = 0x07 ∨ (0x10 ≤ vop ∧ vop < 0x20) then 1 else 2

/-- Whether a register-form operation writes a mask register. -/
def vopToMask (vop : Nat) : Bool :=
  (decide (0x08 ≤ vop) && decide (vop ≤ 0x0B)) || (decide (0x2B ≤ vop) && decide (vop ≤ 0x2D)) || decide (0x30 ≤ vop)

/-- Vector registers that a word of the vector queue reads. -/
def vecSources (w : Word64) : List Nat :=
  match grp w with
  | 3 => [wget w 36 32, wget w 31 27, wget w 26 22].take (vopSources (wget w 47 42))
  | 4 => [wget w 42 38]
  | 5 => if opc w = 1 then [wget w 47 43] else []
  | _ => if opc w = 0xF then [] else [wget w 42 38]

/-- The vector register that it writes. -/
def vecDest (w : Word64) : Option Nat :=
  match grp w with
  | 3 => if vopToMask (wget w 47 42) then none else some (wget w 41 37)
  | 4 => some (wget w 47 43)
  | 5 => if opc w = 0 then some (wget w 47 43) else none
  | _ => if 6 ≤ opc w ∧ opc w ≤ 8 then none else some (wget w 47 43)

/-- The mask register that selects its lanes; a load or store selects none. -/
def vecMask (w : Word64) : Nat :=
  match grp w with
  | 3 => wget w 21 19
  | 5 => 0
  | _ => wget w 37 35

/-- Mask registers that it reads; one that it writes in part is read too. -/
def maskSources (w : Word64) : List Nat :=
  let vop := wget w 47 42
  vecMask w :: (
    if grp w = 3 ∧ 0x30 ≤ vop then
      [wget w 36 32 % 8] ++ (if vop = 0x33 then [] else [wget w 31 27 % 8]) ++ (if vecMask w = 0 then [] else [wget w 41 37 % 8])
    else if vecMask w = 0 then []
    else if grp w = 3 ∧ vopToMask vop then [wget w 41 37 % 8]
    else if grp w = 12 ∧ 6 ≤ opc w ∧ opc w ≤ 8 then [wget w 47 43 % 8] else [])

/-- The register words that an instruction reads: of its sources, of its masks, and of its destination those that it writes in part. -/
def Core.vecReads (c : Core) (w : Word64) (n : Nat) : Bool :=
  if n < maskWord 0 then
    (vecSources w).contains (n / 64) ||
    (vecDest w == some (n / 64) && (let x := digit 4 (c.mask (vecMask w)).toNat (n % 64); x != 0 && x != 15))
  else decide (n < accWord 0 0) && (maskSources w).contains ((n - maskWord 0) / 2)

/-- Whether a mask register that an instruction reads holds a poisoned word. -/
def Core.maskBad (c : Core) (w : Word64) : Bool :=
  (maskSources w).any fun j => j != 0 && (c.wordDiff (maskWord j) == poisonMark || c.wordDiff (maskWord j + 1) == poisonMark)

/-- Whether a register that an entry reads or writes is still to be written by a VLD whose data has not returned (R138). -/
def Core.loadPending (c : Core) (w : Word64) : Bool :=
  c.vq.any fun e => e.started && !e.finished && grp e.word == 5 && opc e.word == 0 &&
    ((vecSources w).contains (wget e.word 47 43) || vecDest w == vecDest e.word)

/-- The entry that the vector queue of core k may start now. -/
def Dev.vecHead (d : Dev) (k : Nat) : Option QEntry :=
  if k < 960 then
    match (d.core k).headOf 2 with
    | some e => if d.semReady k 2 e && !(d.core k).loadPending e.word then some e else none
    | none => none
  else none

/-- The device once an instruction has read its registers. -/
def Dev.vecRead (d : Dev) (k : Nat) (e : QEntry) : Dev := d.readRegs k ((d.core k).vecReads e.word)

/-- What a vector instruction does: the lanes it reads of each register, and what it writes. -/
structure VecPlan where
  reads : List (Nat × BitVec 256)
  write : Core → Core

/-- Whether a lane that the plan reads is poisoned. -/
def VecPlan.poisoned (p : VecPlan) (c : Core) : Bool := p.reads.any fun r => (c.vpois r.1 &&& r.2) != 0

/-- Start an entry and carry out its plan; a poisoned lane or mask read takes the trap before any write (R149). -/
def Dev.vecRun (d : Dev) (k : Nat) (e : QEntry) (p : VecPlan) : Dev :=
  let d := d.startEntry k 2 e
  if p.poisoned (d.core k) || (d.core k).maskBad e.word then (d.trap k trapPoison 2 e.pc 0).finishEntry k 2 e.uid
  else (d.modCore k p.write).finishEntry k 2 e.uid

/-- Selected lanes of a register, the others unchanged and the written ones clean (R136). -/
def Core.writeLanes (c : Core) (vd : Nat) (sel : BitVec 256) (f : Nat → Word32) : Core :=
  c.putLanes vd sel f 0

/-- Selected bits of a mask register (R136). -/
def Core.writeMask (c : Core) (j : Nat) (sel : BitVec 256) (f : Nat → Bool) : Core :=
  c.setM j ((c.mask j &&& ~~~sel) ||| (sel &&& ofBits f))

/-! ### Register form -/

def vVd (w : Word64) : Nat := wget w 41 37
def vVa (w : Word64) : Nat := wget w 36 32
def vVb (w : Word64) : Nat := wget w 31 27
def vVc (w : Word64) : Nat := wget w 26 22
def vMask (w : Word64) : Nat := wget w 21 19
def vOvf (w : Word64) : Bool := wbit w 18

/-- The head of the vector queue is the register form with this vop. -/
def Dev.vecReg (d : Dev) (k vop : Nat) (plan : Dev → Core → Word64 → VecPlan) : Dev :=
  match d.vecHead k with
  | some e =>
    let r := d.vecRead k e
    if grp e.word = 3 ∧ wget e.word 47 42 = vop then r.vecRun k e (plan r (r.core k) e.word) else d
  | none => d

/-- Lanewise operation on one source. -/
def lane1 (f : Bool → Word32 → Word32) (_ : Dev) (c : Core) (w : Word64) : VecPlan :=
  let m := c.mask (vMask w); let a := c.vreg (vVa w)
  ⟨[(vVa w, m)], fun c => c.writeLanes (vVd w) m fun l => f (vOvf w) (lane a l)⟩

/-- Lanewise operation on two sources. -/
def lane2 (f : Bool → Word32 → Word32 → Word32) (_ : Dev) (c : Core) (w : Word64) : VecPlan :=
  let m := c.mask (vMask w); let a := c.vreg (vVa w); let b := c.vreg (vVb w)
  ⟨[(vVa w, m), (vVb w, m)], fun c => c.writeLanes (vVd w) m fun l => f (vOvf w) (lane a l) (lane b l)⟩

/-- Lanewise compare into a mask register. -/
def laneCmp (f : Word32 → Word32 → Bool) (_ : Dev) (c : Core) (w : Word64) : VecPlan :=
  let m := c.mask (vMask w); let a := c.vreg (vVa w); let b := c.vreg (vVb w)
  ⟨[(vVa w, m), (vVb w, m)], fun c => c.writeMask (vVd w % 8) m fun l => f (lane a l) (lane b l)⟩

/-! #### FP32 -/

def fpAdd (ovf : Bool) (a b : Word32) : Word32 := fpWrite ovf (addNum (fpRead a) (fpRead b))
def fpSub (ovf : Bool) (a b : Word32) : Word32 := fpWrite ovf (addNum (fpRead a) (negNum (fpRead b)))
def fpMul (ovf : Bool) (a b : Word32) : Word32 := fpWrite ovf (mulNum (fpRead a) (fpRead b))
def fpFma (ovf : Bool) (a b c : Word32) : Word32 := fpWrite ovf (addNum (mulNum (fpRead a) (fpRead b)) (fpRead c))
def fpMin (_ : Bool) (a b : Word32) : Word32 := fpWrite true (minNum (fpRead a) (fpRead b))
def fpMax (_ : Bool) (a b : Word32) : Word32 := fpWrite true (maxNum (fpRead a) (fpRead b))
def fpAbs (_ : Bool) (a : Word32) : Word32 := fpWrite true (absNum (fpRead a))
def fpNeg (_ : Bool) (a : Word32) : Word32 := fpWrite true (negNum (fpRead a))
def fpEq (a b : Word32) : Bool := cmpEq (fpRead a) (fpRead b)
def fpLt (a b : Word32) : Bool := cmpLt (fpRead a) (fpRead b)
def fpLe (a b : Word32) : Bool := cmpLe (fpRead a) (fpRead b)

/-- ffma: va * vb + vc with one rounding. -/
def planFma (_ : Dev) (c : Core) (w : Word64) : VecPlan :=
  let m := c.mask (vMask w); let a := c.vreg (vVa w); let b := c.vreg (vVb w); let x := c.vreg (vVc w)
  ⟨[(vVa w, m), (vVb w, m), (vVc w, m)],
    fun c => c.writeLanes (vVd w) m fun l => fpFma (vOvf w) (lane a l) (lane b l) (lane x l)⟩

/-- select: lane i ← va when bit i of the mask is set, otherwise vb; all lanes written. -/
def planSelect (_ : Dev) (c : Core) (w : Word64) : VecPlan :=
  let m := c.mask (vMask w); let a := c.vreg (vVa w); let b := c.vreg (vVb w)
  ⟨[(vVa w, m), (vVb w, ~~~m)],
    fun c => c.writeLanes (vVd w) (BitVec.allOnes 256) fun l => if mbit m l then lane a l else lane b l⟩

/-- A special operation: within its bound of R140 the result of each lane is a free choice. -/
def planSpecial (f : Nat → Num → Num) (d : Dev) (c : Core) (w : Word64) : VecPlan :=
  let m := c.mask (vMask w); let a := c.vreg (vVa w)
  ⟨[(vVa w, m)], fun c => c.writeLanes (vVd w) m fun l => fpWrite (vOvf w) (f (d.freeAt l).toNat (fpRead (lane a l)))⟩

/-- One special instruction: it draws one free value a lane. -/
def Dev.vecSpecial (d : Dev) (k vop : Nat) (f : Nat → Num → Num) : Dev :=
  match d.vecHead k with
  | some e =>
    let r := d.vecRead k e
    if grp e.word = 3 ∧ wget e.word 47 42 = vop then (r.vecRun k e (planSpecial f r (r.core k) e.word)).draw 256 else d
  | none => d

/-- The eight stages of a reduction over 2^n partial results (R141). -/
def reduceTree (f : Word32 → Word32 → Word32) : Nat → (Nat → Word32) → Word32
  | 0, x => x 0
  | n + 1, x => f (reduceTree f n x) (reduceTree f n fun i => x (i + 2 ^ n))

/-- A cross-lane reduction; a lane whose mask bit is clear contributes unit. -/
def planReduce (unit : Word32) (f : Bool → Word32 → Word32 → Word32) (_ : Dev) (c : Core) (w : Word64) : VecPlan :=
  let m := c.mask (vMask w); let a := c.vreg (vVa w)
  let r := reduceTree (f (vOvf w)) 8 fun l => if mbit m l then lane a l else unit
  ⟨[(vVa w, m)], fun c => c.writeLanes (vVd w) m fun _ => r⟩

/-- rotate: lane i ← lane (i + n) mod 256, n at [31:24] (R142). -/
def planRotate (_ : Dev) (c : Core) (w : Word64) : VecPlan :=
  let m := c.mask (vMask w); let a := c.vreg (vVa w); let n := wget w 31 24
  ⟨[(vVa w, ofBits fun l => mbit m ((l + 256 - n) % 256))],
    fun c => c.writeLanes (vVd w) m fun l => lane a ((l + n) % 256)⟩

/-! #### INT32 (R139) -/

/-- An exact integer narrowed to INT32 under ovf. -/
def int32 (ovf : Bool) (i : Int) : Word32 := BitVec.ofNat 32 (narrowInt 32 ovf i)

def iAdd (ovf : Bool) (a b : Word32) : Word32 := int32 ovf (a.toInt + b.toInt)
def iSub (ovf : Bool) (a b : Word32) : Word32 := int32 ovf (a.toInt - b.toInt)
def iMul (ovf : Bool) (a b : Word32) : Word32 := int32 ovf (a.toInt * b.toInt)
def iAnd (_ : Bool) (a b : Word32) : Word32 := a &&& b
def iOr (_ : Bool) (a b : Word32) : Word32 := a ||| b
def iXor (_ : Bool) (a b : Word32) : Word32 := a ^^^ b
def iShl (_ : Bool) (a b : Word32) : Word32 := a <<< (b.toNat % 32)
def iShr (_ : Bool) (a b : Word32) : Word32 := a >>> (b.toNat % 32)
def iSra (_ : Bool) (a b : Word32) : Word32 := a.sshiftRight (b.toNat % 32)
def iMin (_ : Bool) (a b : Word32) : Word32 := if a.slt b then a else b
def iMax (_ : Bool) (a b : Word32) : Word32 := if a.slt b then b else a

/-! #### Mask registers -/

/-- A mask operation: every bit of the destination is written that the named mask selects. -/
def planMask (f : Bool → Bool → Bool) (_ : Dev) (c : Core) (w : Word64) : VecPlan :=
  let a := c.mask (vVa w % 8); let b := c.mask (vVb w % 8)
  ⟨[], fun c => c.writeMask (vVd w % 8) (c.mask (vMask w)) fun l => f (mbit a l) (mbit b l)⟩

/-! #### The instructions -/

def execFadd (k : Nat) (s : State) := s.act fun d => d.vecReg k 0x00 (lane2 fpAdd)
def execFsub (k : Nat) (s : State) := s.act fun d => d.vecReg k 0x01 (lane2 fpSub)
def execFmul (k : Nat) (s : State) := s.act fun d => d.vecReg k 0x02 (lane2 fpMul)
def execFfma (k : Nat) (s : State) := s.act fun d => d.vecReg k 0x03 planFma
def execFmin (k : Nat) (s : State) := s.act fun d => d.vecReg k 0x04 (lane2 fpMin)
def execFmax (k : Nat) (s : State) := s.act fun d => d.vecReg k 0x05 (lane2 fpMax)
def execFabs (k : Nat) (s : State) := s.act fun d => d.vecReg k 0x06 (lane1 fpAbs)
def execFneg (k : Nat) (s : State) := s.act fun d => d.vecReg k 0x07 (lane1 fpNeg)
def execFcmpeq (k : Nat) (s : State) := s.act fun d => d.vecReg k 0x08 (laneCmp fpEq)
def execFcmpne (k : Nat) (s : State) := s.act fun d => d.vecReg k 0x09 (laneCmp fun a b => !fpEq a b)
def execFcmplt (k : Nat) (s : State) := s.act fun d => d.vecReg k 0x0A (laneCmp fpLt)
def execFcmple (k : Nat) (s : State) := s.act fun d => d.vecReg k 0x0B (laneCmp fpLe)
def execSelect (k : Nat) (s : State) := s.act fun d => d.vecReg k 0x0C planSelect
def execFrecip (k : Nat) (s : State) := s.act fun d => d.vecSpecial k 0x10 recipNum
def execFrsqrt (k : Nat) (s : State) := s.act fun d => d.vecSpecial k 0x11 rsqrtNum
def execFsqrt (k : Nat) (s : State) := s.act fun d => d.vecSpecial k 0x12 sqrtNum
def execFexp2 (k : Nat) (s : State) := s.act fun d => d.vecSpecial k 0x13 exp2Num
def execFlog2 (k : Nat) (s : State) := s.act fun d => d.vecSpecial k 0x14 log2Num
/-- A masked-off lane contributes -0. -/
def execFredadd (k : Nat) (s : State) := s.act fun d => d.vecReg k 0x18 (planReduce 0x80000000 fpAdd)
/-- A masked-off lane contributes NaN. -/
def execFredmax (k : Nat) (s : State) := s.act fun d => d.vecReg k 0x19 (planReduce 0x7FC00000 fpMax)
def execFredmin (k : Nat) (s : State) := s.act fun d => d.vecReg k 0x1A (planReduce 0x7FC00000 fpMin)
def execRotate (k : Nat) (s : State) := s.act fun d => d.vecReg k 0x1B planRotate
def execIadd (k : Nat) (s : State) := s.act fun d => d.vecReg k 0x20 (lane2 iAdd)
def execIsub (k : Nat) (s : State) := s.act fun d => d.vecReg k 0x21 (lane2 iSub)
def execImul (k : Nat) (s : State) := s.act fun d => d.vecReg k 0x22 (lane2 iMul)
def execVAnd (k : Nat) (s : State) := s.act fun d => d.vecReg k 0x23 (lane2 iAnd)
def execVOr (k : Nat) (s : State) := s.act fun d => d.vecReg k 0x24 (lane2 iOr)
def execVXor (k : Nat) (s : State) := s.act fun d => d.vecReg k 0x25 (lane2 iXor)
def execVShl (k : Nat) (s : State) := s.act fun d => d.vecReg k 0x26 (lane2 iShl)
def execVShr (k : Nat) (s : State) := s.act fun d => d.vecReg k 0x27 (lane2 iShr)
def execVSra (k : Nat) (s : State) := s.act fun d => d.vecReg k 0x28 (lane2 iSra)
def execImin (k : Nat) (s : State) := s.act fun d => d.vecReg k 0x29 (lane2 iMin)
def execImax (k : Nat) (s : State) := s.act fun d => d.vecReg k 0x2A (lane2 iMax)
def execIcmpeq (k : Nat) (s : State) := s.act fun d => d.vecReg k 0x2B (laneCmp fun a b => a == b)
def execIcmplt (k : Nat) (s : State) := s.act fun d => d.vecReg k 0x2C (laneCmp fun a b => a.slt b)
def execIcmpltu (k : Nat) (s : State) := s.act fun d => d.vecReg k 0x2D (laneCmp fun a b => a.ult b)
def execMand (k : Nat) (s : State) := s.act fun d => d.vecReg k 0x30 (planMask fun a b => a && b)
def execMor (k : Nat) (s : State) := s.act fun d => d.vecReg k 0x31 (planMask fun a b => a || b)
def execMxor (k : Nat) (s : State) := s.act fun d => d.vecReg k 0x32 (planMask fun a b => a != b)
def execMnot (k : Nat) (s : State) := s.act fun d => d.vecReg k 0x33 (planMask fun a _ => !a)

/-! ### Immediate form (R137, R172) -/

def iVd (w : Word64) : Nat := wget w 47 43
def iVa (w : Word64) : Nat := wget w 42 38
def iMaskNo (w : Word64) : Nat := wget w 37 35
def iOvf (w : Word64) : Bool := wbit w 34
/-- type 0b01 is INT32. -/
def iInt (w : Word64) : Bool := wget w 33 32 == 1
def iImm (w : Word64) : Word32 := BitVec.ofNat 32 (wget w 31 0)

/-- The head of the vector queue is the immediate form with this op. -/
def Dev.vecImm (d : Dev) (k op : Nat) (plan : Core → Word64 → VecPlan) : Dev :=
  match d.vecHead k with
  | some e =>
    let r := d.vecRead k e
    if grp e.word = 12 ∧ opc e.word = op then r.vecRun k e (plan (r.core k) e.word) else d
  | none => d

/-- Lanewise operation of a source and the immediate, by type. -/
def imm2 (ff fi : Bool → Word32 → Word32 → Word32) (c : Core) (w : Word64) : VecPlan :=
  let m := c.mask (iMaskNo w); let a := c.vreg (iVa w)
  ⟨[(iVa w, m)], fun c => c.writeLanes (iVd w) m fun l =>
    (if iInt w then fi else ff) (iOvf w) (lane a l) (iImm w)⟩

/-- Lanewise compare of a source and the immediate, by type. -/
def immCmp (ff fi : Word32 → Word32 → Bool) (c : Core) (w : Word64) : VecPlan :=
  let m := c.mask (iMaskNo w); let a := c.vreg (iVa w)
  ⟨[(iVa w, m)], fun c => c.writeMask (iVd w % 8) m fun l => (if iInt w then fi else ff) (lane a l) (iImm w)⟩

/-- mov: the immediate to every selected lane; an FP32 immediate is read under R86 and R84: a subnormal is a zero, a NaN the canonical
NaN. -/
def immMov (c : Core) (w : Word64) : VecPlan :=
  let m := c.mask (iMaskNo w)
  let x := if iInt w then iImm w else fpWrite true (fpRead (iImm w))
  ⟨[], fun c => c.writeLanes (iVd w) m fun _ => x⟩

def execViAdd (k : Nat) (s : State) := s.act fun d => d.vecImm k 0x0 (imm2 fpAdd iAdd)
def execViSub (k : Nat) (s : State) := s.act fun d => d.vecImm k 0x1 (imm2 fpSub iSub)
def execViRsub (k : Nat) (s : State) := s.act fun d =>
  d.vecImm k 0x2 (imm2 (fun o a b => fpSub o b a) (fun o a b => iSub o b a))
def execViMul (k : Nat) (s : State) := s.act fun d => d.vecImm k 0x3 (imm2 fpMul iMul)
def execViMin (k : Nat) (s : State) := s.act fun d => d.vecImm k 0x4 (imm2 fpMin iMin)
def execViMax (k : Nat) (s : State) := s.act fun d => d.vecImm k 0x5 (imm2 fpMax iMax)
def execViCmpeq (k : Nat) (s : State) := s.act fun d => d.vecImm k 0x6 (immCmp fpEq fun a b => a == b)
def execViCmplt (k : Nat) (s : State) := s.act fun d => d.vecImm k 0x7 (immCmp fpLt fun a b => a.slt b)
def execViCmple (k : Nat) (s : State) := s.act fun d => d.vecImm k 0x8 (immCmp fpLe fun a b => !b.slt a)
def execViAnd (k : Nat) (s : State) := s.act fun d => d.vecImm k 0x9 (imm2 iAnd iAnd)
def execViOr (k : Nat) (s : State) := s.act fun d => d.vecImm k 0xA (imm2 iOr iOr)
def execViXor (k : Nat) (s : State) := s.act fun d => d.vecImm k 0xB (imm2 iXor iXor)
def execViShl (k : Nat) (s : State) := s.act fun d => d.vecImm k 0xC (imm2 iShl iShl)
def execViShr (k : Nat) (s : State) := s.act fun d => d.vecImm k 0xD (imm2 iShr iShr)
def execViSra (k : Nat) (s : State) := s.act fun d => d.vecImm k 0xE (imm2 iSra iSra)
def execViMov (k : Nat) (s : State) := s.act fun d => d.vecImm k 0xF immMov

end Sys2Proof.Machine
end

