-- ==== Sys2Proof/Machine/CoreMem.lean ====
section
/-!
DEFINITION. Sys2Proof/Machine/CoreMem.lean: issue and completion of queued instructions (R155 to R158), vector loads and stores
and atomics (R161, R162, R174 to R176), and the waiting, synchronising and stopping instructions (R180, R181, R183 to
R188).
-/

namespace Sys2Proof.Machine

/-! ### Issue and completion -/

/-- INSTRUCTION_ISSUE: the word at the program counter traps when it reads poisoned or is illegal, and is put in its queue when
it is a queued instruction; a full queue stops the sequencer (R155 to R157, R189). -/
def execInstructionIssue (k : Nat) (s : State) := s.act fun d =>
  if !d.sequencing k then d
  else if d.instrBad k then d.trap k trapPoison 0 (d.pc k) (regSpaceBase + istore k (d.pc k))
  else
    let w := d.instr k
    let q := queueOf w
    if !legal w then d.trap k trapIllegal q (d.pc k) 0
    else if q = 0 then d
    else if queueDepth q ≤ ((d.core k).queue q).length then d.waits k 7
    else
      let d := if q = 2 then d.setReg (SQ_VEC_ISSUE k) (d.reg (SQ_VEC_ISSUE k) + 1) else d
      (d.enqueue k q w).advance k

/-- The number of a queue (Table 5-19). -/
def queueNum : QueueName → Nat
  | .sequencer => 0
  | .matrix => 1
  | .vector => 2
  | .dma => 3

/-- QUEUED_INSTRUCTION_COMPLETE: the entry at a place of a queue has done its work; it leaves and raises its semaphore (R158).
A copy completes by DMA_COPY_END instead. -/
def execQueuedInstructionComplete (k : Nat) (queue : QueueName) (index : Nat) (s : State) := s.act fun d =>
  let q := queueNum queue
  if q = 0 ∨ 960 ≤ k then d
  else match ((d.core k).queue q)[index]? with
    | some e => if (d.core k).entryDone e then d.completeEntry k q e else d
    | none => d

/-! ### Vector loads and stores -/

/-- Length in bytes of a VLD or VST. -/
def vecLen (w : Word64) : Nat := (wget w 37 33 + 1) * 32
/-- Address of a VLD or VST. -/
def vecAddr (e : QEntry) : Nat := addrPlus (e.val 0) 24 (wget e.word 23 0)

/-- A started entry traps and has done its work. -/
def Dev.trapEntry (d : Dev) (k q : Nat) (e : QEntry) (code addr : Nat) : Dev :=
  ((d.startEntry k q e).trap k code q e.pc addr).finishEntry k q e.uid

/-- An access of core k under the next name. -/
def Dev.addAccess (d : Dev) (k : Nat) (kind : AccKind) (uid pc : Nat) (w : Word64) (addr len : Nat) : Dev :=
  let a : Access := ⟨d.nextId, k, true, kind, uid, pc, w, addr, len, [], []⟩
  { d.bump with row := { d.row with accesses := d.row.accesses ++ [a] } }

/-- A row access of core k: refused under R306 or R311, or its requests wait to be sent. -/
def Dev.rowAccess (d : Dev) (k : Nat) (kind : AccKind) (uid pc : Nat) (w : Word64) (addr x len : Nat)
    (reqs : List RowReq) : Except Nat Dev :=
  match d.pathGate 0 (d.memberFid x) with
  | some e => .error e
  | none =>
    match reqs.mapM d.coverReq with
    | none => .error OUT_OF_REGION
    | some rs =>
      .ok ((d.addAccess k kind uid pc w addr len).addReqs (rs.map fun r => { r with owner := .access d.nextId }))

/-- A row access of a queued instruction starts. -/
def Dev.queuedRow (d : Dev) (k : Nat) (e : QEntry) (kind : AccKind) (addr x len : Nat) (reqs : List RowReq) : Dev :=
  let d := d.startEntry k 2 e
  match d.rowAccess k kind e.uid e.pc e.word addr x len reqs with
  | .ok d => d
  | .error r => (d.trapWith k trapRefused 2 e.pc r addr 0).finishEntry k 2 e.uid

/-- The head of the vector queue is a VLD (op 0) or VST (op 1) whose address is right. -/
def Dev.vecMem (d : Dev) (k op : Nat) (f : Dev → QEntry → Nat → CoreAddr → Dev) : Dev :=
  match d.vecHead k with
  | none => d
  | some e =>
    if grp e.word = 5 ∧ opc e.word = op then
      let a := vecAddr e
      if a % 32 ≠ 0 then d.trapEntry k 2 e trapAlign a
      else match coreAddr a with
        | .bad => d.trapEntry k 2 e trapAddr a
        | .loc x =>
          if !d.present x (vecLen e.word) then d.trapEntry k 2 e trapAddr a
          else if d.held x (vecLen e.word) then d
          else f d e a (.loc x)
        | .row m x => f d e a (.row m x)
    else d

/-- VLD: bytes 0 to length − 1 of vd (R174, R175). -/
def execVld (k : Nat) (s : State) := s.act fun d => d.vecMem k 0 fun d e a ca =>
  let n := vecLen e.word
  match ca with
  | .loc x =>
    let d := (d.startEntry k 2 e).scrub x n
    let bad (i : Nat) : Bool := d.poisonAt (x + i)
    (d.modCore k fun c => c.loadV (wget e.word 47 43) (d.bytesAt x n) bad).finishEntry k 2 e.uid
  | .row m x => d.queuedRow k e .vld a m n ((readPieces x n).map fun p => mkReq (.access 0) m .read p.2.1 p.2.2 p.1)
  | .bad => d

/-- The poison of the 16-byte words of a vector register. -/
def vecWordBad (p : BitVec 256) (i : Nat) : Bool := digit 4 p.toNat i != 0

/-- VST: bytes 0 to length − 1 of vs; words of poisoned lanes are written poisoned (R175). -/
def execVst (k : Nat) (s : State) := s.act fun d => d.vecMem k 1 fun d e a ca =>
  let n := vecLen e.word
  let d := d.readRegs k fun i => decide (i / 64 = wget e.word 47 43) && decide (i % 64 * 16 < n)
  let c := d.core k
  let data := leBytes n (c.vreg (wget e.word 47 43)).toNat
  let bad := vecWordBad (c.vpois (wget e.word 47 43))
  match ca with
  | .loc x => ((d.startEntry k 2 e).write x data fun w => bad (w - x / 16)).finishEntry k 2 e.uid
  | .row m x => d.queuedRow k e .vst a m n ((writePieces x n).map fun p =>
      { mkReq (.access 0) m .write p.2.1 p.2.2 p.1 with
        data := (data.drop p.1).take p.2.2, mask := packN 1 ((p.2.2 + 15) / 16) fun j => b2n (bad (p.1 / 16 + j)) })
  | .bad => d

/-! ### Atomics -/

/-- The sequencer of core k waits for an access. -/
def Dev.awaitAccess (d : Dev) (k id : Nat) : Dev := (d.waits k 5).modCore k fun c => { c with loadId := id }

/-- ATOM (R176). -/
def execAtom (k : Nat) (s : State) := s.act fun d =>
  if d.issues k 5 4 then
    let w := d.instr k
    let kind := wget w 27 24
    let a := ((d.core k).sreg (regField w 42)).toNat
    let sb := ((d.core k).sreg (regField w 37)).toNat
    let sc := ((d.core k).sreg (regField w 32)).toNat
    let n := atomSize kind
    if a % n ≠ 0 then d.trap k trapAlign 0 (d.pc k) a
    else match coreAddr a with
      | .bad => d.trap k trapAddr 0 (d.pc k) a
      | .loc x =>
        if !d.present x n then d.trap k trapAddr 0 (d.pc k) a
        else
          let id := d.nextId
          ((d.addAccess k .atom 0 (d.pc k) w a n).addAtom x kind sb sc (.access id)).awaitAccess k id
      | .row m x =>
        match d.rowAccess k .atom 0 (d.pc k) w a m n [{ mkReq (.access 0) m (.atomic kind) x n 0 with sb := sb, sc := sc }] with
        | .ok d1 => d1.awaitAccess k d.nextId
        | .error r => d.trapWith k trapRefused 0 (d.pc k) r a 0
  else d

/-! ### Tallies -/

/-- TWAIT: completes when the tally has reached sv (R180). -/
def execTwait (k : Nat) (s : State) := s.act fun d =>
  if d.issues k 7 0 then
    let t := wget (d.instr k) 47 32
    if d.tallyReady t ((d.core k).sreg (regField (d.instr k) 31)) then d.twaitEnd k t else d.waits k 1
  else d

/-- TREAD: sd ← tally value, zero-extended. -/
def execTread (k : Nat) (s : State) := s.act fun d =>
  if d.issues k 7 1 then
    d.scalarResult k 31 (BitVec.ofNat 64 (d.fld (HF_TALLY_count (wget (d.instr k) 47 32))))
  else d

/-- TSET: tally ← sv[31:0]; the error flag clears (R181). -/
def execTset (k : Nat) (s : State) := s.act fun d =>
  if d.issues k 7 2 then
    let t := wget (d.instr k) 47 32
    let v := wget ((d.core k).sreg (regField (d.instr k) 31)) 31 0
    (((d.setFld (HF_TALLY_count t) v).setFld (HF_TALLY_error t) 0).advance k).wakeTally t
  else d

/-- TADD: tally ← tally + increment. -/
def execTadd (k : Nat) (s : State) := s.act fun d =>
  if d.issues k 7 3 then
    (d.countWrap (HF_TALLY_count (wget (d.instr k) 47 32)) (wget (d.instr k) 15 0)).advance k |>.wakeTally (wget (d.instr k) 47 32)
  else d

/-! ### Fences and semaphores -/

/-- A row store or atomic of core k that is issued and not acknowledged: a live access, or a VST that has not started. -/
def Dev.remoteOpen (d : Dev) (k : Nat) : Bool :=
  (d.row.accesses.any fun a => a.core == k && a.live && (a.kind == .sst || a.kind == .vst || a.kind == .atom)) ||
  ((d.core k).vq.any fun e => !e.started && grp e.word == 5 && opc e.word == 1 && bitAt (vecAddr e) 52)

/-- Every selected kind of earlier work has completed (R183). -/
def Dev.fenceReady (d : Dev) (k : Nat) (mq vq dq rem : Bool) : Bool :=
  let c := d.core k
  (!mq || c.mq.isEmpty) && (!vq || c.vq.isEmpty) && (!dq || c.dq.isEmpty) && (!rem || !d.remoteOpen k)

/-- A fence with dq set takes the DMA-error trap when a copy has failed since the last one (R183). -/
def Dev.fenceEnd (d : Dev) (k : Nat) (dq : Bool) (next : Dev → Dev) : Dev :=
  if dq && (d.core k).dmaFailed then
    (d.modCore k fun c => { c with dmaFailed := false }).trapWith k trapDma 0 (d.pc k) (d.core k).dmaReason 0 0
  else next d

/-- FENCE. -/
def execFence (k : Nat) (s : State) := s.act fun d =>
  if d.issues k 8 0 then
    let w := d.instr k
    if d.fenceReady k (wbit w 47) (wbit w 46) (wbit w 45) (wbit w 44) then d.fenceEnd k (wbit w 45) fun d => d.advance k
    else d.waits k 6
  else d

/-- SWAIT: k greater than 0, then lowered by 1; the queues take their units first (R159). -/
def execSwait (k : Nat) (s : State) := s.act fun d =>
  if d.issues k 8 1 then
    let j := wget (d.instr k) 47 45
    if (d.core k).aheadOn 4 j < d.sem k j then (d.setSem k j (d.sem k j - 1)).advance k else d.waits k 4
  else d

/-- SSIG: k is raised by 1; a raise above 255 traps (R159). -/
def execSsig (k : Nat) (s : State) := s.act fun d =>
  if d.issues k 8 2 then
    let d1 := d.raiseSem k (wget (d.instr k) 47 45) 0 (d.pc k)
    if d1.coreState k = 1 then d1.advance k else d1
  else d

/-! ### Barriers -/

/-- The unit a core belongs to at a scope. -/
def scopeUnit (scope k : Nat) : Nat := if scope = 0 then k / 10 else if scope = 1 then k / 80 else 0

/-- Release every core of a barrier. -/
def Dev.release (d : Dev) (cores : List Nat) : Dev := cores.foldl (fun d k => d.advance k) d

/-- BAR (R184). -/
def execBar (k : Nat) (s : State) := s.act fun d =>
  if d.issues k 9 0 && d.fld (SQ_STATUS_wait k) != 2 then
    let w := d.instr k
    let scope := wget w 47 46
    let id := wget w 45 42
    let n := wget w 41 32 + 1
    let isHere (b : Barrier) : Bool := b.scope == scope && b.id == id && b.unit == scopeUnit scope k
    match d.row.barriers.find? isHere with
    | none =>
      if n = 1 then d.advance k
      else Dev.waits { d with row := { d.row with barriers := d.row.barriers ++ [⟨scope, scopeUnit scope k, id, n, [k]⟩] } } k 2
    | some b =>
      if b.count ≠ n then d.trap k trapBarrier 0 (d.pc k) 0
      else if b.cores.length + 1 = n then
        Dev.release { d with row := { d.row with barriers := d.row.barriers.filter (!isHere ·) } } (b.cores ++ [k])
      else
        let bs := d.row.barriers.map fun x => if isHere x then { x with cores := x.cores ++ [k] } else x
        Dev.waits { d with row := { d.row with barriers := bs } } k 2
  else d

/-! ### Grid waits -/

/-- The frame a GWAIT names. -/
def Dev.gwaitFrame (d : Dev) (k : Nat) : Nat := ((d.core k).sreg (regField (d.instr k) 47)).toNat

/-- GWAIT (R185). -/
def execGwait (k : Nat) (s : State) := s.act fun d =>
  if d.issues k 10 0 then
    let f := d.gwaitFrame k
    if f ≤ d.frame ∧ !d.switchDue then d.advance k
    else if d.fld (SQ_STATUS_wait k) ≠ 3 ∧ d.frame + 2 ^ 28 < f then d.trap k trapWait 0 (d.pc k) 0
    else d.waits k 3
  else d

/-- GRID_WAIT_RESUME: a core that waits for a frame resumes once the count has reached it and the boundary's switches are done
(R76, R81). -/
def execGridWaitResume (k : Nat) (s : State) := s.act fun d =>
  if d.issues k 10 0 && d.fld (SQ_STATUS_wait k) == 3 && decide (d.gwaitFrame k ≤ d.frame) && !d.switchDue then d.advance k else d

/-- GREAD: sd ← the die's frame replica. -/
def execGread (k : Nat) (s : State) := s.act fun d =>
  if d.issues k 10 1 then d.scalarResult k 47 (d.reg GD_FRAME) else d

/-- WAIT_LIMIT_EXPIRY: TWAIT, SWAIT or BAR has waited SQ_WAIT_LIMIT frames (R186). -/
def execWaitLimitExpiry (k : Nat) (s : State) := s.act fun d =>
  let w := d.fld (SQ_STATUS_wait k)
  let lim := d.fld (SQ_WAIT_LIMIT_limit k)
  if d.sequencing k && (w == 1 || w == 2 || w == 4) && lim != 0 && decide ((d.core k).waitFrom + lim ≤ d.frame) then
    d.trap k trapWait 0 (d.pc k) 0
  else d

/-! ### Stopping -/

/-- What TRAP and HALT wait for: as FENCE with every flag set (R188). -/
def Dev.stopping (d : Dev) (k op : Nat) (stop : Dev → Dev) : Dev :=
  if d.issues k 11 op then
    if d.fenceReady k true true true true then d.fenceEnd k true stop else d.waits k 6
  else d

/-- TRAP: code 0x0B and its own code; the program counter names the next instruction (R163, R188). -/
def execTrap (k : Nat) (s : State) := s.act fun d => d.stopping k 0 fun d =>
  (d.trapWith k trapSoft 0 (d.pc k) 0 0 (wget (d.instr k) 15 0)).setFld (SQ_STATUS_pc k) (d.afterStop k)

/-- HALT: state 4 (R188). -/
def execHalt (k : Nat) (s : State) := s.act fun d => d.stopping k 1 fun d =>
  (d.leaveRun k 4).setFld (SQ_STATUS_pc k) (d.afterStop k)

end Sys2Proof.Machine
end

