-- ==== Sys2Proof/Machine/Dma.lean ====
section
/-!
DEFINITION. Sys2Proof/Machine/Dma.lean: copies and messages of a core's DMA queue (R177 to R179, R182, R327).
-/

namespace Sys2Proof.Machine

/-! ### Starting a copy -/

/-- The entry of the DMA queue that core k may start, when it is this instruction. -/
def Dev.dmaHead (d : Dev) (k g op : Nat) : Option QEntry :=
  if 960 ≤ k then none
  else match (d.core k).headOf 3 with
    | some e => if d.semReady k 3 e && grp e.word == g && opc e.word == op then some e else none
    | none => none

/-- A copy of an entry, with the failures known at its start. -/
def Dev.addCopy (d : Dev) (k : Nat) (e : QEntry) (kind : CopyKind) (tally : Option Nat) (fails : List (Nat × Nat)) : Dev :=
  let c : Copy := ⟨d.nextId, k, true, e.uid, e.pc, kind, tally, fails, [], []⟩
  { d.bump with row := { d.row with copies := d.row.copies ++ [c] } }

/-- The tally named at [32] and [31:16] of DCOPY and MSEND. -/
def wordTally (w : Word64) : Option Nat := if wbit w 32 then some (wget w 31 16) else none

/-- The local ranges that a copy reads or writes. -/
def CopyKind.local (k : CopyKind) : List (Nat × Nat) := k.touches.1 ++ k.touches.2

/-- The addresses that a copy names. -/
def CopyKind.ends : CopyKind → List Nat
  | .dgather dst _ _ _ _ index => [index, dst]
  | k => k.segs.flatMap fun g => [g.2.1, g.2.2.1]

/-- The first reason of R306 steps 1 and 2, or of R290, that a copy's row addresses meet, with the address. -/
def Dev.copyGate (d : Dev) (k : CopyKind) : Option (Nat × Nat) :=
  k.ends.findSome? fun a => match coreAddr a with
    | .row m x => match d.pathGate 0 (d.memberFid m) with
      | some e => some (rowKey m x, e)
      | none => none
    | _ => none

/-- The reads of a range that lies in a row, place by place from off. -/
def readReqs (id a n off : Nat) : List RowReq := match coreAddr a with
  | .row m x => (readPieces x n).map fun p => mkReq (.copyRead id) m .read p.2.1 p.2.2 (off + p.1)
  | _ => []

/-- The writes of a range that lies in a row. -/
def writeReqs (id a n off : Nat) : List RowReq := match coreAddr a with
  | .row m x => (writePieces x n).map fun p => mkReq (.copyWrite id) m .write p.2.1 p.2.2 (off + p.1)
  | _ => []

/-- The requests of a copy: reads of row sources, then writes of row destinations, each in ascending address order (R308). -/
def CopyKind.reqs (k : CopyKind) (id : Nat) : List RowReq :=
  let up (l : List RowReq) := l.mergeSort fun a b => decide (rowKey a.member a.addr ≤ rowKey b.member b.addr)
  match k with
  | .dgather dst _ _ rb count index => readReqs id index (4 * count) 0 ++ writeReqs id dst (count * rb) 0
  | k => up (k.segs.flatMap fun g => readReqs id g.2.1 g.2.2.2 g.1) ++ up (k.segs.flatMap fun g => writeReqs id g.2.2.1 g.2.2.2 g.1)

/-- A DCOPY or DDESC whose addresses and lengths are right starts: an absent local byte fails it with CFG_RANGE (R179), a row
address with the reason of R306; otherwise its requests wait to be sent. -/
def Dev.beginCopy (d : Dev) (k : Nat) (e : QEntry) (kind : CopyKind) (tally : Option Nat) : Dev :=
  match kind.local.find? fun r => !d.present r.1 r.2 with
  | some r => d.addCopy k e kind tally [(r.1, CFG_RANGE)]
  | none =>
    match d.copyGate kind with
    | some f => d.addCopy k e kind tally [f]
    | none => (d.addCopy k e kind tally []).addReqs (kind.reqs d.nextId)

/-- Whether an address is one of R161's forms. -/
def addrOk (a : Nat) : Bool := match coreAddr a with | .bad => false | _ => true

/-- DCOPY (R177). -/
def execDcopy (k : Nat) (s : State) := s.act fun d =>
  match d.dmaHead k 6 0 with
  | none => d
  | some e =>
    let dst := (e.val 0).toNat; let src := (e.val 1).toNat; let len := (e.val 2).toNat
    match [dst, src].find? fun a => !addrOk a with
    | some a => d.trapEntry k 3 e trapAddr a
    | none =>
      if dst % 32 ≠ 0 ∨ src % 32 ≠ 0 ∨ len % 32 ≠ 0 then d.trapEntry k 3 e trapAlign (if dst % 32 ≠ 0 then dst else src)
      else
        let d := d.startEntry k 3 e
        let kind := CopyKind.dcopy dst src len
        if len < 32 ∨ 2 ^ 30 < len then d.addCopy k e kind (wordTally e.word) [(0, BAD_LENGTH)]
        else d.beginCopy k e kind (wordTally e.word)

/-- The descriptor of a DDESC or DGATHER: read at start, in the core's own scratch (R177 step 1). -/
def Dev.withDesc (d : Dev) (k op : Nat) (f : Dev → QEntry → List Byte → Option Nat → Dev) : Dev :=
  match d.dmaHead k 6 op with
  | none => d
  | some e =>
    let sa := (e.val 0).toNat
    if sa < scratchWindow k ∨ scratchWindow k + 2 ^ 21 ≤ sa then d.trapEntry k 3 e trapAddr sa
    else if sa % 64 ≠ 0 then d.trapEntry k 3 e trapAlign sa
    else if d.copiesWrite k sa 64 then d
    else
      let d := d.scrub sa 64
      let l := d.bytesAt sa 64
      let tally := if bitAt (leAt l 42 2) 0 then some (leAt l 40 2) else none
      if (d.poisonsAt sa 64).any id then
        (d.startEntry k 3 e).addCopy k e (.dcopy 0 0 0) tally [(0, UNCORRECTABLE)]
      else f d e l tally

/-- A bit or byte of a descriptor that is reserved and not 0 (R177 step 3). -/
def descReserved (l : List Byte) : Bool := decide (1 < leAt l 42 2) || leAt l 44 20 != 0

/-- DDESC (R177). -/
def execDdesc (k : Nat) (s : State) := s.act fun d => d.withDesc k 1 fun d e l tally =>
  let rb := leAt l 16 4; let rows := leAt l 20 4
  let kind := CopyKind.ddesc (leAt l 8 8) (leAt l 0 8) rb rows (sext 64 (leAt l 32 8)) (sext 64 (leAt l 24 8))
  if descReserved l then (d.startEntry k 3 e).addCopy k e kind tally [(0, BAD_FIELD)]
  else if rb < 32 ∨ 2 ^ 24 < rb ∨ rows < 1 ∨ 65536 < rows then (d.startEntry k 3 e).addCopy k e kind tally [(0, BAD_LENGTH)]
  else match kind.segs.find? fun g => !addrOk g.2.1 || !addrOk g.2.2.1 with
    | some g => d.trapEntry k 3 e trapAddr (if addrOk g.2.1 then g.2.2.1 else g.2.1)
    | none =>
      match kind.segs.find? fun g => g.2.1 % 32 != 0 || g.2.2.1 % 32 != 0 || g.2.2.2 % 32 != 0 with
      | some g => d.trapEntry k 3 e trapAlign (if g.2.1 % 32 ≠ 0 then g.2.1 else g.2.2.1)
      | none => (d.startEntry k 3 e).beginCopy k e kind tally

/-! ### Gather -/

/-- DGATHER (R177, R178).  Destination and index list may lie in a row. -/
def execDgather (k : Nat) (s : State) := s.act fun d => d.withDesc k 2 fun d e l tally =>
  let ctl := leAt l 24 8
  let count := ctl % 4096 + 1; let rb := ctl / 2 ^ 32 % 2 ^ 13
  let table := leAt l 0 8; let dst := leAt l 8 8; let pitch := leAt l 32 8; let index := leAt l 16 8
  let kind := CopyKind.dgather dst table pitch rb count index
  let bad (reason : Nat) : Dev := (d.startEntry k 3 e).addCopy k e kind tally [(0, reason)]
  if descReserved l || ctl / 4096 % 2 ^ 20 != 0 || ctl / 2 ^ 45 != 0 then bad BAD_FIELD
  else if rb < 32 ∨ 4096 < rb then bad BAD_LENGTH
  else match [table, dst, index].find? fun a => !addrOk a with
    | some a => d.trapEntry k 3 e trapAddr a
    | none =>
      if table % 32 ≠ 0 ∨ dst % 32 ≠ 0 ∨ index % 32 ≠ 0 ∨ rb % 32 ≠ 0 then
        d.trapEntry k 3 e trapAlign (if dst % 32 ≠ 0 then dst else if index % 32 ≠ 0 then index else table)
      else if (kind.touches.1.any fun r => d.held r.1 r.2 || d.copiesWrite k r.1 r.2) then d
      else
        let d := kind.touches.1.foldl (fun d r => d.scrub r.1 r.2) d
        let c : Copy := ⟨d.nextId, k, true, e.uid, e.pc, kind, tally, [], [], []⟩
        let start := (d.startEntry k 3 e).beginCopy k e kind tally
        match coreAddr index with
        | .loc _ =>
          match (if kind.local.all fun r => d.present r.1 r.2 then (d.gatherRows c).find? fun a => a % 32 != 0 else none) with
          | some a => d.trapEntry k 3 e trapAlign a
          | none => if (match start.findCopy c.id with | some x => x.fails.isEmpty | none => false) then start.gatherFetch c rb else start
        | _ => start

/-! ### Messages -/

/-- MSEND (R182). -/
def execMsend (k : Nat) (s : State) := s.act fun d =>
  match d.dmaHead k 7 4 with
  | none => d
  | some e =>
    let sdst := e.val 0; let len := (e.val 2).toNat
    match coreAddr (e.val 1).toNat with
    | .loc src =>
      let kind := CopyKind.msend (wget sdst 19 0) (wget sdst 41 32) src len
      let d := d.startEntry k 3 e
      if len < 1 ∨ 65536 < len then d.addCopy k e kind (wordTally e.word) [(0, BAD_LENGTH)]
      else if !d.present src len then d.addCopy k e kind (wordTally e.word) [(src, CFG_RANGE)]
      else
        let id := d.nextId
        let d := d.addCopy k e kind (wordTally e.word) []
        let m : Msg := ⟨d.nextId, id, wget sdst 19 0, wget sdst 41 32, [], [], false, none, 0, 0⟩
        { d.bump with row := { d.row with msgs := d.row.msgs ++ [m] } }
    | _ => d.trapEntry k 3 e trapAddr (e.val 1).toNat

/-! ### The end of a copy -/

/-- Move a run of local bytes through the decoder; a poisoned word marks its destination word (R216). -/
def Dev.moveLocal (d : Dev) (src dst n : Nat) : Dev :=
  let d := d.scrub src n
  d.writeMasked dst (d.bytesAt src n) (d.maskOf src n)

/-- Whether a range a copy is about to touch is held or absent. -/
def CopyKind.moves (k : CopyKind) : List (Nat × Nat × Nat) :=
  k.segs.filterMap fun g => match coreAddr g.2.1, coreAddr g.2.2.1 with
    | .loc x, .loc y => some (x, y, g.2.2.2)
    | _, _ => none

/-- Move the rows of a gather to local memory: a row that cannot be read is written as zeros marked poisoned (R178). -/
def Dev.moveGather (d : Dev) (c : Copy) : Dev :=
  match c.kind with
  | .dgather dst table pitch rb count index =>
    (List.range count).foldl (fun d j =>
      let row := d.gatherRow c table pitch rb index j
      match row, coreAddr dst with
      | .ok a, .loc y => d.moveLocal a (y + j * rb) rb
      | .error r, .loc y => (d.write (y + j * rb) (zeros rb) fun _ => true).failCopy c.id (y + j * rb) r
      | .error r, .row m y => d.failCopy c.id (rowKey m (y + j * rb)) r
      | _, _ => d) d
  | _ => d

/-- The bytes that a copy moves on this device; an absent range fails it with CFG_RANGE. -/
def Dev.moveCopy (d : Dev) (c : Copy) : Dev :=
  match c.kind.local.find? fun r => !d.present r.1 r.2 with
  | some r => d.failCopy c.id r.1 CFG_RANGE
  | none => (c.kind.moves.foldl (fun d m => d.moveLocal m.1 m.2.1 m.2.2) d).moveGather c

/-- A copy fails with CFG_RANGE at a local address; what it has not sent is not sent. -/
def Dev.cutCopy (d : Dev) (id a : Nat) : Dev :=
  let d := { d with row := { d.row with
    reqs := d.row.reqs.filter fun r => r.sent || (r.owner != ReqOwner.copyRead id && r.owner != ReqOwner.copyWrite id)
    msgs := d.row.msgs.filter fun m => m.sent || m.copy != id } }
  d.failCopy id a CFG_RANGE

/-- A local range of a running copy becomes absent: the copy fails, also when the range is back before it ends (R179, R200). -/
def Dev.failAbsent (d : Dev) : Dev :=
  d.row.copies.foldl (fun d c => match c.kind.local.find? fun r => !d.present r.1 r.2 with
    | some r => if c.fails.contains (r.1, CFG_RANGE) then d else d.cutCopy c.id r.1
    | none => d) d

/-- Steps 1 to 3 of R179 for a copy that ended with a reason; a copy whose core was reset or replaced only counts at its
tally. -/
def Dev.endCopy (d : Dev) (c : Copy) (reason : Nat) : Dev :=
  let d := { d with row := { d.row with copies := d.row.copies.filter (·.id != c.id) } }
  let k := c.core
  let d := if reason = OK ∨ !c.live then d
    else
      let t := match c.tally with | some t => t * 2 ^ 32 + 2 ^ 31 | none => 0
      let n := satAdd 16 (d.fld (SQ_DMA_ERR_count k)) 1
      (d.setReg (SQ_DMA_ERR k) (BitVec.ofNat 64 (reason * 2 ^ 48 + t + n))).modCore k fun x =>
        { x with dmaFailed := true, dmaReason := reason }
  let d := match c.tally with
    | some t =>
      let d := if reason = OK then d else d.setFld (HF_TALLY_error t) 1
      d.bumpTally t 1
    | none => d
  if c.live then match (d.core k).dq.find? (·.uid == c.uid) with
    | some e => d.completeEntry k 3 e
    | none => d
  else d

/-- DMA_COPY_END: a copy with nothing open, and behind no other, moves its local bytes and ends (R160, R179). -/
def execDmaCopyEnd (id : Nat) (s : State) := s.act fun d =>
  match d.findCopy id with
  | none => d
  | some c =>
    if d.copyBusy id || d.copyBehind c || c.late.any (fun g => d.held (c.kind.at g.1).2 g.2.1.length) then d
    else
    let d := c.late.foldl (fun d g => d.writeMasked (c.kind.at g.1).2 g.2.1 g.2.2) d
    if !c.fails.isEmpty then d.endCopy c ((firstFail c.fails).getD OK)
    else if c.kind.local.any fun r => d.held r.1 r.2 then d
    else
      let d := d.moveCopy c
      match d.findCopy id with
      | some c => d.endCopy c ((firstFail c.fails).getD OK)
      | none => d

end Sys2Proof.Machine
end

