-- ==== Sys2Proof/Machine/Legend.lean ====
section
/-!
DEFINITION. Sys2Proof/Machine/Legend.lean: the Legend (R413, R414), which units it reports present (R3, R193), and the event
of its changes.
-/

namespace Sys2Proof.Machine

/-- Offset of the window CP_LEGEND, and its size in bytes. -/
def legendBase : Nat := 0x201000
def legendSize : Nat := 384

/-- Physical core number of a die, cluster and position 0 to 10. -/
def physOf (die cluster pos : Nat) : Nat := die * 88 + cluster * 11 + pos

/-- Whether the spare of a cluster is active, and whether it is available. -/
def Dev.spareActive (d : Dev) (die c : Nat) : Bool := d.flag (SQ_REMAP_active die c)
def Dev.spareGood (d : Dev) (die c : Nat) : Bool := !d.svc.failed.contains (physOf die c 10)

/-- Whether package core k is in service. -/
def Dev.coreUp (d : Dev) (k : Nat) : Bool := decide (k < 960) && d.dieUp (dieOf k) && d.coreState k != 5

/-- The cluster entry of cluster c of die n. -/
def Dev.legendCluster (d : Dev) (n c : Nat) : Nat :=
  if !d.dieUp n then 0
  else packN 1 10 (fun i => b2n (d.coreUp (n * 80 + c * 10 + i))) +
    b2n (d.spareActive n c) * 2 ^ 14 + b2n (!d.spareActive n c && d.spareGood n c && !d.svc.clustersOff.contains (n * 8 + c)) * 2 ^ 15

/-- HBM bytes mapped under the interleave in force (R194, R195, R199). -/
def Dev.hbmMapped (d : Dev) : Nat :=
  if d.packageWide then ((List.range 16).filter (d.stackState · == 2)).length * stackSpan
  else (List.range 4).foldl (fun t b => t + (if d.baseChanging b then 0 else (d.stacksUp b).length * stackSpan)) 0

/-- The Legend as the device stands, with a generation. -/
def Dev.legendBytes (d : Dev) (gen : Nat) : List Byte :=
  leBytes 2 0x4C47 ++ leBytes 2 1 ++ leBytes 4 gen ++ leBytes 8 Config.serial.toNat ++ leBytes 1 d.variant ++ [0] ++
  leBytes 2 (d.fld HF_PKG_STRAP_substrate_id) ++
  leBytes 2 (packN 1 12 fun n => b2n (d.dieUp n)) ++ leBytes 2 (packN 1 12 fun n => b2n (d.flag (HF_DIE_STRAP_accepted n))) ++
  leBytes 2 (packN 1 16 fun s => b2n (d.stackState s == 2)) ++
  leBytes 1 (packN 1 6 fun n => b2n (d.driftFitted n)) ++
  leBytes 1 (packN 1 6 fun n => b2n (d.driftFitted n && d.flag (DR_CTRL_enable n))) ++
  leBytes 4 (b2n (d.flag CE_STATUS_apply_present) + 2 * b2n (d.flag CE_STATUS_digest_present) + 4 * b2n (d.flag GD_STATUS_ref_present)) ++
  leBytes 2 ((List.range 960).filter d.coreUp).length ++
  leBytes 2 (d.fld HF_HBM_MODE_mode + 2 * d.fld HF_HBM_MODE_lock) ++ leBytes 4 2200 ++ leBytes 8 d.hbmMapped ++
  leBytes 4 (d.fld CP_LINK_gen + 16 * d.fld CP_LINK_width + 256 * d.fld CP_LINK_flit) ++
  leBytes 4 (d.fld FB_ID_id + b2n (d.flag FB_ID_valid) * 2 ^ 31) ++ zeros 8 ++
  ((List.range 12).flatMap fun n => (List.range 8).flatMap fun c => leBytes 2 (d.legendCluster n c)) ++
  ((List.range 5).flatMap fun k => let v := smGet (fun _ => (0, 0)) d.fw.legend k; leBytes 4 v.1 ++ leBytes 1 v.2 ++ zeros 3) ++
  zeros 88

/-- The generation in the Legend last formed; 0 before host-ready. -/
def Dev.legendGen (d : Dev) : Nat := leAt d.svc.legend 4 4

/-- Put the Legend in force and in its window. -/
def Dev.setLegend (d : Dev) (l : List Byte) : Dev :=
  let d := { d with svc := { d.svc with legend := l } }
  (List.range 48).foldl (fun d i => d.setReg (legendBase + 8 * i) (BitVec.ofNat 64 (leAt l (8 * i) 8))) d

/-- After a change of anything the Legend shows, the generation rises by 1 and the Legend event is raised (R414). -/
def Dev.legendCheck (d : Dev) : Dev :=
  if d.ready && d.legendBytes d.legendGen != d.svc.legend then
    (d.setLegend (d.legendBytes (d.legendGen + 1))).event 4 (d.legendGen + 1) 0
  else d

/-- The Legend of host-ready (R414). -/
def Dev.legendFirst (d : Dev) : Dev := d.setLegend (d.legendBytes 1)

/-- A command whose effect may change the Legend. -/
def State.actLegend (s : State) (f : Dev → Dev) : Host.Outcome State Fault Refusal := s.act fun d => (f d).legendCheck

end Sys2Proof.Machine
end

