-- ==== Sys2Proof/Machine/Net.lean ====
section
/-!
DEFINITION. Sys2Proof/Machine/Net.lean: cells and bell records leaving and arriving (R230 to R239, R246 to R250, R274 to
R276, R285, R289, R290, R295, R296, R518).  A launch is judged by the plan and epoch of the frame at which its slot is
aimed (R74).  CELL_RECEIVE stands in Machine/Grid.lean.
-/

namespace Sys2Proof.Machine

/-- A signed field. -/
def Dev.sfld (d : Dev) (f : Fld) : Int := sext (f.hi + 1 - f.lo) (d.fld f)
def Dev.setSfld (d : Dev) (f : Fld) (i : Int) : Dev := d.setFld f (wrap (f.hi + 1 - f.lo) i)

/-- i ÷ n rounded to nearest even (R92). -/
def divEven (i : Int) (n : Nat) : Int :=
  let q := roundRat i.natAbs n
  if i < 0 then -(q : Int) else (q : Int)
where
  /-- a ÷ n rounded to nearest even. -/
  roundRat (a n : Nat) : Nat :=
    let q := a / n; let r := a % n
    if 2 * r > n ∨ (2 * r = n ∧ q % 2 = 1) then q + 1 else q

/-! ### Drift causes and quarantine -/

/-- Keep the active flags of the sources of drift n (Table 12-1). -/
def Dev.driftCauses (d : Dev) (n : Nat) : Dev :=
  let d := d.setActive (0x78 + n) (d.fld (DR_STATUS_hold_cause n) != 0)
  let d := d.setActive (0x80 + n) ((List.range 32).any fun l => d.fld (DR_LANE_STAT_qmask n l) != 0)
  d.setActive (0x88 + n) ((List.range 32).any fun l =>
    d.laneState n l == 5 || (d.laneState n l == 6 && d.bit (FB_LOOP_fail n) l))

/-- A recalibration of a lane is due: one in SERVICE, HOLD or RECAL starts it when it may; a lane that is OFF, in CAL, FAILED or DISABLED
takes none (R260, R261). -/
def Dev.wishRecal (d : Dev) (n l : Nat) : Dev :=
  if d.laneState n l = 2 ∨ d.laneState n l = 3 ∨ d.laneState n l = 4 then d.modLane n l fun x => { x with wantRecal := true } else d

/-- Quarantine a lane and colour, start a recalibration and raise drift-wavelength (R248); a pair already quarantined is only
counted (R249).  cnt is the event's counter. -/
def Dev.quarantine (d : Dev) (n l c : Nat) (cnt : Fld) : Dev :=
  let d := d.countSat cnt 1
  if d.bit (DR_LANE_STAT_qmask n l) c then d
  else
    let d := (d.setBit (DR_LANE_STAT_qmask n l) c true).countSat (DR_LANE_EVT_quarantines n l) 1
    let d := d.wishRecal n l
    (d.raise (0x80 + n) 1 (portDetail n l 0) c).driftCauses n

/-- The mean of the kept errors of a colour. -/
def meanErr (es : List Int) : Int := if es.isEmpty then 0 else divEven (es.foldl (· + ·) 0) es.length

/-- The monitor reads an error (0.1 GHz) during a cell on a colour of a lane (R246). -/
def Dev.monitor (d : Dev) (n l c : Nat) (e : Int) : Dev :=
  let d := d.modLane n l fun x =>
    let old := match smFind x.errs c with | some es => es | none => []
    { x with errs := smPut (fun _ => ([] : List Int)) x.errs c ((e :: old).take 256), lastErr := smSet x.lastErr c (d.frame, e) }
  let errs := ((d.drift n).lane l).errs
  let d := d.setFld (DR_LANE_FERR_worst_cell n l) (max (d.fld (DR_LANE_FERR_worst_cell n l)) (min e.natAbs 0xFFFF))
  let worst := errs.foldl (fun b x => if (meanErr b.2).natAbs < (meanErr x.2).natAbs then x else b) (0, [])
  let d := (d.setSfld (DR_LANE_FERR_worst_mean n l) (meanErr worst.2)).setFld (DR_LANE_FERR_worst_colour n l) worst.1
  let mean := meanErr (match smFind errs c with | some es => es | none => [])
  if (d.fld (DR_THRESH_ferr_quar n) * 10 : Nat) < e.natAbs then d.quarantine n l c (DR_LANE_EVT_excursions n l)
  else if (d.fld (DR_THRESH_ferr_warn n) * 10 : Nat) < mean.natAbs then d.wishRecal n l
  else d

/-- The monitor's reading of a cell on lane 31: the commands that launch one bring no reading, so it is a free value (log 155). -/
def Dev.monitor31 (d : Dev) (n c : Nat) : Dev := (d.draw 1).monitor n 31 c (d.freeAt 0).toInt

/-! ### Aiming (R56, R74) -/

/-- Fine steps of 12.5 ps in a slot and in a frame. -/
def slotSteps : Nat := 1024
def frameSteps : Nat := 16384

/-- The launch advance held for a port and colour, in fine steps. -/
def Dev.advance_ (d : Dev) (p c : Nat) : Nat :=
  d.fld (GD_RANGE_adv_fine p c) + d.fld (GD_RANGE_adv_cycles p c) * 32 + d.fld (GD_RANGE_adv_frames p c) * frameSteps

/-- How many frames ahead of the frame in progress a slot lies whose launch, earlier by the advance, comes in this frame. -/
def Dev.leadFrames (d : Dev) (p c slot : Nat) : Nat := (d.advance_ p c - slotSteps * slot + (frameSteps - 1)) / frameSteps

/-- The frame at which a launch in this frame aims a slot, given the colour and coordinate that the slot has in each frame. -/
def Dev.aim (d : Dev) (p slot : Nat) (f : Nat → Option (Nat × Nat)) : Option (Nat × Nat × Nat) :=
  (List.range 66).findSome? fun k => match f (d.frame + k) with
    | some (c, y) => if d.leadFrames p c slot = k then some (d.frame + k, c, y) else none
    | none => none

/-- The routing version in force at a frame: the one built for a switch due by then, or the present one (R295). -/
def Dev.versionAt (d : Dev) (f : Nat) : Nat :=
  match d.fab.built with | some b => if b ≤ f then 1 - d.version else d.version | none => d.version

/-- The window of the plan in force on a port at a frame: the agreed next plan's from its switch frame on (R282). -/
def Dev.planWindowAt (d : Dev) (p f : Nat) : Nat :=
  if d.fld (FB_PLAN_CTRL_state p) = 2 ∧ d.fld (FB_PLAN_FRAME_frame p) ≤ f then 0x610000 + 0x2000 * p else 0x620000 + 0x2000 * p

/-! ### Launching -/

/-- Put a cell on the glass, aimed at a slot of a frame. -/
def Dev.launch (d : Dev) (p l slot c f : Nat) (cell : Cell) : Dev :=
  { d with net := { d.net with glass := d.net.glass ++ [⟨p, l, slot, c, f, symbols cell.wire⟩] } }

/-- Remember the frame in which a request's, or a message's first, cell was launched (R334). -/
def Dev.markLaunched (d : Dev) (cell : Cell) : Dev :=
  if cell.src ≠ d.fid ∨ cell.hops ≠ 0 then d
  else if cell.cls < 2 ∧ cell.rowType < 8 then
    { d with row := { d.row with reqs := d.row.reqs.map fun r =>
        if r.sent && r.seq == cell.seq && r.launched.isNone then
          { r with launched := some d.frame, deadline := d.frame + d.fld HF_ROW_TIMEOUT_access } else r } }
  else if cell.cls = 2 ∧ cell.msgType = 0 then
    { d with row := { d.row with msgs := d.row.msgs.map fun m =>
        if m.sent && m.seq == cell.seq && m.launched.isNone then
          { m with launched := some d.frame, deadline := d.frame + d.fld HF_ROW_TIMEOUT_msg } else m } }
  else d

/-- Entry byte of the plan in force on a port at a frame for this device (R277). -/
def Dev.planByte (d : Dev) (p l slot f : Nat) : Nat :=
  let i := (l * 16 + slot) * 16 + d.coordOn p
  digit 8 (d.reg (d.planWindowAt p f + i / 8 * 8)).toNat (i % 8)

/-- Colour and partner of a data or cage lane in a slot of a frame (R231, R274, R277), none when dark. -/
def Dev.slotPartner (d : Dev) (p l slot f : Nat) : Option (Nat × Nat) :=
  if d.isZb p then (match d.ownEntry with | some e => some (e.zbColour, fidZ e.zbPeer) | none => none)
  else if l < 30 then
    let b := d.planByte p l slot f
    if bitAt b 7 then some (b % 16, (d.coordOn p + b % 16) % 16) else none
  else
    let c := 1 + (f + slot) % 15
    some (c, (d.coordOn p + c) % 16)

/-- The input of the headframe switch from which a waiting cell comes: the port it arrived on (8 more once it has crossed a ZB
circuit, R297), 6 for row memory and messages, 7 for the collective engine. -/
def Dev.inputOf (d : Dev) (w : Waiting) : Nat :=
  match w.transit with
  | some q => if d.crossed w then q.1 + 8 else q.1
  | none => if w.cell.cls = 3 then 7 else 6

/-- The key of an output queue. -/
def outKey (p y : Nat) (cage : Bool) : Nat := (p * 16 + y) * 2 + b2n cage

/-- The first cell of a list that stands in an output queue, from the input whose turn comes next (R38). -/
def Dev.firstOf (d : Dev) (p y : Nat) (cage : Bool) (ws : List Waiting) : Option Waiting :=
  let cs := ws.filter fun w => w.cage == cage && w.queue == some (p, y)
  let last := smGet (fun _ => 15) d.net.served (outKey p y cage)
  (List.range 16).findSome? fun i => cs.find? fun w => d.inputOf w == (last + 1 + i) % 16

/-- The transit, or local, cell waiting for a partner of a port. -/
def Dev.waitingFor (d : Dev) (p y : Nat) (cage transit : Bool) : Option Waiting :=
  d.firstOf p y cage (d.net.waiting.filter fun w => w.transit.isSome == transit)

/-- Whether transit goes first now: within the share, or in its turn beyond it (R285). -/
def Dev.transitTurn (d : Dev) (p y : Nat) : Bool :=
  decide (cntGet d.net.budget (p * 16 + y) < d.fld FB_TRANSIT_share) ||
    smGet (fun _ => true) d.net.turn (p * 16 + y)

/-- The cell that a lane-slot toward a partner takes: data lanes give transit its reserve (R285), the cage lane serves its inputs in
turn (R38). -/
def Dev.pickCell (d : Dev) (p y : Nat) (cage : Bool) : Option Waiting :=
  if cage then d.firstOf p y true d.net.waiting
  else match d.waitingFor p y false true, d.waitingFor p y false false with
    | some t, none => some t
    | none, some o => some o
    | some t, some o => if d.transitTurn p y then some t else some o
    | none, none => none

/-- The header of a hop: hop coordinates, and the epoch of an origin's cell, that of the frame aimed at (R233, R295). -/
def Dev.stamp (d : Dev) (p y f : Nat) (w : Waiting) : Cell :=
  let c := { w.cell with hopSrc := d.coordOn p, hopDst := y }
  if w.transit.isSome then c else { c with epoch := d.versionAt f }

/-- Whether a cell may leave by a hop toward a frame: an origin's cell aimed past a switch must have the hop in the new version too. -/
def Dev.mayAim (d : Dev) (p y f : Nat) (w : Waiting) : Bool :=
  w.transit.isSome || d.versionAt f == d.version ||
    (if w.cage then d.cageHop (d.versionAt f) w.cell.cls w.cell.dst else d.nextHop (d.versionAt f) w.cell.cls w.cell.dst) == some (p, y)

/-- Launch a waiting cell toward a partner, in a slot of a frame. -/
def Dev.sendWaiting (d : Dev) (p l slot c y f : Nat) (w : Waiting) : Dev :=
  let cell := d.stamp p y f w
  let k := bufKey p y w.cage
  let input := d.inputOf w
  let d := ((d.dropWaiting w).markLaunched cell).launch p l slot c f cell
  let d := { d with net := { d.net with
    sent := cntPut d.net.sent k (cntGet d.net.sent k + 1), served := smPut (fun _ => 15) d.net.served (outKey p y w.cage) input
    waiting := d.net.waiting.map fun x => if x.twin == some w.id then { x with leftBy := some p } else x } }
  let both := !w.cage && (match d.waitingFor p y false (!w.transit.isSome) with | some _ => true | none => false)
  let d := if both then { d with net := { d.net with
      turn := smPut (fun _ => true) d.net.turn (p * 16 + y) (!w.transit.isSome) } } else d
  if w.transit.isSome then
    let d := d.countWrap FB_RELAY_CNT_relayed 1
    if w.cage then d else { d with net := { d.net with
      budget := cntPut d.net.budget (p * 16 + y) (cntGet d.net.budget (p * 16 + y) + 1) } }
  else d

/-- Survey's lane probe (Table 8-7). -/
def Dev.laneProbePayload (d : Dev) (p l c f : Nat) : List Byte :=
  padTo 256 (leBytes 4 d.fid ++ leBytes 1 p ++ leBytes 1 l ++ leBytes 1 c ++ [0] ++ leBytes 8 f ++
    (List.range 240).map fun i => BitVec.ofNat 8 ((i + 16) ^^^ 0xA5))

/-- The op word of a bell cell: kind, and the buffers freed for its receiver (R275, R276). -/
def Dev.bellWord (d : Dev) (p y kind : Nat) : Nat :=
  let f (cage : Bool) : Nat := cntGet d.net.freed (bufKey p y cage)
  bellOp kind (f false) (f true)

/-- A lane probe that is due on a lane toward a partner (R269). -/
def Dev.probeDue (d : Dev) (p l y : Nat) : Bool :=
  match smFind d.fab.survey (p * 16 + y) with
  | some s => bitAt s.toProbe l
  | none => false

def Dev.sendProbe (d : Dev) (p l slot c y f : Nat) : Dev :=
  let cell := { d.newCell 4 (d.bellWord p y kLaneProbe) 0 (d.partnerAt p y) (d.laneProbePayload p l c f) 256 0 with
    hopSrc := d.coordOn p, hopDst := y }
  let d := d.launch p l slot c f cell
  { d with fab := { d.fab with survey := d.fab.survey.map fun e =>
      if e.1 == p * 16 + y then (e.1, { e.2 with toProbe := putBits e.2.toProbe l l 0, probed := putBits e.2.probed l l 1 })
      else e } }

/-- CELL_SEND: a lane-slot of a data lane or the cage lane launches a waiting cell with credit, and the monitor reads the
lane's error. -/
def execCellSend (p l slot : Nat) (err : Int) (s : State) := s.act fun d =>
  if 6 ≤ p ∨ 31 ≤ l ∨ 16 ≤ slot then d
  else
    let d1 := d.requeue
    match d1.aim p slot (d1.slotPartner p l slot) with
    | none => d
    | some (f, c, y) =>
      if !(d1.laneCarries p l c && d1.mayData p y) then d
      else if d1.probeDue p l y then (d1.sendProbe p l slot c y f).monitor p l c err
      else match d1.pickCell p y (l == 30) with
        | some w => if d1.hasCredit p y w.cage && d1.mayAim p y f w then (d1.sendWaiting p l slot c y f w).monitor p l c err else d
        | none => d

/-- Whether any next hop may take a cell of a class now. -/
def Dev.ableHop (d : Dev) (v cls dst : Nat) : Bool :=
  match d.heading v dst with
  | none => false
  | some (peer, true) => (d.crossing cls peer).any fun q => d.hasCredit q.1 q.2 false
  | some (D, false) =>
    let e := d.route v D
    let able (a y : Nat) : Bool := axisOpen cls a && (d.portsFor a y dst).any fun p => d.hasCredit p y false
    ([0, 1, 2].any fun a => bitAt e (12 + a) && able a (fidCoord D a)) ||
      (bitAt e 11 && able (bitsOf e 10 9) (bitsOf e 8 5))

/-- CAGE_ESCAPE: a data cell that has waited its escape limit at the head of its queue moves to the cage (R296). -/
def execCageEscape (id : Nat) (s : State) := s.act fun d =>
  let d1 := d.requeue
  match d1.net.waiting.find? (·.id == id) with
  | some w =>
    let v := d1.versionOf w
    let due := match w.headAt with | some f => decide (f + w.escape ≤ d1.frame) | none => false
    let hop := d1.cageHop v w.cell.cls w.cell.dst
    if !w.cage && due && !d1.ableHop v w.cell.cls w.cell.dst && hop.isSome then
      let d2 := { d1 with net := { d1.net with waiting := d1.markHeads [] (d1.net.waiting.map fun (x : Waiting) =>
        if x.id == id then { x with cage := true, queue := hop, headAt := none } else x) } }
      d2.countWrap FB_RELAY_CNT_escaped 1
    else d
  | none => d

/-- A cell of this origin is discarded unsent: the timeout of its operation runs from then on (R290, R334). -/
def Dev.neverSent (d : Dev) (w : Waiting) : Dev := if w.transit.isSome then d else d.markLaunched w.cell

/-- CELL_LIFETIME_EXPIRY: a cell that has waited its relay limit here is discarded and counted (R290). -/
def execCellLifetimeExpiry (id : Nat) (s : State) := s.act fun d =>
  match d.net.waiting.find? (·.id == id) with
  | some w =>
    if w.since + w.relayLimit ≤ d.frame then ((d.dropWaiting w).neverSent w).countSat FB_DROP_CNT_lifetime 1 else d
  | none => d

/-! ### Bell -/

/-- Whether lane 31 of a port sends bell cells now on a colour. -/
def Dev.bellLane (d : Dev) (p c : Nat) : Bool := d.driftFitted p && d.laneCarries p 31 c && !d.portHolds p

/-- The records that port p may send to coordinate y: its own, and those of the paired port while that port sends no bell cells on
the partner's colour (R250, R252, R254, R257). -/
def Dev.bellsFor (d : Dev) (p y : Nat) : List Bell :=
  d.net.bells.filter fun b => b.coord == y && d.mayBell p y b.kind &&
    (b.port == p || (d.pairPort p == some b.port && !d.bellLane b.port (d.colourOf b.port y)))

/-- The record with the best priority, oldest first. -/
def bestBell (l : List Bell) : Option Bell :=
  l.foldl (fun best b => match best with
    | none => some b
    | some x => if bellPriority b.kind < bellPriority x.kind then some b else some x) none

/-- The cell of a bell record: its header names the partner, or what the record carries of a longer way. -/
def Dev.bellCell (d : Dev) (p y f : Nat) (b : Bell) : Cell :=
  let v := b.via.getD ⟨d.fid, d.partnerAt p y, 0, 0⟩
  { d.newCell 4 (d.bellWord p y b.kind) v.seq v.dst b.payload 256 0 with
    hopSrc := d.coordOn p, hopDst := y, hops := v.hops, src := v.src, epoch := d.versionAt f }

/-- Launch a bell cell with the credit of its port (R276). -/
def Dev.sendBell (d : Dev) (p slot c y f : Nat) (b : Bell) : Dev := d.launch p 31 slot c f (d.bellCell p y f b)

/-- Colour and coordinate of lane 31 in slots 0 to 14 (R274). -/
def Dev.bellSlot (d : Dev) (p slot : Nat) : Nat × Nat :=
  let c := if d.isZb p then (match d.ownEntry with | some e => e.zbColour | none => 0) else 1 + slot
  (c, d.coordVia p c)

/-- BELL_SEND: lane 31 sends one waiting record to the partner of a slot, or a CREDIT record when none waits, and the monitor reads
its error (R246, R274, R275). -/
def execBellSend (p slot : Nat) (s : State) := s.act fun d =>
  if 6 ≤ p ∨ 15 ≤ slot then d
  else match d.aim p slot fun _ => some (d.bellSlot p slot) with
    | none => d
    | some (f, c, y) =>
      if !(d.bellLane p c) then d
      else match bestBell (d.bellsFor p y) with
        | some b => ({ (d.sendBell p slot c y f b) with
            net := { (d.sendBell p slot c y f b).net with bells := d.net.bells.erase b } }).monitor31 p c
        | none =>
          if d.mayBell p y kCredit then (d.sendBell p slot c y f ⟨p, y, kCredit, zeros 256, none⟩).monitor31 p c else d

/-! ### Receiving -/

/-- Keep a cell for the step that takes it. -/
def Dev.keepRx (d : Dev) (p l slot : Nat) (c : Cell) : Dev :=
  { d.bump with net := { d.net with rx := d.net.rx ++ [⟨d.nextId, p, l, slot, d.frame, c⟩] } }

/-- The received cell with a name. -/
def Dev.rxCell (d : Dev) (id : Nat) : Option RxCell := d.net.rx.find? (·.id == id)

/-- A step takes a received cell: it leaves the list, and a data or cage buffer is freed unless the step keeps it. -/
def Dev.takeRx (d : Dev) (r : RxCell) : Dev :=
  { d with net := { d.net with rx := d.net.rx.filter (·.id != r.id) } }
def Dev.dropRx (d : Dev) (r : RxCell) : Dev := if r.cell.cls < 4 then (d.takeRx r).freeRx r else d.takeRx r

/-- Act on the received bell record of a kind (or the cell a predicate accepts). -/
def Dev.onRx (d : Dev) (id : Nat) (p : Cell → Bool) (f : Dev → RxCell → Dev) : Dev :=
  match d.rxCell id with
  | some r => if p r.cell then f d r else d
  | none => d

def isBell (k : Nat) (c : Cell) : Bool := c.cls == 4 && c.bellKind == k

/-- Take the credit that a bell cell carries (R276). -/
def Dev.takeCredit (d : Dev) (p : Nat) (c : Cell) : Dev :=
  let put (d : Dev) (cage : Bool) (v : Nat) : Dev :=
    { d with net := { d.net with credit := cntPut d.net.credit (bufKey p c.hopSrc cage) v } }
  put (put d false c.bellData) true c.bellCage

/-- Whether a bell kind is listed in Table 8-6. -/
def bellListed (k : Nat) : Bool :=
  (decide (1 ≤ k) && decide (k ≤ 9)) || (decide (0x10 ≤ k) && decide (k < 0x14)) || k == 0x20 || k == 0x21 || k == 0x22 ||
    k == 0x23 || k == 0x30 || k == 0x31

/-- Whether a cell for this device is of a type that some step takes. -/
def Cell.listed (c : Cell) : Bool :=
  if c.cls = 0 then c.rowType == 0 || c.rowType == 1 || c.rowType == 8 || c.rowType == 9 || c.rowType == 0xF
  else if c.cls = 1 then c.rowType == 2 || c.rowType == 0xA || c.rowType == 0xF
  else if c.cls = 2 then c.msgType == 0 || c.msgType == 8 || c.msgType == 0xF
  else if c.cls = 4 then bellListed c.bellKind
  else true

/-- Bell kinds that an extra, unmapped, bell-only or MISMATCH device takes part in (R272). -/
def openKind (c : Cell) : Bool := c.cls == 5 || isBell kDatum c || isBell kProbe c || isBell kReply c

/-- Whether a serving device accepts a cell from a partner (R272, R300, R435). -/
def Dev.accepts (d : Dev) (p : Nat) (c : Cell) : Bool :=
  openKind c ||
  (d.fld FB_STATUS_state == 2 && !d.bit (FB_PLANE_extra p) c.hopSrc && !(d.isZb p && decide (c.cls < 2)) &&
    (!d.fenced (d.partnerAt p c.hopSrc) || (c.cls == 4 && decide (0x10 ≤ c.bellKind) && decide (c.bellKind < 0x20))) &&
    (decide (4 ≤ c.cls) || d.flag FB_CTRL_enable))

/-- A transit cell: a FENCED device relays nothing (R436); discarded for its hops or for want of an entry (R290), or queued with
hops raised. -/
def Dev.relay (d : Dev) (p l : Nat) (c : Cell) : Dev :=
  let cage := l == 30
  if d.selfFenced then d.freeBuf p c.hopSrc cage
  else if c.hops = 7 then (d.countSat FB_DROP_CNT_hop_limit 1).freeBuf p c.hopSrc cage
  else if !d.routable c.epoch c.cls c.dst then (d.countSat FB_DROP_CNT_no_route 1).freeBuf p c.hopSrc cage
  else d.enqueueCell { c with hops := c.hops + 1 } (some (p, c.hopSrc, cage)) cage

/-- Consecutive decoded bell cells from a partner (R63). -/
def Dev.bellRun (d : Dev) (p y : Nat) (ok : Bool) : Dev :=
  let k := p * 16 + y
  { d with grid := { d.grid with bellRun := cntPut d.grid.bellRun k (if ok then cntGet d.grid.bellRun k + 1 else 0) } }

/-- A cell in the wrong place: counted, and a notice is due, at most one a lane and frame (R238 step 3, R247). -/
def Dev.misplaced (d : Dev) (p l slot : Nat) (c : Cell) : Dev :=
  let d := d.countSat (DR_LANE_ERR_misdelivered p l) 1
  if d.net.noticed.contains (p, l) then d.countSat (DR_LANE_EVT_suppressed p l) 1
  else
    let n : Notice := ⟨d.nextId, p, l, slot, (d.coordOn p + 16 - c.hopSrc) % 16, d.frame, c.hopSrc, c.headerBytes⟩
    { d.bump with net := { d.net with notices := d.net.notices ++ [n], noticed := (p, l) :: d.net.noticed } }

/-- CREDIT: the record carries nothing but credit (R276). -/
def execCredit (rx : Nat) (s : State) := s.act fun d =>
  d.onRx rx (isBell kCredit) fun d r => (d.dropRx r).takeCredit r.port r.cell

end Sys2Proof.Machine
end

