-- ==== Sys2Proof/Machine/RowMem.lean ====
section
/-!
DEFINITION. Sys2Proof/Machine/RowMem.lean: row requests, atomics and messages on both sides (R304 to R336, R519) and the narrow
path (R203 to R205).
-/

namespace Sys2Proof.Machine

/-! ### Sending requests -/

/-- Requests and messages sent and unanswered (R309). -/
def Dev.outstanding (d : Dev) : Nat := d.row.reqs.countP (·.sent) + d.row.msgs.countP (·.sent)

/-- Whether a seq value is in use. -/
def Dev.seqUsed (d : Dev) (n : Nat) : Bool :=
  d.row.reqs.any (fun r => r.sent && r.seq == n) || d.row.msgs.any (fun m => m.sent && m.seq == n)

/-- A seq value that no outstanding request or message uses: the next after the last one given (R309, R336). -/
def Dev.freshSeq (d : Dev) : Nat :=
  (((List.range 4097).map fun i => (d.row.seqNext + i) % 2 ^ 16).find? fun n => !d.seqUsed n).getD d.row.seqNext

/-- A seq value has been given out. -/
def Dev.useSeq (d : Dev) (n : Nat) : Dev := { d with row := { d.row with seqNext := (n + 1) % 2 ^ 16 } }

/-- Whether two requests touch a 32-byte granule of one member and one of them writes (R318). -/
def conflicts (a b : RowReq) : Bool :=
  a.member == b.member && decide (a.addr / 32 ≤ (b.addr + b.len - 1) / 32) && decide (b.addr / 32 ≤ (a.addr + a.len - 1) / 32) &&
    (a.kind != .read || b.kind != .read)

/-- The requests made before a request. -/
def Dev.reqsBefore (d : Dev) (r : RowReq) : List RowReq := d.row.reqs.takeWhile (·.id != r.id)

/-- Whether a request must wait: the window is full, an earlier request touches its granules, or an earlier one of its access is
still to be sent (R308, R309, R318). -/
def Dev.reqWaits (d : Dev) (r : RowReq) : Bool :=
  decide (4096 ≤ d.outstanding) ||
  (d.reqsBefore r).any (fun q => conflicts q r || (!q.sent && q.owner == r.owner)) ||
  (d.row.reqs.any fun q => q.sent && conflicts q r)

/-- The prefix of Table 9-5. -/
def reqPrefix (r : RowReq) : List Byte :=
  leBytes 8 r.addr ++ leBytes 4 r.key ++ leBytes 2 r.region ++ leBytes 2 r.len ++ leBytes 8 r.sb ++ leBytes 8 r.sc

/-- Type and kind of the op word of a request. -/
def ReqKind.type : ReqKind → Nat
  | .read => 0
  | .write => 1
  | .atomic _ => 2
def ReqKind.atom : ReqKind → Nat
  | .atomic k => k
  | _ => 0

/-- The cell of a request (R315). -/
def Dev.reqCell (d : Dev) (r : RowReq) : Cell :=
  d.newCell (if r.kind.type = 2 then 1 else 0) (rowOp r.kind.type r.kind.atom r.mask 0) r.seq (d.memberFid r.member)
    (reqPrefix r ++ r.data) (32 + r.data.length) 0

/-- Serve a request at this device: what R310 and R321 answer, for a requester with coordinate x.  An atomic goes to the
atomic unit and has no answer yet. -/
def Dev.serve (d : Dev) (x : Nat) (r : RowReq) (src : Nat) (reply : AtomReply) : Dev × Option Reply :=
  match d.regionCheck r.kind.type x r.region r.key r.addr r.len with
  | some e =>
    (((d.countSat (HF_REGION_CNT_refusals r.region) 1).recordRefusal e r.kind.type r.region src), some (.fail e))
  | none =>
    match r.kind with
    | .read =>
      let d := d.scrub r.addr r.len
      (d, some (.data (d.bytesAt r.addr r.len) (d.maskOf r.addr r.len)))
    | .write => (d.writeMasked r.addr r.data r.mask, some .ack)
    | .atomic k =>
      if 13 < k then ((d.countSat (HF_REGION_CNT_refusals r.region) 1).recordRefusal BAD_FIELD 2 r.region src, some (.fail BAD_FIELD))
      else (d.addAtom r.addr k r.sb r.sc reply r.region, none)

/-- The bytes of a gather at places off to off + n - 1, after a corrected read, and their poison by payload word. -/
def Dev.gatherBytes (d : Dev) (c : Copy) (off n : Nat) : Dev × List Byte × Nat :=
  match c.kind with
  | .dgather _ table pitch rb _ index =>
    let row (d : Dev) (j : Nat) := d.gatherRow c table pitch rb index j
    let d := ((List.range ((off + n - 1) / rb + 1)).drop (off / rb)).foldl (fun d j => match row d j with
      | .ok a => d.scrub a rb
      | .error _ => d) d
    let at_ (i : Nat) : Byte × Bool := match row d ((off + i) / rb) with
      | .ok a => (d.byteAt (a + (off + i) % rb), d.poisonAt (a + (off + i) % rb))
      | .error _ => (0, true)
    (d, (List.range n).map fun i => (at_ i).1, packN 1 ((n + 15) / 16) fun w =>
      b2n ((List.range (min 16 (n - 16 * w))).any fun i => (at_ (16 * w + i)).2))
  | _ => (d, [], 0)

/-- Where the bytes of a copy's write come from. -/
inductive WriteSource where
  | own (addr : Nat)
  | row
  | gather
  deriving DecidableEq, Repr

def CopyKind.source (k : CopyKind) (off : Nat) : WriteSource :=
  match k, coreAddr (k.at off).1 with
  | .dgather .., _ => .gather
  | _, .loc a => .own a
  | _, _ => .row

/-- A write of a copy takes its bytes when it is sent; none when they are absent. -/
def Dev.fillReq (d : Dev) (r : RowReq) : Option (Dev × RowReq) :=
  match r.owner, r.kind with
  | .copyWrite id, .write =>
    match d.findCopy id with
    | some c =>
      match c.kind.source r.off with
      | .own a =>
        if d.present a r.len then
          let d := d.scrub a r.len
          some (d, { r with data := d.bytesAt a r.len, mask := d.maskOf a r.len })
        else none
      | .row => (c.bufBytes r.off r.len).map fun x => (d, { r with data := x.1, mask := x.2 })
      | .gather =>
        let x := d.gatherBytes c r.off r.len
        some (x.1, { r with data := x.2.1, mask := x.2.2 })
    | none => none
  | _, _ => some (d, r)

/-- Whether a request's own bytes are not there yet: they still come from a row, from the gather unit or from memory that is being
initialised; or its copy stands behind another (R160, R318). -/
def Dev.reqHeld (d : Dev) (r : RowReq) : Bool :=
  (match r.owner with
   | .access _ => false
   | .copyRead id => (match d.findCopy id with | some c => d.copyBehind c | none => false)
   | .copyWrite id => (match d.findCopy id with
     | some c => d.copyBehind c || (match c.kind.source r.off with
       | .own a => d.held a r.len
       | .row => (c.bufBytes r.off r.len).isNone
       | .gather => d.narrowBusy (.gather id) || !c.indexed)
     | none => false)) || (r.member == fidX d.fid && d.held r.addr r.len)

/-- Drop what R311 leaves unsent after an uncovered request of a copy: its later requests, and the writes whose bytes then do not
come. -/
def Dev.dropUnsent (d : Dev) (r : RowReq) (id : Nat) : Dev :=
  let gone := d.row.reqs.filter fun q => !q.sent && (q.owner == .copyRead id || (q.owner == .copyWrite id && r.owner == .copyWrite id))
  let d := { d with row := { d.row with reqs := d.row.reqs.filter fun q => !(gone.any (·.id == q.id)) } }
  gone.foldl (fun d q => if q.owner == .copyRead id then d.dropStarved id q.off q.len else d) d

/-- A request whose bytes are there is served here, or sent in a cell (R305, R308). -/
def Dev.sendReq (d : Dev) (r : RowReq) : Dev :=
  let r := { r with sent := true, seq := d.freshSeq }
  if r.member = fidX d.fid then
    match d.serve (fidX d.fid) r d.fid (.own r.id) with
    | (d, some x) => d.answer r x
    | (d, none) => (d.useSeq r.seq).modReq r.id fun _ => r
  else ((d.useSeq r.seq).modReq r.id fun _ => r).enqueueCell (d.reqCell r) none false

/-- ROW_REQUEST_SEND: the origin sends a request, or serves it itself (R290, R305, R308, R309, R311, R318).  A request of a copy is
checked against the imports here, one of an access at its start. -/
def execRowRequestSend (id : Nat) (s : State) := s.act fun d =>
  match d.findReq id with
  | none => d
  | some r =>
    if r.sent || d.reqWaits r || d.reqHeld r then d
    else match d.pathGate 0 (d.memberFid r.member), r.copy, d.coverReq r with
      | some e, _, _ => d.answer r (.fail e)
      | none, some c, none => (d.dropUnsent r c).failCopy c (rowKey r.member r.addr) OUT_OF_REGION
      | none, none, _ => d.sendReq r
      | none, some c, some r1 =>
        match d.fillReq r1 with
        | none => (d.dropReq id).failCopy c (rowKey r.member r.addr) CFG_RANGE
        | some (d1, r2) => d1.sendReq r2

/-! ### Serving requests of other members -/

/-- The request that a cell carries (Table 9-5). -/
def Cell.request (c : Cell) (kind : ReqKind) : RowReq :=
  let n := leAt c.payload 14 2
  { mkReq (.access 0) 0 kind (leAt c.payload 0 6) n 0 with
    key := leAt c.payload 8 4, region := leAt c.payload 12 2 % 4096,
    data := if kind == .write then sliceB c.payload 32 n else [], mask := c.rowMask,
    sb := leAt c.payload 16 8, sc := leAt c.payload 24 8 }

/-- Answer a request of another device with cells (R316). -/
def Dev.sendReply (d : Dev) (c : Cell) (x : Reply) : Dev :=
  let out (d : Dev) (op : Nat) (pl : List Byte) (len : Nat) : Dev :=
    d.enqueueCell (d.newCell c.cls op c.seq c.src pl len 0) none false
  match x with
  | .data l m => (List.range ((l.length + 255) / 256)).foldl (fun d i =>
      let part := (l.drop (256 * i)).take 256
      out d (rowOp 0x8 0 (m / 2 ^ (16 * i)) i) part part.length) d
  | .ack => out d (rowOp 0x9 0 0 0) [] 0
  | .old v p => out d (rowOp 0xA c.rowKind (b2n p) 0) (leBytes 8 v) 8
  | .fail e => out d (rowOp 0xF 0 e 0) [] 0

/-- A request of another member: refused while serve is 0, checked, served and answered. -/
def Dev.serveCell (d : Dev) (rx : RxCell) (kind : ReqKind) : Dev :=
  let r := rx.cell.request kind
  if d.held r.addr r.len then d
  else
    let d := d.dropRx rx
    if !d.flag HF_ROW_CTRL_serve then
      ((d.countSat (HF_REGION_CNT_refusals r.region) 1).recordRefusal OUT_OF_REGION kind.type r.region rx.cell.src).sendReply rx.cell (.fail OUT_OF_REGION)
    else match d.serve (fidX rx.cell.src) r rx.cell.src (.remote rx.cell.src rx.cell.seq) with
      | (d, some x) => d.sendReply rx.cell x
      | (d, none) => d

def isRow (cls type : Nat) (c : Cell) : Bool := c.cls == cls && c.rowType == type

def execRowReadRequest (rx : Nat) (s : State) := s.act fun d => d.onRx rx (isRow 0 0) fun d r => d.serveCell r .read
def execRowWriteRequest (rx : Nat) (s : State) := s.act fun d => d.onRx rx (isRow 0 1) fun d r => d.serveCell r .write
def execRowAtomicRequest (rx : Nat) (s : State) := s.act fun d =>
  d.onRx rx (isRow 1 2) fun d r => d.serveCell r (.atomic r.cell.rowKind)

/-! ### The atomic unit -/

/-- The atomic's answer goes to where it was asked from. -/
def Dev.atomAnswer (d : Dev) (j : AtomJob) (x : Reply) : Dev :=
  match j.reply with
  | .access id => d.accessAnswer id 0 x
  | .own id => match d.findReq id with
    | some r => d.answer r x
    | none => d
  | .remote src seq =>
    d.sendReply { d.newCell 1 (rowOp 2 j.kind 0 0) seq src [] 0 0 with src := src } x

/-- An atomic whose word has become absent is refused: counted and recorded where a request named an entry (R310, R312). -/
def Dev.atomRefuse (d : Dev) (j : AtomJob) : Dev :=
  let from_ (src : Nat) : Dev := (d.countSat (HF_REGION_CNT_refusals j.region) 1).recordRefusal OUT_OF_REGION 2 j.region src
  Dev.atomAnswer (match j.reply with
    | .access _ => d
    | .own _ => from_ d.fid
    | .remote src _ => from_ src) j (.fail OUT_OF_REGION)

/-- ATOMIC_EXECUTE: one atomic reads, unless it has read already (R323), computes and writes; earlier atomics on its granule come
first (R322, R325). -/
def execAtomicExecute (slot : Nat) (s : State) := s.act fun d =>
  match d.row.atoms.find? (·.id == slot) with
  | none => d
  | some j =>
    let n := atomSize j.kind
    if !j.granted || d.atomBehind j || d.held j.addr n then d
    else
      let d := { d with row := { d.row with atoms := d.row.atoms.filter (·.id != slot) } }
      if !d.present j.addr n then d.atomRefuse j
      else
        let d := d.readWord j.addr
        let o := j.old.getD (d.atomRead j.addr n)
        let d := if o.2 then d else d.writeClean j.addr (leBytes n (atomNew j.kind o.1 j.sb j.sc))
        d.atomAnswer j (.old o.1 o.2)

/-! ### Replies -/

/-- The outstanding request that a reply answers. -/
def Dev.reqFor (d : Dev) (c : Cell) (p : ReqKind → Bool) : Option RowReq :=
  d.row.reqs.find? fun r => r.sent && r.seq == c.seq && d.memberFid r.member == c.src && r.member != fidX d.fid && p r.kind

/-- A reply: it answers its request, or is late (R336). -/
def Dev.onReply (d : Dev) (rx : Nat) (p : Cell → Bool) (kind : ReqKind → Bool) (f : Dev → RowReq → Cell → Dev) : Dev :=
  d.onRx rx p fun d r =>
    let d := d.dropRx r
    match d.reqFor r.cell kind with
    | some q => f d q r.cell
    | none => d.countSat HF_ROW_CNT_late 1

/-- The bytes and the mask of a read whose cells are all in. -/
def RowReq.joined (r : RowReq) : List Byte × Nat :=
  r.parts.foldl (fun x p => (x.1.take (256 * p.1) ++ p.2.1 ++ x.1.drop (256 * p.1 + p.2.1.length),
    x.2 ||| p.2.2 * 2 ^ (16 * p.1))) (zeros r.len, 0)

/-- READ_DATA: one data cell of a read; the last one completes it. -/
def execReadData (rx : Nat) (s : State) := s.act fun d =>
  d.onReply rx (isRow 0 8) (· == .read) fun d q c =>
    if q.parts.any (·.1 == c.rowIndex) || decide (q.len ≤ 256 * c.rowIndex) then d
    else
      let n := min 256 (q.len - 256 * c.rowIndex)
      let q := { q with parts := q.parts ++ [(c.rowIndex, sliceB c.payload 0 n, c.rowMask)] }
      if q.parts.length = (q.len + 255) / 256 then d.answer q (.data q.joined.1 q.joined.2) else d.modReq q.id fun _ => q

def execWriteAck (rx : Nat) (s : State) := s.act fun d =>
  d.onReply rx (isRow 0 9) (· == .write) fun d q _ => d.answer q .ack

def execAtomicReply (rx : Nat) (s : State) := s.act fun d =>
  d.onReply rx (isRow 1 0xA) (·.type == 2) fun d q c => d.answer q (.old (leAt c.payload 0 q.len) (bitAt c.rowMask 0))

/-- ROW_REFUSAL: the target refuses a request with a reason. -/
def execRowRefusal (rx : Nat) (s : State) := s.act fun d =>
  d.onReply rx (fun c => isRow 0 0xF c || isRow 1 0xF c) (fun _ => true) fun d q c => d.answer q (.fail c.rowMask)

/-- ROW_REQUEST_TIMEOUT: no reply HF_ROW_TIMEOUT.access frames after the launch (R334). -/
def execRowRequestTimeout (id : Nat) (s : State) := s.act fun d =>
  match d.findReq id with
  | some r =>
    if r.launched.isSome && decide (r.deadline ≤ d.frame) then
      (d.countSat HF_ROW_CNT_timeouts 1).answer r (.fail TIMEOUT_REMOTE)
    else d
  | none => d

/-! ### Messages -/

def Dev.dropMsg (d : Dev) (id : Nat) : Dev := { d with row := { d.row with msgs := d.row.msgs.filter (·.id != id) } }

/-- A message ends; a failure goes to its copy. -/
def Dev.endMsg (d : Dev) (m : Msg) (reason : Nat) : Dev :=
  let d := d.dropMsg m.id
  if reason = OK then d else d.failCopy m.copy 0 reason

/-- Bytes of the ring entry of a message of n bytes (Table 9-9). -/
def entrySize (n : Nat) : Nat := 64 + 64 * ((n + 63) / 64)

/-- The reason a mailbox refuses a message of n bytes (R331 step 1). -/
def Dev.mboxRefuses (d : Dev) (mb n : Nat) : Option Nat :=
  let size := 2 ^ d.fld (HF_MBOX_CTRL_log2_size mb)
  if !d.flag (HF_MBOX_CTRL_enable mb) || !d.present (d.fld (HF_MBOX_CTRL_base mb) * 65536) size then some OUT_OF_REGION
  else if size < (d.fld (HF_MBOX_PROD_prod mb) + 2 ^ 64 - d.fld (HF_MBOX_CONS_cons mb)) % 2 ^ 64 + entrySize n then some QUEUE_FULL
  else none

/-- Write bytes into a ring, wrapping at its end. -/
def Dev.ringWrite (d : Dev) (base size off : Nat) (l : List Byte) (bad : Nat → Bool) : Dev :=
  let n := min l.length (size - off)
  let d := d.write (base + off) (l.take n) fun w => bad (w - (base + off) / 16)
  if n < l.length then d.write base (l.drop n) fun w => bad (w - base / 16 + n / 16) else d

/-- R331 steps 2 to 4: the entry, prod, and the tally. -/
def Dev.mboxAccept (d : Dev) (mb src seq : Nat) (data : List Byte) (poison : List Bool) : Dev :=
  let size := 2 ^ d.fld (HF_MBOX_CTRL_log2_size mb)
  let base := d.fld (HF_MBOX_CTRL_base mb) * 65536
  let n := entrySize data.length
  let entry := padTo 64 (leBytes 4 src ++ leBytes 4 data.length ++ leBytes 2 seq ++ leBytes 2 (b2n (poison.any id)) ++
    zeros 4 ++ leBytes 8 d.frame) ++ padTo (n - 64) data
  let prod := d.fld (HF_MBOX_PROD_prod mb)
  let d := d.ringWrite base size (prod % size) entry fun w => decide (4 ≤ w) && poison.getD ((w - 4) / 16) false
  let d := (d.setFld (HF_MBOX_PROD_prod mb) (prod + n)).countSat (HF_MBOX_CNT_accepted mb) 1
  if d.flag (HF_MBOX_TALLY_tally_en mb) then d.bumpTally (d.fld (HF_MBOX_TALLY_tally mb)) 1 else d

/-- A mailbox takes or refuses a whole message: the reason, OK when accepted. -/
def Dev.mboxTake (d : Dev) (mb src seq : Nat) (data : List Byte) (poison : List Bool) (serve : Bool) : Dev × Nat :=
  match (if serve then d.mboxRefuses mb data.length else some OUT_OF_REGION) with
  | some e => ((d.countSat (HF_MBOX_CNT_refused mb) 1).recordRefusal e 8 mb src, e)
  | none => (d.mboxAccept mb src seq data poison, OK)

/-- Whether the ring of a mailbox lies in memory that is being initialised. -/
def Dev.ringHeld (d : Dev) (mb : Nat) : Bool :=
  d.flag (HF_MBOX_CTRL_enable mb) && d.held (d.fld (HF_MBOX_CTRL_base mb) * 65536) (2 ^ d.fld (HF_MBOX_CTRL_log2_size mb))

/-- Source address and length of the message of a copy. -/
def Copy.message (c : Copy) : Nat × Nat := match c.kind with | .msend _ _ src len => (src, len) | _ => (0, 0)

/-- The cells of a message (R329). -/
def Dev.msgCells (d : Dev) (m : Msg) : Dev :=
  let n := (m.data.length + 255) / 256
  (List.range n).foldl (fun d i =>
    let part := (m.data.drop (256 * i)).take 256
    d.enqueueCell (d.newCell 2 (msgDataOp m.mailbox i (n - 1) (m.poison.getD i false)) m.seq m.dst part part.length 0)
      none false) d

/-- MESSAGE_SEND: the origin takes a message up (R306, R330, R519). -/
def execMessageSend (id : Nat) (s : State) := s.act fun d =>
  match d.row.msgs.find? (·.id == id) with
  | none => d
  | some m =>
    let before := (d.row.msgs.takeWhile (·.id != id)).any fun x => x.dst == m.dst && x.mailbox == m.mailbox
    match d.findCopy m.copy with
    | none => d
    | some c =>
      let src := c.message
      if m.sent || before || decide (4096 ≤ d.outstanding) || d.held src.1 src.2 || (m.dst == d.fid && d.ringHeld m.mailbox) || d.copyBehind c then d
      else match d.pathGate 2 m.dst with
        | some e => d.endMsg m e
        | none =>
          if !d.present src.1 src.2 then d.endMsg m CFG_RANGE
          else
            let d := d.scrub src.1 src.2
            let data := d.bytesAt src.1 src.2
            let poison := (List.range ((src.2 + 255) / 256)).map fun i =>
              (wordsOf (src.1 + 256 * i) (min 256 (src.2 - 256 * i))).any d.poisonAt
            let seq := d.freshSeq
            let d := d.useSeq seq
            if m.dst = d.fid then
              let r := d.mboxTake m.mailbox d.fid seq data poison true
              r.1.endMsg m r.2
            else
              let m := { m with sent := true, data := data, poison := poison, seq := seq }
              Dev.msgCells { d with row := { d.row with msgs := d.row.msgs.map fun x => if x.id == id then m else x } } m

def isMsg (type : Nat) (c : Cell) : Bool := c.cls == 2 && c.msgType == type

/-- Free the buffers that an assembly holds, and drop it. -/
def Dev.dropAsm (d : Dev) (a : Assembly) : Dev :=
  let d := { d with row := { d.row with asm := d.row.asm.filter (·.id != a.id) } }
  a.bufs.foldl (fun d b => d.freeBuf b.1 b.2.1 b.2.2) d

/-- The data of a message whose cells are all in. -/
def Assembly.data (a : Assembly) : List Byte :=
  (List.range (a.last + 1)).flatMap fun i => match a.parts.find? (·.1 == i) with | some p => p.2.1 | none => []
def Assembly.poison (a : Assembly) : List Bool :=
  (List.range (a.last + 1)).map fun i => match a.parts.find? (·.1 == i) with | some p => p.2.2 | none => false

/-- MESSAGE_DATA: a cell of a message; the last to arrive has the message accepted or refused (R331). -/
def execMessageData (rx : Nat) (s : State) := s.act fun d =>
  d.onRx rx (isMsg 0) fun d r =>
    let c := r.cell
    let old := d.row.asm.find? fun a => a.src == c.src && a.mailbox == c.msgMailbox && a.seq == c.seq
    let base : Assembly := match old with
      | some a => a
      | none => ⟨d.nextId, c.src, c.msgMailbox, c.seq, c.msgLast, r.frame, d.fld HF_ROW_TIMEOUT_msg, [], []⟩
    if base.parts.any (·.1 == c.msgIndex) || decide (base.last < c.msgIndex) then d.dropRx r
    else
      let a : Assembly := { base with
        parts := base.parts ++ [(c.msgIndex, sliceB c.payload 0 c.len, c.msgPoison)]
        bufs := base.bufs ++ [(r.port, c.hopSrc, r.lane == 30)] }
      if a.parts.length = a.last + 1 then
        if d.ringHeld a.mailbox then d
        else
          let d := (d.takeRx r).dropAsm a
          let r := d.mboxTake a.mailbox a.src a.seq a.data a.poison (d.flag HF_ROW_CTRL_serve)
          let op := if r.2 = OK then msgAcceptOp a.mailbox else msgRefuseOp a.mailbox r.2
          r.1.enqueueCell (r.1.newCell 2 op a.seq a.src [] 0 0) none false
      else
        let d := (d.takeRx r).bump
        { d with row := { d.row with asm := (d.row.asm.filter (·.id != a.id)) ++ [a] } }

/-- The outstanding message that a reply answers. -/
def Dev.msgFor (d : Dev) (c : Cell) : Option Msg :=
  d.row.msgs.find? fun m => m.sent && m.seq == c.seq && m.dst == c.src && m.mailbox == c.msgMailbox

/-- A reply to a message, or a late one (R336). -/
def Dev.onMsgReply (d : Dev) (rx type : Nat) (reason : Cell → Nat) : Dev :=
  d.onRx rx (isMsg type) fun d r =>
    let d := d.dropRx r
    match d.msgFor r.cell with
    | some m => d.endMsg m (reason r.cell)
    | none => d.countSat HF_ROW_CNT_late 1

def execMessageAccepted (rx : Nat) (s : State) := s.act fun d => d.onMsgReply rx 8 fun _ => OK
def execMessageRefused (rx : Nat) (s : State) := s.act fun d => d.onMsgReply rx 0xF Cell.msgReason

/-- MESSAGE_TIMEOUT: neither acceptance nor refusal in time (R334). -/
def execMessageTimeout (id : Nat) (s : State) := s.act fun d =>
  match d.row.msgs.find? (·.id == id) with
  | some m =>
    if m.launched.isSome && decide (m.deadline ≤ d.frame) then (d.countSat HF_ROW_CNT_timeouts 1).endMsg m TIMEOUT_REMOTE else d
  | none => d

/-- MESSAGE_ASSEMBLY_TIMEOUT: an incomplete message is discarded and its buffers are freed (R332). -/
def execMessageAssemblyTimeout (id : Nat) (s : State) := s.act fun d =>
  match d.row.asm.find? (·.id == id) with
  | some a => if a.first + a.limit ≤ d.frame then d.dropAsm a else d
  | none => d

/-- Every request and message to a member fails at once (R335). -/
def Dev.failPeer (d : Dev) (f : Nat) : Dev :=
  let d := (d.row.reqs.filter fun r => d.memberFid r.member == f && r.member != fidX d.fid).foldl
    (fun d r => d.answer r (.fail PEER_FENCED)) d
  (d.row.msgs.filter fun m => m.dst == f && m.dst != d.fid).foldl (fun d m => d.endMsg m PEER_FENCED) d

/-! ### The narrow path -/

/-- Tokens of a stack, in 1/6400 token; a bucket starts full. -/
def Dev.tokens (d : Dev) (s : Nat) : Nat := smGet (fun _ => d.fld (MC_NARROW_depth s) * 6400) d.row.tokens s

/-- Set the level of a bucket. -/
def Dev.setTokens (d : Dev) (s v : Nat) : Dev :=
  { d with row := { d.row with tokens := smSet d.row.tokens s v } }

/-- One user of the narrow path (R203): the atomic unit, the gather unit of a cluster, the command processor, the collective engine. -/
def Dev.narrowUnit (d : Dev) : NarrowUser → Nat
  | .atomic _ => 0
  | .gather id => match d.findCopy id with | some c => 1 + c.core / 10 | none => 1
  | .command _ => 97
  | .tables _ => 98

/-- NARROW_ACCESS_START: the next access of a stack starts when the bucket holds its cost; the users take turns (R204, R205). -/
def execNarrowAccessStart (s0 : Nat) (s : State) := s.act fun d =>
  match d.row.narrow.find? (·.stack == s0) with
  | none => d
  | some x =>
    let rest := d.row.narrow.erase x
    if 16 ≤ s0 then d
    else if d.tokens s0 < x.cost * 6400 then
      if x.waited then d
      else { (d.countWrap (MC_NARROW_STAT_waited s0) 1) with row := { d.row with narrow := { x with waited := true } :: rest } }
    else
      let more := if x.left ≤ 1 then rest else { x with waited := false, left := x.left - 1 } :: rest
      let mine (y : Narrow) : Bool := y.stack == s0 && d.narrowUnit y.user == d.narrowUnit x.user
      let d := (d.countWrap (MC_NARROW_STAT_granted s0) 1).setTokens s0 (d.tokens s0 - x.cost * 6400)
      let d := { d with row := { d.row with narrow := more.filter (!mine ·) ++ more.filter mine } }
      match x.user with
      | .atomic id => Dev.atomStart { d with row := { d.row with atoms := d.row.atoms.map fun j =>
          if j.id == id then { j with granted := true } else j } } id
      | _ => d

end Sys2Proof.Machine
end

