-- ==== Sys2Proof/Machine/RegOps.lean ====
section
/-!
DEFINITION. Sys2Proof/Machine/RegOps.lean: what every register write shares (R4, R18 to R20, R24, R72, R390, R411): the block of an
offset, its ENABLE and reason fields, the refusal of R24, and the merge of a written value into the fields.
-/

namespace Sys2Proof.Machine

/-- The drift, stack, die and core of an offset of register space. -/
def offDrift (off : Nat) : Nat := (off - 0x1000000) / 0x100000
def offStack (off : Nat) : Nat := (off - 0x2000000) / 0x10000
def offDie (off : Nat) : Nat := (off - 0x10000000) / 0x1000000
def offCore (off : Nat) : Nat :=
  let o := (off - 0x10000000) % 0x1000000
  offDie off * 80 + (if o < 0x800000 then (o - 0x400000) / 0x1000 else (o - 0x800000) / 0x10000)

/-- Whether an offset lies in the drift, memory controller or die area of register space. -/
def isDriftOff (off : Nat) : Bool := decide (0x1000000 ≤ off) && decide (off < 0x1600000)
def isStackOff (off : Nat) : Bool := decide (0x2000000 ≤ off) && decide (off < 0x2100000)
def isDieOff (off : Nat) : Bool := decide (0x10000000 ≤ off) && decide (off < 0x1C000000)
/-- A core page (80 of 4 KiB) or an instruction store (80 of 64 KiB, R152) of a die; nothing lies between or above (R19). -/
def isCoreOff (off : Nat) : Bool :=
  let o := (off - 0x10000000) % 0x1000000
  isDieOff off && ((decide (0x400000 ≤ o) && decide (o < 0x450000)) || (decide (0x800000 ≤ o) && decide (o < 0xD00000)))

/-- Zones of absent dies, stacks and drifts are not there. -/
def Dev.zoneFitted (d : Dev) (z : Nat) : Bool :=
  if z < 12 then d.dieUp z
  else if 17 ≤ z ∧ z < 23 then d.driftFitted (z - 17)
  else if 24 ≤ z then decide (z < 40) && d.stackState (z - 24) != 0 && d.stackState (z - 24) != 5
  else true

/-- The zone of an offset of TM_ZONE_z, TM_ZONE_CFG_z, TM_MASK_z or TM_SENS_z_j; 40 for every other offset. -/
def offZone (off : Nat) : Nat :=
  if 0x400100 ≤ off ∧ off < 0x400240 then (off - 0x400100) / 8
  else if 0x400400 ≤ off ∧ off < 0x400540 then (off - 0x400400) / 8
  else if 0x400600 ≤ off ∧ off < 0x400740 then (off - 0x400600) / 8
  else if 0x401000 ≤ off ∧ off < 0x403800 then (off - 0x401000) / 0x100
  else 40

/-- The apply program of window k: 32 operations, two in a register (Table 10-12). -/
def applyBase (k : Nat) : Nat := 0x530000 + 0x100 * k

/-- The apply windows, the registers of the Smelt apply unit. -/
def isApplyOff (off : Nat) : Bool := decide (applyBase 0 ≤ off) && decide (off < applyBase 16)

/-- Whether the unit of an offset is absent (R4). -/
def Dev.regAbsent (d : Dev) (off : Nat) : Bool :=
  (isDriftOff off && !d.driftFitted (offDrift off)) || (isDieOff off && !d.dieUp (offDie off)) ||
    (decide (offZone off < 40) && !d.zoneFitted (offZone off)) || (isApplyOff off && !d.flag CE_STATUS_apply_present)

/-- The value in use of the ENABLE bit that governs an offset under R24 (Table 11-11, R333). -/
def Dev.running (d : Dev) (off : Nat) : Bool :=
  if off = HF_ROW_CTRL then d.flag HF_ROW_CTRL_serve
  else if off < 0x100000 then false
  else if off < 0x200000 then d.flag GD_CTRL_enable
  else if off < 0x300000 then d.flag CP_CTRL_enable
  else if off < 0x400000 then d.flag FT_CTRL_enable
  else if off < 0x500000 then d.flag TM_CTRL_enable
  else if off < 0x600000 then d.flag CE_CTRL_enable
  else if off < 0x700000 then d.flag FB_CTRL_enable
  else if isDriftOff off then d.flag (DR_CTRL_enable (offDrift off))
  else if isStackOff off then d.flag (MC_CTRL_enable (offStack off))
  else if isCoreOff off then d.flag (SQ_CTRL_run (offCore off))
  else false

/-- The reason field of the block of an offset (Table 11-11). -/
def reasonField (off : Nat) : Option Fld :=
  if 0x10000 ≤ off ∧ off < 0x100000 then some HF_ROW_CTRL_reason
  else if off < 0x200000 then none
  else if off < 0x300000 then some CP_STATUS_reason
  else if off < 0x400000 then some FT_STATUS_reason
  else if off < 0x500000 then some TM_STATUS_reason
  else if off < 0x600000 then some CE_STATUS_reason
  else if off < 0x700000 then some FB_STATUS_reason
  else if isDriftOff off then some (DR_STATUS_reason (offDrift off))
  else if isStackOff off then some (MC_STATUS_reason (offStack off))
  else none

/-- Record why a write to a register of a block was refused, or why a staged set failed. -/
def Dev.recordReason (d : Dev) (off reason : Nat) : Dev :=
  match reasonField off with
  | some f => d.setFld f reason
  | none => d

/-- What a register write does, and the reason it records: OK when it took effect. -/
abbrev WriteRes := Dev × Nat

/-- A write is refused with a reason: nothing but the reason field changes. -/
def Dev.refuse (d : Dev) (off reason : Nat) : WriteRes := (d.recordReason off reason, reason)

/-- Fields of the register at an offset. -/
def fieldsAt (off : Nat) : List FieldDesc := match regDescAt off with | some x => x.fields | none => []

/-- Whether R24 refuses a value: some RW or WO field that does not permit it would change while the block runs. -/
def Dev.refusedByRun (d : Dev) (off : Nat) (v : Word64) : Bool :=
  d.running off && (fieldsAt off).any fun f =>
    !f.live && ((f.acc == .rw && wget v f.hi f.lo != wget (d.reg off) f.hi f.lo) || (f.acc == .wo && wget v f.hi f.lo != 0))

/-- The value in use after a write: RW fields take it, W1C bits clear. -/
def Dev.merged (d : Dev) (off : Nat) (v : Word64) : Word64 :=
  let fs := fieldsAt off
  let rw := accMask fs (·.acc == .rw)
  let w1 := accMask fs (·.acc == .w1c)
  let old := (d.reg off).toNat
  BitVec.ofNat 64 ((old - (old &&& (rw ||| (v.toNat &&& w1)))) + (v.toNat &&& rw))

/-- The next copy of a register after a write to its ST fields. -/
def Dev.staged (d : Dev) (off : Nat) (v : Word64) : Word64 :=
  let st := accMask (fieldsAt off) (·.acc == .st)
  let old := (match smFind d.next off with | some x => x | none => d.reg off).toNat
  BitVec.ofNat 64 ((old - (old &&& st)) + (v.toNat &&& st))

/-- Whether a register has an ST field. -/
def hasStaged (off : Nat) : Bool := (fieldsAt off).any (·.acc == .st)

/-- Put a value in the next copy. -/
def Dev.stage (d : Dev) (off : Nat) (v : Word64) : Dev :=
  if hasStaged off then { d with next := smSet d.next off (d.staged off v) } else d

/-- An accepted write: RW, W1C and ST fields. -/
def Dev.store (d : Dev) (off : Nat) (v : Word64) : Dev := (d.setReg off (d.merged off v)).stage off v

/-- The register that entry k of the batch names. -/
def Dev.batchOff (d : Dev) (k : Nat) : Nat := d.fld (GD_BATCH_ADDR_addr k) * 8 - regSpaceBase

/-- Whether an armed or writing batch names a register (R72). -/
def Dev.inBatch (d : Dev) (off : Nat) : Bool :=
  (d.fld GD_BATCH_STATUS_state == 1 || d.fld GD_BATCH_STATUS_state == 2) &&
    (List.range (min 64 (d.fld GD_BATCH_CTRL_count))).any fun k => d.batchOff k == off

/-- Record a host error (Table 11-17). -/
def Dev.hostErr (d : Dev) (kind addr : Nat) : Dev :=
  ((d.setFld CP_HOST_ERR_kind kind).countSat CP_HOST_ERR_count 1).setFld CP_HOST_ERR_addr addr

/-- A register access that R17 refuses: recorded in the classifier and as a host error. -/
def Dev.badAccess (d : Dev) (addr : Nat) : Dev := (d.hostErr 3 addr).raise 0x00 0 0 0

/-- The registers that BAR4 serves before host-ready (R390). -/
def servedEarly (off : Nat) : Bool := off == CP_STATUS || off == HF_PKG_STRAP || (decide (0x110 ≤ off) && decide (off < 0x198))

/-- A software write to the register at an offset whose effect, once R390, R4, R72 and R24 let it through, is h. -/
def Dev.guardWrite (d : Dev) (off : Nat) (v : Word64) (h : Dev → WriteRes) : WriteRes :=
  if !d.ready then (if servedEarly off then (d, OK) else (d.badAccess (regSpaceBase + off), BAD_FIELD))
  else if d.regAbsent off then (d, ABSENT_UNIT)
  else if d.inBatch off then (d.setFld GD_BATCH_STATUS_conflict 1).refuse off BUSY_RUNNING
  else if d.refusedByRun off v then d.refuse off BUSY_RUNNING
  else h d

/-- A command of its own that writes a register: the host's write through BAR4, when it is the one the command names; in D3hot the
device takes none (R383). -/
def Dev.ownWrite (d : Dev) (off : Nat) (v : Word64) (is : Bool) (h : Dev → WriteRes) : Dev :=
  if is && !d.cp.d3hot then (d.guardWrite off v h).1 else d

end Sys2Proof.Machine
end

