-- ==== Sys2Proof/Machine/Drift.lean ====
section
/-!
DEFINITION. Sys2Proof/Machine/Drift.lean: the drift ports beyond cells: contour tables (R240 to R245), hold (R251 to R255),
recalibration (R256 to R260), lane states (R261, R262), misdelivery notices (R247 to R249) and the loopback stage of
Survey (R269).
-/

namespace Sys2Proof.Machine

/-! ### Sensors (R241, R251) -/

/-- Zone of a drift chiplet (Table 13-1). -/
def driftZone (n : Nat) : Nat := 17 + n

/-- A sensor of a drift chiplet: its trimmed temperature in 1/16 degrees C when valid. -/
def Dev.driftSensor (d : Dev) (n j : Nat) : Option Int :=
  if d.flag (TM_SENS_invalid (driftZone n) j) || d.flag (TM_SENS_masked (driftZone n) j) then none
  else some (d.sfld (TM_SENS_temp (driftZone n) j))

/-- The highest of some readings. -/
def highest (l : List Int) : Option Int :=
  l.foldl (fun b x => match b with | none => some x | some y => some (max x y)) none

/-- The two sensors nearest a lane: that of its four lanes and the neighbour on the lane's side. -/
def laneSensors (l : Nat) : List Nat :=
  let g := l / 4
  if l % 4 < 2 then (if g = 0 then [0, 1] else [g - 1, g]) else (if g = 7 then [6, 7] else [g, g + 1])

/-! ### Contour tables (R240) -/

def contourActive (n : Nat) : Nat := 0x1000000 + n * 0x100000 + 0xC0000
def contourNext (n : Nat) : Nat := 0x1000000 + n * 0x100000 + 0x80000
/-- Entry (l, c, p) of a table. -/
def contourEntry (l c p : Nat) : Nat := (l * 16 + c) * 56 + p
/-- Entries of one table. -/
def contourEntries : Nat := 28672

/-- u ÷ 64 rounded to nearest even, between two currents. -/
def blend (a b r : Nat) : Nat := (divEven ((a : Int) * (64 - r) + (b : Int) * r) 64).toNat

/-- The four currents interpolated r/64 of the way between two entries. -/
def interpolate (a b : Word64) (r : Nat) : Word64 :=
  BitVec.ofNat 64 (packN 16 4 fun i => blend (digit 16 a.toNat i) (digit 16 b.toNat i) r)

/-- The sets of a lane at a predicted temperature u in 1/32 degrees C, 0 ≤ u < 3520 (R241). -/
def Dev.contourSets (d : Dev) (n l u : Nat) : List Word64 :=
  (List.range 16).map fun c =>
    interpolate (d.reg (contourActive n + 8 * contourEntry l c (u / 64))) (d.reg (contourActive n + 8 * contourEntry l c (u / 64 + 1)))
      (u % 64)

/-- DR_STATUS.hold_cause and the causes of the drift's sources (Table 7-9, Table 12-1). -/
def Dev.holdCause (d : Dev) (n : Nat) : Dev :=
  let c := if (d.drift n).holding then 1
    else if (List.range 32).any fun l => d.laneState n l == 3 && ((d.drift n).lane l).cold then 2 else 0
  (d.setFld (DR_STATUS_hold_cause n) c).driftCauses n

/-- The lane's new entries go into both banks (R245). -/
def Dev.writeContour (d : Dev) (n l : Nat) : Dev :=
  (((d.drift n).lane l).written.foldl (fun d e =>
    (d.setReg (contourActive n + 8 * e.1) e.2).setReg (contourNext n + 8 * e.1) e.2) d).modLane n l fun x =>
      { x with written := [] }

/-- A lane leaves RECAL for HOLD: a sweep that has ended stands, one under way is discarded and repeated (R245, R259). -/
def Dev.breakRecal (d : Dev) (n l : Nat) : Dev :=
  if ((d.drift n).lane l).returnAt.isSome then (d.writeContour n l).modLane n l fun x => { x with returnAt := none }
  else d.modLane n l fun x => { x with discarded := true, written := [] }

/-- A lane enters HOLD because its temperature lies outside the table (R242). -/
def Dev.coldHold (d : Dev) (n l : Nat) : Dev :=
  let d := if d.laneState n l = 4 then d.breakRecal n l else d
  ((d.setLaneState n l 3).modLane n l fun x => { x with cold := true, checking := false, checked := none }).raise (0x78 + n) 1
    (portDetail n l 0) 0

/-- T of a lane: the highest valid reading of its two nearest sensors (R241). -/
def Dev.laneTemp (d : Dev) (n l : Nat) : Option Int := highest ((laneSensors l).filterMap (d.driftSensor n))

/-- One lane of an enabled drift at a contour update (R241, R242); was holds the tables as the update found them. -/
def Dev.updateLane (was : Dev) (n : Nat) (d : Dev) (l : Nat) : Dev :=
  match d.laneTemp n l with
  | none => d
  | some t =>
    let x := (d.drift n).lane l
    let u : Int := 3 * t - x.tPrev.getD t
    if u < 0 ∨ 3520 ≤ u then
      let d := d.modLane n l fun x => { x with okFor := 0, checking := x.checking && !x.cold }
      if d.laneState n l = 2 ∨ d.laneState n l = 4 ∨ (d.laneState n l = 3 ∧ !x.cold) then d.coldHold n l else d
    else
      let ok := decide (64 ≤ u) && decide (u ≤ 3456)
      d.modLane n l fun x => { x with okFor := if ok then x.okFor + 1 else 0, tf := u.toNat, sets := was.contourSets n l u.toNat }

/-- T becomes T_prev of the next step, whether the drift is enabled or not. -/
def Dev.keepTemp (d : Dev) (n l : Nat) : Dev := d.modLane n l fun x => { x with tPrev := d.laneTemp n l }

/-- CONTOUR_UPDATE: every 10 us, the currents of every lane of a drift (R241, R242). -/
def execContourUpdate (n : Nat) (s : State) := s.act fun d =>
  if n < 6 ∧ d.driftFitted n then
    let d := if d.flag (DR_CTRL_enable n) then ((List.range 32).foldl (d.updateLane n) d).holdCause n else d
    (List.range 32).foldl (fun d l => d.keepTemp n l) d
  else d

/-- The entries of one window moved to another, as a canonical map of its own. -/
def windowShift (m : List (Nat × Word64)) (lo dst : Nat) : List (Nat × Word64) :=
  (m.filter fun e => decide (lo ≤ e.1) && decide (e.1 < lo + 8 * contourEntries)).map fun e => (e.1 - lo + dst, e.2)

/-- Replace what a window holds. -/
def Dev.setWindow (d : Dev) (lo : Nat) (l : List (Nat × Word64)) : Dev :=
  let m := smClear d.regs lo (lo + 8 * contourEntries)
  { d with regs := m.filter (·.1 < lo) ++ l ++ m.filter (lo ≤ ·.1) }

/-- Setting DR_CONTOUR_CTRL.arm and cancel (R243, Table 7-13). -/
def Dev.contourCtrlW (d : Dev) (n : Nat) (v : Word64) : WriteRes :=
  let off := DR_CONTOUR_CTRL n
  let d := if bitAt v.toNat 1 && d.fld (DR_CONTOUR_CTRL_state n) == 1 && decide (d.frame < (d.drift n).armedAt + 128) then
    d.setFld (DR_CONTOUR_CTRL_state n) 0 else d
  if !bitAt v.toNat 0 then (d, OK)
  else if d.fld (DR_CONTOUR_CTRL_state n) ≠ 0 then d.refuse off BUSY_RUNNING
  else if d.fld (DR_CONTOUR_FRAME_frame n) < d.frame + 128 then d.refuse off CFG_RANGE
  else ((d.setFld (DR_CONTOUR_CTRL_state n) 1).modDrift n fun x => { x with armedAt := d.frame }, OK)

def execDrContourArm (n : Nat) (v : Word64) (s : State) := s.act fun d =>
  d.ownWrite (DR_CONTOUR_CTRL n) v (decide (n < 6) && bitAt v.toNat 0) fun d => d.contourCtrlW n v
def execDrContourCancel (n : Nat) (v : Word64) (s : State) := s.act fun d =>
  d.ownWrite (DR_CONTOUR_CTRL n) v (decide (n < 6) && bitAt v.toNat 1 && !bitAt v.toNat 0) fun d => d.contourCtrlW n v

/-- CONTOUR_COMMIT: at the committed boundary the banks swap (R244). -/
def execContourCommit (n : Nat) (s : State) := s.act fun d =>
  if n < 6 ∧ d.fld (DR_CONTOUR_CTRL_state n) = 1 ∧ d.fld (DR_CONTOUR_FRAME_frame n) ≤ d.frame then
    let act := windowShift d.regs (contourActive n) (contourNext n)
    let nxt := windowShift d.regs (contourNext n) (contourActive n)
    ((d.setWindow (contourNext n) act).setWindow (contourActive n) nxt).setFld (DR_CONTOUR_CTRL_state n) 2
  else d

/-- CONTOUR_COPY_DONE: the new active bank stands in both banks (R244). -/
def execContourCopyDone (n : Nat) (s : State) := s.act fun d =>
  if n < 6 ∧ d.fld (DR_CONTOUR_CTRL_state n) = 2 then
    (d.setWindow (contourNext n) (windowShift d.regs (contourActive n) (contourNext n))).setFld (DR_CONTOUR_CTRL_state n) 0
  else d

/-! ### Recalibration -/

/-- Whether a lane may enter RECAL now (R257). -/
def Dev.mayRecal (d : Dev) (n l : Nat) : Bool :=
  !((List.range 32).any fun j => d.laneState n j == 4) &&
  (decide (l < 30) || (match d.pairPort n with | some q => d.laneState q l == 2 | none => true))

/-- The lane enters RECAL. -/
def Dev.enterRecal (d : Dev) (n l : Nat) : Dev :=
  ((d.setLaneState n l 4).modLane n l fun x =>
    { x with wantRecal := false, returnAt := none, cold := false, checking := false, checked := none, discarded := false,
             written := [] }).holdCause n

/-- A lane goes to RECAL at once, or waits for it (R257). -/
def Dev.toRecal (d : Dev) (n l : Nat) : Dev :=
  if d.mayRecal n l then d.enterRecal n l else d.modLane n l fun x => { x with wantRecal := true }

/-- A recalibration of a lane is asked for: one in SERVICE starts it, another waits as R261 lets it. -/
def Dev.askRecal (d : Dev) (n l : Nat) : Dev := if d.laneState n l = 2 then d.toRecal n l else d.wishRecal n l

/-- RECAL_START: a recalibration that is due starts (R246, R257, R259, R260): of a lane in service, of one whose CAL or colour check
failed, or of a FAILED one for which DR_LANE_CTRL_l.recal was set. -/
def execRecalStart (n l : Nat) (s : State) := s.act fun d =>
  let x := (d.drift n).lane l
  let st := d.laneState n l
  if decide (n < 6) && decide (l < 32) && x.wantRecal && d.mayRecal n l &&
      (st == 2 || st == 5 || (st == 1 && x.checked == some false) || (st == 3 && !(d.drift n).holding && !x.cold)) then
    d.enterRecal n l
  else d

/-- A lane enters SERVICE; with its disable bit set it goes on to DISABLED (Tables 7-7 and 7-15). -/
def Dev.serveLane (d : Dev) (n l : Nat) : Dev := d.setLaneState n l (if d.flag (DR_LANE_CTRL_disable n l) then 6 else 2)

/-- The lane fails: dark until it recalibrates (R260). -/
def Dev.failLane (d : Dev) (n l : Nat) : Dev :=
  (((d.writeContour n l).setLaneState n l 5).modLane n l fun x => { x with wantRecal := false }).raise (0x88 + n) 1
    (portDetail n l 0) 0 |>.driftCauses n

/-- A contour entry whose phase and mirror currents a sweep has adjusted; its gain stays (R256). -/
def adjusted (old new : Word64) : Word64 := BitVec.ofNat 64 (new.toNat / 2 ^ 16 * 2 ^ 16 + old.toNat % 2 ^ 16)

/-- The two entries of a colour that a sweep adjusts: the points that bracket the lane's T_f. -/
def Dev.sweptEntries (d : Dev) (n l c : Nat) (y : ColourSweep) : List (Nat × Word64) :=
  let e := contourEntry l c (((d.drift n).lane l).tf / 64)
  let old (i : Nat) : Word64 := d.reg (contourActive n + 8 * i)
  [(e, adjusted (old e) y.lowPoint), (e + 1, adjusted (old (e + 1)) y.highPoint)]

/-- The quarantined colours after a sweep: clear within 2 GHz, set beyond 5 GHz. -/
def sweptMask (sweep : List ColourSweep) (q : Nat) : Nat :=
  (List.range 16).foldl (fun q c =>
    let e := match sweep[c]? with | some y => y.error.natAbs | none => 0
    if e ≤ 2 then putBits q c c 0 else if 5 < e then putBits q c c 1 else q) q

/-- RECAL_SWEEP_END: a sweep of the 16 colours ends (R256, R260). -/
def execRecalSweepEnd (n l : Nat) (sweep : List ColourSweep) (s : State) := s.act fun d =>
  if decide (n < 6) && decide (l < 32) && d.laneState n l == 4 && ((d.drift n).lane l).returnAt.isNone && sweep.length == 16 then
    let q := sweptMask sweep (d.fld (DR_LANE_STAT_qmask n l))
    let run := if q = 0 then 0 else min 3 (d.fld (DR_LANE_STAT_fail_run n l) + 1)
    let found := (List.range 16).flatMap fun c => match sweep[c]? with | some y => d.sweptEntries n l c y | none => []
    let d := (d.setFld (DR_LANE_STAT_qmask n l) q).setFld (DR_LANE_STAT_fail_run n l) run
    let d := (d.modLane n l fun x => { x with written := found }).driftCauses n
    if 2 < popCount 16 q ∨ run = 3 then d.failLane n l
    else d.modLane n l fun x => { x with returnAt := some (d.frame + 128) }
  else d

/-- RECAL_RETURN: the lane returns to service at its boundary, or to HOLD while its port holds (R256, R261). -/
def execRecalReturn (n l : Nat) (s : State) := s.act fun d =>
  if decide (n < 6) && decide (l < 32) && d.laneState n l == 4 &&
      (match ((d.drift n).lane l).returnAt with | some f => decide (f ≤ d.frame) | none => false) then
    let d := d.writeContour n l
    let d := if (d.drift n).holding then d.setLaneState n l 3 else d.serveLane n l
    (d.setFld (DR_LANE_STAT_last_recal n l) (d.frame % 2 ^ 16)).modLane n l fun x =>
      { x with returnAt := none, checking := (d.drift n).releasing }
  else d

/-- Frames of a recalibration period. -/
def Dev.recalPeriod (d : Dev) (n : Nat) : Nat := d.fld (DR_RECAL_PERIOD_seconds n) * 9765625 / 2

/-- How many scheduled points of a lane lie at or before a frame. -/
def recalPoints (period l f : Nat) : Nat := if period = 0 then 0 else (f + period - period * l / 32) / period

/-- AUTO_RECAL: the lane's scheduled point in the period has come (R258). -/
def execAutoRecal (n l : Nat) (s : State) := s.act fun d =>
  let per := d.recalPeriod n
  let x := (d.drift n).lane l
  if decide (n < 6) && decide (l < 32) && d.flag (DR_CTRL_enable n) && d.flag (DR_CTRL_auto_recal n) &&
      decide (recalPoints per l x.lastRecal < recalPoints per l d.frame) then
    (d.modLane n l fun x => { x with lastRecal := d.frame }).askRecal n l
  else d

/-! ### Hold -/

/-- Every lane of a port in SERVICE or RECAL enters HOLD (R251, R259). -/
def Dev.holdLanes (d : Dev) (n : Nat) : Dev :=
  (List.range 32).foldl (fun d l =>
    if d.laneState n l = 2 then (d.setLaneState n l 3).modLane n l fun x => { x with checking := (d.drift n).releasing }
    else if d.laneState n l = 4 then (d.breakRecal n l).setLaneState n l 3
    else d) d

/-- A port starts to hold, or holds again while its lanes are being checked (R251, R253). -/
def Dev.startHold (d : Dev) (n : Nat) : Dev :=
  let again := (d.drift n).holding
  let d := (d.modDrift n fun x => { x with holding := true, releasing := false, calm := 0 }).holdLanes n
  let d := (List.range 32).foldl (fun d l => d.modLane n l fun x =>
    { x with checking := x.checking && x.cold, checked := if x.cold then x.checked else none }) d
  let d := d.holdCause n
  let both := match d.pairPort n with | some q => (d.drift q).holding | none => false
  if !again && both then d.raise (0x78 + n) 2 (portDetail n 0 0) 0 else d

/-- SLOPE_CHECK: every 10 us, T_chip and its slope over 250 us (R251); while the port holds, a lane that has come into SERVICE
holds too. -/
def execSlopeCheck (n : Nat) (s : State) := s.act fun d =>
  if !(decide (n < 6) && d.driftFitted n) then d
  else match highest ((List.range 8).filterMap (d.driftSensor n)) with
    | none => d
    | some t =>
      let hist := (t :: (d.drift n).chip).take 26
      let slope : Int := match hist[25]? with | some o => 4 * (t - o) | none => 0
      let d := d.modDrift n fun x => { x with chip := hist }
      let j := ((List.range 8).find? fun j => d.driftSensor n j == some t).getD 0
      let d := ((d.setSfld (DR_TEMP_temp n) t).setSfld (DR_TEMP_slope n) (clampI slope (-32768) 32767)).setFld (DR_TEMP_sensor n) j
      if !d.flag (DR_CTRL_enable n) then d
      else if d.fld (DR_THRESH_hold_slope n) * 4 < slope.natAbs then d.startHold n
      else
        let calm := slope.natAbs ≤ d.fld (DR_THRESH_release_slope n) * 4
        let d := if (d.drift n).holding then d.holdLanes n else d
        d.modDrift n fun x => { x with calm := if calm then x.calm + 1 else 0 }

/-- A lane leaves HOLD: to SERVICE when its check passed, else to RECAL; a discarded sweep is repeated (R253, R254, R259). -/
def Dev.releaseLane (d : Dev) (n l : Nat) (pass : Bool) : Dev :=
  let again := ((d.drift n).lane l).discarded
  let d := d.modLane n l fun x => { x with cold := false, okFor := 0, checking := false, checked := none, discarded := false }
  if pass && !again then d.serveLane n l else d.toRecal n l

/-- Whether a lane holds with its port. -/
def Dev.slopeHeld (d : Dev) (n l : Nat) : Bool := d.laneState n l == 3 && !((d.drift n).lane l).cold

/-- Once every lane that holds with its port has been checked, the port leaves HOLD and its lanes are released (R253). -/
def Dev.endHold (d : Dev) (n : Nat) : Dev :=
  if (d.drift n).releasing && !((List.range 32).any fun l => d.slopeHeld n l && ((d.drift n).lane l).checking) then
    let d := d.modDrift n fun x => { x with holding := false, releasing := false }
    ((List.range 32).foldl (fun d l => match ((d.drift n).lane l).checked with
      | some pass => if d.slopeHeld n l then d.releaseLane n l pass else d
      | none => d) d).holdCause n
  else d

/-- HOLD_RELEASE: after 100 us of low slope the port's lanes start their colour check (R253). -/
def execHoldRelease (n : Nat) (s : State) := s.act fun d =>
  if decide (n < 6) && (d.drift n).holding && !(d.drift n).releasing && decide (10 ≤ (d.drift n).calm) then
    let d := d.modDrift n fun x => { x with releasing := true }
    Dev.endHold ((List.range 32).foldl (fun d l =>
      if d.slopeHeld n l then d.modLane n l fun x => { x with checking := true, checked := none } else d) d) n
  else d

/-- LANE_HOLD_RELEASE: a lane that held for its temperature starts its colour check (R254). -/
def execLaneHoldRelease (n l : Nat) (s : State) := s.act fun d =>
  let x := (d.drift n).lane l
  if decide (n < 6) && decide (l < 32) && d.laneState n l == 3 && x.cold && decide (10 ≤ x.okFor) &&
      (!(d.drift n).holding || decide (10 ≤ (d.drift n).calm)) then
    d.modLane n l fun x => { x with checking := true }
  else d

/-- COLOUR_CHECK_END: a holding lane is released, or goes to RECAL; while its port holds the result waits for the port (R253, R254). -/
def execColourCheckEnd (n l : Nat) (pass : Bool) (s : State) := s.act fun d =>
  if decide (n < 6) && decide (l < 32) && d.laneState n l == 3 && ((d.drift n).lane l).checking then
    if (d.drift n).holding then
      (d.modLane n l fun x => { x with checking := false, cold := false, okFor := 0, checked := some pass }).endHold n
    else (d.releaseLane n l pass).holdCause n
  else d

/-! ### Lane states -/

/-- Clearing DR_CTRL.enable: every lane to OFF, and the disable and fail bits that loopback set clear (R262 step 1). -/
def Dev.driftOff (d : Dev) (n : Nat) : Dev :=
  let fail := d.fld (FB_LOOP_fail n)
  let d := (List.range 32).foldl (fun d l =>
    let d := (d.setLaneState n l 0).modLane n l fun x =>
      { x with cold := false, checking := false, checked := none, returnAt := none, wantRecal := false, discarded := false,
               written := [] }
    if bitAt fail l then d.setFld (DR_LANE_CTRL_disable n l) 0 else d) d
  let d := (d.setFld (FB_LOOP_fail n) 0).setFld (DR_CTRL_enable n) 0
  let d := d.modDrift n fun x => { x with holding := false, releasing := false, calm := 0 }
  Dev.holdCause { d with fab := { d.fab with looped := d.fab.looped.filter (· != n), leftLoop := smDel d.fab.leftLoop n } } n

/-- In a two-dimensional sheet the lasers of drifts 4 and 5 stay off (R8). -/
def Dev.keepsDark (d : Dev) (n : Nat) : Bool :=
  decide (4 ≤ n) && (match d.fab.map with | some m => m.twoD && m.has d.fid | none => false)

/-- Setting DR_CTRL.enable from 0: every lane to CAL (R261, R262 step 2), unless R8 keeps the drift dark. -/
def Dev.driftOn (d : Dev) (n : Nat) : Dev :=
  let d := if d.keepsDark n then d
    else (List.range 32).foldl (fun d l => d.setLaneState n l 1) d
  d.setFld (DR_CTRL_enable n) 1

/-- A write to DR_CTRL (Table 7-8, R411): the check passes when the active bank has been loaded. -/
def Dev.drCtrlW (d : Dev) (n : Nat) (v : Word64) : WriteRes :=
  let on := d.flag (DR_CTRL_enable n)
  let want := bitAt v.toNat 0
  if want && !on && !(d.drift n).loaded then d.refuse (DR_CTRL n) CFG_RANGE
  else
    let d := d.setFld (DR_CTRL_auto_recal n) (wget v 1 1)
    if want && !on then (d.driftOn n, OK)
    else if !want && on then (d.driftOff n, OK)
    else (d, OK)

def execDrCtrlEnable (n : Nat) (v : Word64) (s : State) := s.actLegend fun d =>
  d.ownWrite (DR_CTRL n) v (decide (n < 6)) fun d => d.drCtrlW n v

/-- LANE_CAL_DONE: the CAL check of a lane ends: SERVICE, or RECAL when it failed (Table 7-7). -/
def execLaneCalDone (n l : Nat) (pass : Bool) (s : State) := s.act fun d =>
  if decide (n < 6) && decide (l < 32) && d.laneState n l == 1 && ((d.drift n).lane l).checked == none then
    if pass then d.serveLane n l else (d.modLane n l fun x => { x with checked := some false }).toRecal n l
  else d

/-- DRIFT_RETEST commands that wait for the loopback of a port complete with the lanes that failed. -/
def Dev.endRetests (d : Dev) (p : Nat) : Dev :=
  (d.cp.cmds.filter fun c => c.opcode == 0x0702 && c.phase == .running && c.aux == [p]).foldl
    (fun d c => d.completeLocal c OK (d.fld (FB_LOOP_fail p)) 0 0 false) d

/-- Whether the loopback stage of a port is due: no lane is on its way to SERVICE, and some lane is there (R262, R269). -/
def Dev.loopbackDue (d : Dev) (p : Nat) : Bool :=
  decide (p < 6) && d.driftFitted p && d.flag (DR_CTRL_enable p) && !d.fab.looped.contains p &&
  !((List.range 32).any fun l => d.laneState p l == 1 || d.laneState p l == 3 || d.laneState p l == 4) &&
  (List.range 32).any fun l => d.laneState p l == 2

/-- A lane whose cells did not come back: disabled, and reported (R262). -/
def Dev.loopFail (d : Dev) (p l : Nat) : Dev :=
  (((d.setFld (DR_LANE_CTRL_disable p l) 1).setBit (FB_LOOP_fail p) l true).setLaneState p l 6).raise (0x88 + p) 1 (portDetail p l 0) 0

/-- LOOPBACK_STAGE: each lane's cells on c0 return or not; a lane that fails is disabled (R262, R269).  The delay that they show is
free, in GD_RANGE_p_0 (Table 2-18). -/
def execLoopbackStage (p : Nat) (returned : BitVec 32) (s : State) := s.act fun d =>
  if d.loopbackDue p then
    let d := (List.range 32).foldl (fun d l => if d.laneState p l == 2 && !bitAt returned.toNat l then d.loopFail p l else d) d
    let d := if d.isZb p then d else (d.draw 1).setFld ⟨GD_RANGE p 0, 21, 0⟩ ((d.freeAt 0).toNat &&& 0x3F7FDF)
    Dev.endRetests (Dev.driftCauses { d with fab := { d.fab with
      looped := d.fab.looped ++ [p], leftLoop := smSet d.fab.leftLoop p d.frame } } p) p
  else d

/-- A write to DR_LANE_CTRL_l (Table 7-15, R257, R260 to R262): disable takes a lane in SERVICE to DISABLED, and any other once it gets
there. -/
def Dev.drLaneW (d : Dev) (n l : Nat) (v : Word64) : WriteRes :=
  let off := DR_LANE_CTRL n l
  let old := d.flag (DR_LANE_CTRL_disable n l)
  let dis := bitAt v.toNat 0
  if old && !dis && d.bit (FB_LOOP_fail n) l && d.flag (DR_CTRL_enable n) then d.refuse off CFG_CONFLICT
  else
    let d := d.setFld (DR_LANE_CTRL_disable n l) (b2n dis)
    let d := if dis && d.laneState n l == 2 then (d.setLaneState n l 6).modLane n l fun x => { x with wantRecal := false }
      else if !dis && d.laneState n l == 6 then d.setLaneState n l 1
      else d
    let d := if bitAt v.toNat 1 && d.laneState n l == 5 then d.toRecal n l
      else if bitAt v.toNat 1 || bitAt v.toNat 2 then d.askRecal n l
      else d
    (d.holdCause n, OK)

def execDrLaneRecal (n l : Nat) (v : Word64) (s : State) := s.act fun d =>
  d.ownWrite (DR_LANE_CTRL n l) v (decide (n < 6) && decide (l < 32) && bitAt v.toNat 1) fun d => d.drLaneW n l v
def execDrLaneUnquar (n l : Nat) (v : Word64) (s : State) := s.act fun d =>
  d.ownWrite (DR_LANE_CTRL n l) v (decide (n < 6) && decide (l < 32) && bitAt v.toNat 2) fun d => d.drLaneW n l v
def execDrLaneDisable (n l : Nat) (v : Word64) (s : State) := s.act fun d =>
  d.ownWrite (DR_LANE_CTRL n l) v (decide (n < 6) && decide (l < 32)) fun d => d.drLaneW n l v

/-- A drift reset (Table 1-8): every lane OFF, enable 0, the lane counters cleared; what a table, a commit and the sensors hold
stays. -/
def Dev.driftReset (d : Dev) (n : Nat) : Dev :=
  let d := d.driftOff n
  ((List.range 32).foldl (fun d l =>
    (((((d.setReg (DR_LANE_FERR n l) 0).setReg (DR_LANE_RXP n l) 0).setReg (DR_LANE_ERR n l) 0).setReg (DR_LANE_EVT n l) 0).setReg
      (DR_LANE_STAT n l) 0).modLane n l fun x => { tPrev := x.tPrev }) d).driftCauses n

/-! ### Misdelivery -/

/-- MISDELIVERY_NOTICE_SEND: the notice waits as a bell record for the sender (R247, Table 7-6). -/
def execMisdeliveryNoticeSend (id : Nat) (s : State) := s.act fun d =>
  match d.net.notices.find? (·.id == id) with
  | none => d
  | some n =>
    let pl := leBytes 4 d.fid ++ leBytes 1 n.port ++ leBytes 1 n.lane ++ leBytes 1 n.slot ++ leBytes 1 n.colour ++
      leBytes 8 n.frame ++ n.header
    Dev.bell { d with net := { d.net with notices := d.net.notices.filter (·.id != id) } } n.port n.coord kMisdelivery pl

/-- The operation that sent a cell is still waiting: it ends with a reason (R248). -/
def Dev.endSender (d : Dev) (h : Cell) (reason : Nat) : Dev :=
  if h.hops ≠ 0 ∨ h.src ≠ d.fid then d
  else if h.cls < 2 ∧ h.rowType < 8 then
    match d.row.reqs.find? fun r => r.sent && r.seq == h.seq && d.memberFid r.member == h.dst with
    | some r => d.answer r (.fail reason)
    | none => d
  else if h.cls = 2 ∧ h.msgType = 0 then
    match d.row.msgs.find? fun m => m.sent && m.seq == h.seq && m.dst == h.dst with
    | some m => d.endMsg m reason
    | none => d
  else d

end Sys2Proof.Machine
end

