-- ==== Sys2Proof/Machine/Service.lean ====
section
/-!
DEFINITION. Sys2Proof/Machine/Service.lean: starting, stopping and resetting cores (R152, R153, R187, R188, R191, R196), reset domains
(R40, R150, R208), spares (R190), clusters and dies that leave and return, and stacks of HBM (R196 to R200, R517).
-/

namespace Sys2Proof.Machine

/-! ### A core starts, resumes and stops -/

/-- The first failure of the check of R191, OK when it passes. -/
def Dev.runCheck (d : Dev) (k : Nat) : Nat :=
  let st := d.coreState k
  if st = 1 ∨ st = 6 then BUSY_RUNNING else if st = 5 then ABSENT_UNIT
  else if 8191 < d.fld (SQ_ENTRY_pc k) then CFG_RANGE else OK

/-- A core that leaves its state runs on the new sequencer microcode from then on (Table 14-5). -/
def Dev.onNewCode (d : Dev) (k : Nat) : Dev :=
  { d with fw := { d.fw with handovers := d.fw.handovers.map fun h => { h with oldCores := h.oldCores.filter (· != k) } } }

/-- The program of core k starts (R153), and the first start locks the interleave (R196). -/
def Dev.startCore (d : Dev) (k : Nat) : Dev :=
  let d := d.modCore k fun c => { c with
    s := ((List.range 8).foldl (fun m i => smPut (fun _ => (0 : Word64)) m (i + 1) (c.args.getD i 0)) [])
    swTrap := false, loadId := 0, waitFrom := d.frame }
  let d := (d.setReg (SQ_TRAP k) 0).setReg (SQ_TRAP_ADDR k) 0
  let d := ((d.setReg (SQ_SEM k) 0).setFld (SQ_STATUS_pc k) (d.fld (SQ_ENTRY_pc k))).setFld (SQ_STATUS_wait k) 0
  (((d.setFld (SQ_STATUS_state k) 1).setFld (SQ_CTRL_run k) 1).setFld HF_HBM_MODE_lock 1).onNewCode k

/-- Setting run: the check of R191, then the start; a refusal stands in SQ_STATUS.reason (R411). -/
def Dev.runCore (d : Dev) (k : Nat) : WriteRes :=
  let r := d.runCheck k
  if r = OK then (d.startCore k, OK)
  else ((d.setFld (SQ_STATUS_reason k) r).setFld (SQ_CTRL_run k) (b2n (d.coreState k == 1)), r)

/-- Setting resume: only from state 2 after TRAP (R188). -/
def Dev.resumeCore (d : Dev) (k : Nat) : Dev :=
  if d.coreState k = 2 ∧ (d.core k).swTrap then
    let last := d.fld (SQ_TRAP_pc k) == 8191
    let d := ((d.modCore k fun c => { c with swTrap := false }).setFld (SQ_STATUS_state k) 1).setFld (SQ_CTRL_run k) 1
    if last then d.trap k trapAddr 0 8191 8192 else d
  else d

/-- A write to SQ_CTRL: stop, resume, and run when it was 0 as the write arrived (Table 5-16).  R24 refuses clearing run while
the core runs, so a running core is stopped by a write that leaves run set. -/
def Dev.sqCtrlW (d : Dev) (k : Nat) (v : Word64) : WriteRes :=
  let set := bitAt v.toNat 0 && !d.flag (SQ_CTRL_run k)
  let d := if bitAt v.toNat 2 then d.stopCore k else d
  let d := if bitAt v.toNat 1 then d.resumeCore k else d
  if set && !d.flag (SQ_CTRL_run k) then d.runCore k else (d, OK)

/-- Whether a written value sets run. -/
def Dev.setsRun (d : Dev) (k : Nat) (v : Word64) : Bool := decide (k < 960) && bitAt v.toNat 0 && !d.flag (SQ_CTRL_run k)

def execSqCtrlRun (k : Nat) (v : Word64) (s : State) := s.actLegend fun d =>
  d.ownWrite (SQ_CTRL k) v (d.setsRun k v) fun d => d.sqCtrlW k v
def execSqCtrlStop (k : Nat) (v : Word64) (s : State) := s.act fun d =>
  d.ownWrite (SQ_CTRL k) v (decide (k < 960) && bitAt v.toNat 2 && !d.setsRun k v) fun d => d.sqCtrlW k v
def execSqCtrlResume (k : Nat) (v : Word64) (s : State) := s.act fun d =>
  d.ownWrite (SQ_CTRL k) v (decide (k < 960) && bitAt v.toNat 1 && !bitAt v.toNat 2 && !d.setsRun k v) fun d => d.sqCtrlW k v

/-- SQ_SR_SEED: stream l starts from the seed exclusive-or its multiple (R98). -/
def Dev.srSeedW (d : Dev) (k : Nat) (v : Word64) : WriteRes :=
  let d := d.setReg (SQ_SR_SEED k) v
  (d.modCore k fun c => (List.range 256).foldl (fun c l => c.setStream l (streamSeed v l)) c, OK)

def execSqSrSeedWrite (k : Nat) (v : Word64) (s : State) := s.act fun d =>
  d.ownWrite (SQ_SR_SEED k) v (decide (k < 960)) fun d => d.srSeedW k v

/-! ### Resets of cores, clusters and dies -/

/-- The offset of the page of package core k. -/
def corePage (k : Nat) : Nat := 0x10400000 + dieOf k * 0x1000000 + localOf k * 0x1000

/-- Everything of core k ends: its accesses and copies go on without it (R179). -/
def Dev.detachCore (d : Dev) (k : Nat) : Dev :=
  let d := d.leaveBarriers k
  { d with row := { d.row with
      accesses := d.row.accesses.map fun a => if a.core == k then { a with live := false } else a
      copies := d.row.copies.map fun c => if c.core == k then { c with live := false } else c } }

/-- Core k as a reset leaves it, in a state: registers at reset, everything it holds 0 (R150, R151, R166). -/
def Dev.blankCore (d : Dev) (k st : Nat) : Dev :=
  let d := (d.detachCore k).resetRegs (corePage k) (corePage k + 0x1000)
  ((d.setCore k Core.fresh).zeroKeys (scratchWindow k) (scratchWindow k + 2 ^ 21)).setFld (SQ_STATUS_state k) st

/-- A core reset: a core in service is initialising until MEMORY_INIT_DONE. -/
def Dev.resetCore (d : Dev) (k : Nat) : Dev := if d.coreState k = 5 then d else d.blankCore k 6

def coresOfCluster (die c : Nat) : List Nat := (List.range 10).map fun i => die * 80 + c * 10 + i
def coresOfDie (die : Nat) : List Nat := (List.range 80).map fun i => die * 80 + i

def clusterWindow (die c : Nat) : Nat := scratchBase + die * 2 ^ 29 + 2 ^ 28 + c * 2 ^ 24

def Dev.clearCluster (d : Dev) (die c : Nat) : Dev := d.zeroKeys (clusterWindow die c) (clusterWindow die c + 2 ^ 24)

/-- Mark cluster memory as being initialised. -/
def Dev.initCluster (d : Dev) (die c : Nat) : Dev :=
  let d := d.clearCluster die c
  let k := die * 8 + c
  { d with ram := { d.ram with clusterInit := if d.ram.clusterInit.contains k then d.ram.clusterInit else k :: d.ram.clusterInit } }

def Dev.resetCluster (d : Dev) (die c : Nat) : Dev := ((coresOfCluster die c).foldl Dev.resetCore d).initCluster die c

def Dev.clearSeam (d : Dev) (die : Nat) : Dev := d.zeroKeys (seamBase + die * 2 ^ 30) (seamBase + (die + 1) * 2 ^ 30)

/-- A compute-die reset: its cores, cluster memories and seam. -/
def Dev.resetDie (d : Dev) (die : Nat) : Dev :=
  let d := ((List.range 8).foldl (fun d c => d.resetCluster die c) d).clearSeam die
  { d with ram := { d.ram with seamInit := if d.ram.seamInit.contains die then d.ram.seamInit else die :: d.ram.seamInit } }

/-! ### Spares and units in service -/

/-- Change the record of service. -/
def Dev.modSvc (d : Dev) (f : SvcSt → SvcSt) : Dev := { d with svc := f d.svc }

/-- The spare of a cluster takes logical position p. -/
def Dev.useSpare (d : Dev) (die c p : Nat) : Dev := (d.setFld (SQ_REMAP_active die c) 1).setFld (SQ_REMAP_position die c) p

/-- The physical core that serves a logical position. -/
def Dev.servedBy (d : Dev) (die c p : Nat) : Nat :=
  if d.spareActive die c && d.fld (SQ_REMAP_position die c) == p then physOf die c 10 else physOf die c p

/-- A position whose physical core has failed gets the spare, or leaves service; other positions are idle (R475). -/
def Dev.placeCore (d : Dev) (die c p : Nat) : Dev :=
  let k := die * 80 + c * 10 + p
  if !d.svc.failed.contains (d.servedBy die c p) then d.setFld (SQ_STATUS_state k) 0
  else if !d.spareActive die c && d.spareGood die c then (d.useSpare die c p).setFld (SQ_STATUS_state k) 0
  else d.setFld (SQ_STATUS_state k) 5

/-- The cause of a core BIST source: a logical core of the die has no working physical core (Table 12-1). -/
def Dev.bistCause (d : Dev) (die : Nat) : Dev :=
  d.setActive (0x98 + die) (d.dieUp die && (List.range 8).any fun c => !d.svc.clustersOff.contains (die * 8 + c) &&
    (List.range 10).any fun p => d.svc.failed.contains (d.servedBy die c p))

/-- Every position of a cluster, its memory initialised. -/
def Dev.placeCluster (d : Dev) (die c : Nat) : Dev :=
  let d := (coresOfCluster die c).foldl (fun d k => d.blankCore k 5) d
  let d := (List.range 10).foldl (fun d p => d.placeCore die c p) d
  (d.clearCluster die c).modSvc fun v => { v with clustersOff := v.clustersOff.filter (· != die * 8 + c) }

end Sys2Proof.Machine
end

