-- ==== Sys2Proof/Machine/Cmd.lean ====
section
/-!
DEFINITION. Sys2Proof/Machine/Cmd.lean: the command processor (R382 to R398, R404, R405, R407 to R410, R416): doorbells, the checks of
a command, its beginning and its completion, queue pairs, events, remote commands and the host interface.
-/

namespace Sys2Proof.Machine

/-! ### Opcodes (Table 11-8) -/

/-- The queues an opcode may use. -/
inductive OpQueue where
  | any | admin | urgent
  deriving DecidableEq, Repr

/-- What Table 11-8 gives an opcode: its queue, whether it may be remote, and the bits its parameter words use. -/
structure OpInfo where
  queue : OpQueue
  remote : Bool
  used : List Nat
  deriving DecidableEq, Repr

/-- Bits [hi:lo] as a mask. -/
def bitMask (hi lo : Nat) : Nat := 2 ^ (hi + 1) - 2 ^ lo

/-- A parameter word used whole. -/
def wholeWord : Nat := 2 ^ 64 - 1

/-- Whether an opcode is of class 0x08, and of Table 11-8. -/
def opInfo (op p0 : Nat) : Option OpInfo :=
  let w := wholeWord
  let low (n : Nat) : Nat := bitMask (n - 1) 0
  let any (r : Bool) (u : List Nat) : Option OpInfo := some ⟨.any, r, u⟩
  let adm (u : List Nat) : Option OpInfo := some ⟨.admin, false, u⟩
  match op with
  | 0x0100 => any true []
  | 0x0101 => any false [w]
  | 0x0102 => adm [w, w, low 12 + bitMask 27 16 + bitMask 37 32 + bitMask 40 40 + bitMask 53 48, low 8 + bitMask 31 16]
  | 0x0103 => adm [low 6]
  | 0x0104 => some ⟨if p0 % 8 = 0 then .admin else .any, true, [low 3 + bitMask 14 8 + bitMask 23 16]⟩
  | 0x0105 => any true [w, w]
  | 0x0106 => any false []
  | 0x0200 => any false [w, w, w, low 3 + bitMask 47 32]
  | 0x0201 => any false [w, w, w]
  | 0x0202 => any false [w, w, low 5 + bitMask 8 8, w]
  | 0x0203 => any false [low 32]
  | 0x0300 => any false [w, w, w, w, low 14]
  | 0x0301 => any true [w]
  | 0x0302 => any false [low 4 + bitMask 14 8]
  | 0x0303 => any false [low 7 + bitMask 11 8]
  | 0x0304 => any false [low 1 + bitMask 14 8]
  | 0x0305 => any false [low 1 + bitMask 14 8]
  | 0x0400 => any false [w, w, w]
  | 0x0401 => some ⟨.urgent, false, [low 20]⟩
  | 0x0402 => any false [low 20]
  | 0x0403 => any false [low 20]
  | 0x0500 => any false [w]
  | 0x0501 => some ⟨.urgent, true, [low 12, low 32]⟩
  | 0x0502 => any false [low 12, low 32]
  | 0x0600 => any true [low 8]
  | 0x0601 => any false [w, w]
  | 0x0602 => any false [w, w, low 8]
  | 0x0700 => any false [low 3]
  | 0x0701 => any false [low 3]
  | 0x0702 => any false [low 3]
  | 0x0800 => adm [low 4, w, w]
  | 0x0801 => adm [low 4, w]
  | 0x0802 => any false [w, w, w]
  | 0x0803 => any false [w, w]
  | 0x0804 => adm [w, w]
  | 0x0805 => adm [low 4, low 32]
  | 0x0900 => any false [w, w]
  | 0x0901 => any true [low 16]
  | _ => none

/-- A core selection word as the cores it names (Table 11-7); none when it breaks the table. -/
def selCores (p : Nat) : Option (List Nat) :=
  let first := bitsOf p 22 16; let n := bitsOf p 30 24 + 1
  if p / 2 ^ 31 ≠ 0 ∨ bitAt p 23 ∨ bitsOf p 15 12 ≠ 0 ∨ 80 < first + n then none
  else some (((List.range 12).filter (bitAt p ·)).flatMap fun die => (List.range n).map fun i => die * 80 + first + i)

/-! ### Queue pairs -/

def Dev.qp (d : Dev) (q : Nat) : Option QPair := d.cp.qps.find? (·.q == q)
def Dev.modCp (d : Dev) (f : CpSt → CpSt) : Dev := { d with cp := f d.cp }
def Dev.modQp (d : Dev) (q : Nat) (f : QPair → QPair) : Dev :=
  d.modCp fun c => { c with qps := c.qps.map fun x => if x.q == q then f x else x }

/-- Commands of a queue pair that are not yet completed. -/
def Dev.queueCmds (d : Dev) (q : Nat) : List Cmd := d.cp.cmds.filter (·.origin == .queue q)

/-- Whether a command has begun; a LAUNCH that has reserved its cores has (R402). -/
def Cmd.hasBegun (c : Cmd) : Bool := c.phase != .held || !c.aux.isEmpty

/-- CP_QP_q.begun. -/
def Dev.begunCount (d : Dev) (q : Nat) : Nat := ((d.queueCmds q).filter Cmd.hasBegun).length

/-- Whether the completion ring of a queue pair has no free entry (R395): a ring of n entries holds n - 1. -/
def Dev.ringFull (d : Dev) (x : QPair) : Bool := (d.fld (CP_QP_cq_tail x.q) + 1) % x.cqSize == x.cqHead

/-! ### Doorbells (R390, R393) -/

/-- Whether a doorbell write names an index of a ring. -/
def doorbellOk (size : Nat) (value : Word64) (ring : Nat) : Bool :=
  (size == 4 || size == 8) && decide (value.toNat < 4096) && decide (value.toNat < ring)

/-- A doorbell write: recorded as a host error unless it is right. -/
def Dev.doorbell (d : Dev) (q off size : Nat) (value : Word64) (ring : QPair → Nat) (f : QPair → QPair) : Dev :=
  if !d.ready || d.cp.d3hot || decide (64 ≤ q) then d
  else match d.qp q with
    | some x => if doorbellOk size value (ring x) then d.modQp q f else d.hostErr 4 off
    | none => d.hostErr 4 off

/-- CQ_HEAD_DOORBELL: completion entries are free again. -/
def execCqHeadDoorbell (q size : Nat) (value : Word64) (s : State) := s.act fun d =>
  d.doorbell q (0x200 + 8 * q) size value (·.cqSize) fun x => { x with cqHead := value.toNat }

/-! ### Completion -/

/-- A completion entry (Table 11-6). -/
def cplBytes (tag reason head frame w0 w1 w2 q : Nat) (poison phase : Bool) : List Byte :=
  leBytes 4 tag ++ leBytes 2 reason ++ leBytes 2 head ++ leBytes 8 frame ++ leBytes 4 w0 ++ leBytes 4 w1 ++ leBytes 4 w2 ++
    leBytes 1 q ++ leBytes 1 (b2n poison) ++ [0] ++ leBytes 1 (b2n phase)

def kRemoteCmd : Nat := 0x30
def kRemoteCpl : Nat := 0x31

/-- A command completes: on its queue, in a REMOTE_CPL to its origin (R409), or in silence. -/
def Dev.complete (d : Dev) (c : Cmd) (reason : Nat) (w0 w1 w2 : Nat := 0) (poison : Bool := false) : Dev :=
  match c.origin with
  | .remote src seq =>
    let e := cplBytes c.tag reason 0 d.frame (w0 % 2 ^ 32) (w1 % 2 ^ 32) (w2 % 2 ^ 32) 0 poison false
    ((d.dropCmd c.id).countSat (if reason = OK then CP_CMD_CNT_ok else CP_CMD_CNT_failed) 1).bellVia kRemoteCpl
      (leBytes 4 d.fid ++ leBytes 4 seq ++ leBytes 4 src ++ zeros 4 ++ e) ⟨d.fid, src, 0, 0⟩
  | _ => d.completeLocal c reason w0 w1 w2 poison

/-- A queue pair being deleted that has nothing begun and nothing to post is removed, and QP_DELETE completes (R405). -/
def Dev.endDelete (d : Dev) (c : Cmd) : Dev :=
  match c.aux with
  | [q, n] =>
    if d.begunCount q == 0 && !(d.cp.cpls.any (·.q == q)) then
      ((d.modCp fun x => { x with qps := x.qps.filter (·.q != q) }).setReg (CP_QP q) 0).complete c OK n
    else d
  | _ => d

def Dev.endDeletes (d : Dev) : Dev :=
  (d.cp.cmds.filter fun c => c.opcode == 0x0103 && c.phase == .running).foldl Dev.endDelete d

/-! ### MSI-X (R384) -/

/-- The MSI-X table at reset: every vector masked. -/
def msixReset (off : Nat) : Word64 := if off % 16 = 8 then BitVec.ofNat 64 (2 ^ 32) else 0

/-- The word of the table at a BAR0 offset: address in the first word of an entry, data and the mask bit in the second. -/
def Dev.msixWord (d : Dev) (off : Nat) : Word64 := smGet msixReset d.cp.msixTable off
def Dev.msixMasked (d : Dev) (v : Nat) : Bool := (d.msixWord (0x1008 + 16 * v)).getLsbD 32

/-- What a host read of BAR0 returns: the table and the pending bit array; the doorbells read 0. -/
def Dev.bar0Read (d : Dev) (off : Nat) : Word64 :=
  if 0x1000 ≤ off ∧ off < 0x1400 then d.msixWord (off / 8 * 8) else if off / 8 * 8 = 0x2000 then d.cp.msixPending else 0

/-- A vector's message is sent, or pends while the vector is masked. -/
def Dev.interrupt (d : Dev) (v : Nat) : Dev :=
  if d.msixMasked v then d.modCp fun c => { c with msixPending := c.msixPending ||| BitVec.ofNat 64 (2 ^ v) }
  else d.modCp fun c => { c with msix := c.msix ++ [v] }

/-- A host write to a word of the table; an unmasked vector that pends sends its message. -/
def Dev.msixStore (d : Dev) (off : Nat) (x : Word64) : Dev :=
  if d.cp.d3hot || decide (off < 0x1000) || decide (0x1400 ≤ off) || off % 8 != 0 then d
  else
    let v := (off - 0x1000) / 16
    let d := d.modCp fun c => { c with msixTable := smPut msixReset c.msixTable off x }
    if d.cp.msixPending.getLsbD v && !d.msixMasked v then
      Dev.interrupt (d.modCp fun c => { c with msixPending := c.msixPending &&& ~~~(BitVec.ofNat 64 (2 ^ v)) }) v
    else d

/-- A store of the host: to its memory below 2^64, and above to BAR0, at the offset that is left (DESIGN CHOICE, log 135). -/
def Dev.hostStore (d : Dev) (h : Nat × List Byte) : Dev :=
  if h.1 < 2 ^ 64 then d.hostWrite h.1 h.2 else d.msixStore (h.1 - 2 ^ 64) (BitVec.ofNat 64 (ofLe h.2))

/-- SQ_TAIL_DOORBELL: what the host stored before, then the tail. -/
def execSqTailDoorbell (q size : Nat) (value : Word64) (hostStores : List (Nat × List (BitVec 8))) (s : State) := s.act fun d =>
  (hostStores.foldl Dev.hostStore d).doorbell q (8 * q) size value (·.sqSize) fun x => { x with tail := value.toNat }

/-- A completion on a queue pair causes an MSI-X message, at once or when its coalescing count is reached (R399, Table 11-8). -/
def Dev.signal (d : Dev) (x : QPair) : Dev :=
  let n := x.unsignalled + 1
  if x.coalCount ≤ n then
    (d.interrupt (d.fld (CP_QP_vector x.q))).modQp x.q fun x => { x with unsignalled := 0 }
  else d.modQp x.q fun x => { x with unsignalled := n, since := if x.unsignalled = 0 then d.frame else x.since }

/-- COMPLETION_POST: the oldest waiting completion of a queue pair takes a free entry of its ring (R388, R395, R398). -/
def execCompletionPost (q : Nat) (s : State) := s.act fun d =>
  match d.qp q, d.cp.cpls.find? (·.q == q) with
  | some x, some c =>
    if d.ringFull x then d
    else
      let t := d.fld (CP_QP_cq_tail q)
      let d := d.hostWrite (x.cqBase + 32 * t)
        (cplBytes c.tag c.reason (d.fld (CP_QP_sq_head q)) d.frame c.w0 c.w1 c.w2 q c.poison x.phase)
      let t1 := (t + 1) % x.cqSize
      let d := (d.modCp fun y => { y with cpls := y.cpls.erase c }).setFld (CP_QP_cq_tail q) t1
      let d := if c.noIrq then d else d.signal x
      (d.modQp q fun x => { x with phase := if t1 = 0 then !x.phase else x.phase }).endDeletes
  | _, _ => d

/-- COALESCING_TIME_EXPIRY: the time since the first unsignalled completion has run out. -/
def execCoalescingTimeExpiry (q : Nat) (s : State) := s.act fun d =>
  match d.qp q with
  | some x =>
    if x.unsignalled ≠ 0 ∧ x.since + x.coalFrames ≤ d.frame then
      (d.interrupt (d.fld (CP_QP_vector q))).modQp q fun x => { x with unsignalled := 0 }
    else d
  | none => d

/-! ### The checks of R397 -/

/-- Whether a die, a cluster of it, a package core, and a drift stand in the Legend. -/
def Dev.clusterUp (d : Dev) (die c : Nat) : Bool := d.dieUp die && !d.svc.clustersOff.contains (die * 8 + c)

/-- Whether a unit that a command names is absent from the Legend (R3, R397 step 4). -/
def Dev.cmdAbsent (d : Dev) (c : Cmd) : Bool :=
  let p := c.p 0
  let die := bitsOf p 11 8
  match c.opcode with
  | 0x0104 =>
    if p % 8 = 1 then !d.dieUp die
    else if p % 8 = 2 then !d.clusterUp die (bitsOf p 14 12)
    else if p % 8 = 3 then decide (bitsOf p 23 16 < 80) && !d.coreUp (die * 80 + bitsOf p 23 16)
    else if p % 8 = 4 then !d.driftFitted (bitsOf p 14 12)
    else false
  | 0x0105 => decide (regSpaceBase ≤ p) && d.regAbsent (p - regSpaceBase)
  | 0x0300 | 0x0301 => (match selCores p with | some l => l.any (!d.coreUp ·) | none => false)
  | 0x0302 => !d.dieUp (p % 16) || (decide (bitsOf p 14 8 < 80) && !d.clusterUp (p % 16) (bitsOf p 14 8 / 10))
  | 0x0303 => !d.clusterUp (p % 16) (bitsOf p 6 4)
  | 0x0304 => !d.dieUp die
  | 0x0305 => !(d.dieFitted die && d.flag (HF_DIE_STRAP_accepted die) && bitAt (d.fld HF_VEIN_BIST_die) die && !d.pw.deadDies.contains die)
  | 0x0700 | 0x0701 | 0x0702 => !d.driftFitted (p % 8)
  | _ => false

/-- Reserved bytes and bits are 0 (R397 step 2): the packet's, and those of its parameter words. -/
def Cmd.reservedZero (c : Cmd) (used : List Nat) : Bool :=
  decide (c.flags < 32) && !(c.atFrame && c.notBefore) && leAt c.packet 20 4 == 0 &&
  (c.atFrame || c.notBefore || c.frame == 0) && (if c.isRemote then decide (c.target < 2 ^ 20) else c.target == 0) &&
  (List.range 5).all fun i => c.p i &&& (used.getD i 0) == c.p i

/-- The frame of a command meets R77 and R79. -/
def Dev.frameOk (d : Dev) (c : Cmd) : Bool :=
  !(c.atFrame || c.notBefore) ||
    (decide (c.frame ≤ d.frame + 2 ^ 28) && !(c.atFrame && decide (c.frame < d.frame + 64)))

/-- Whether a Sorarn handover is pending, and a frame lies in the window it bars (R486). -/
def Dev.handoverBars (d : Dev) (f : Nat) : Bool :=
  d.fw.handovers.any fun h => h.comp == 0 && !h.switched && decide (h.frame ≤ f + 16) && decide (f ≤ h.frame + 255)

/-- Sorarn has stopped beginning commands before its handover (Table 14-6). -/
def Dev.beginsPaused (d : Dev) : Bool := d.fw.handovers.any fun h => h.comp == 0 && !h.switched && decide (h.frame ≤ d.frame + 16)

/-- Steps 2 to 4 of R397, and what a pending Sorarn handover refuses. -/
def Dev.checkPacket (d : Dev) (c : Cmd) (i : OpInfo) (units : Bool) : Nat :=
  if !c.reservedZero i.used then BAD_FIELD
  else if !d.frameOk c then CFG_RANGE
  else if units && d.cmdAbsent c then ABSENT_UNIT
  else if c.atFrame && d.handoverBars c.frame then CFG_CONFLICT
  else OK

/-- Step 1 of R397 on queue pair q. -/
def Dev.checkOpcode (d : Dev) (c : Cmd) (q : Nat) : Option OpInfo :=
  match opInfo c.opcode (c.p 0) with
  | none => none
  | some i =>
    let here := match i.queue with
      | .any => true
      | .admin => q == 0
      | .urgent => d.flag (CP_QP_urgent q)
    if here && (i.remote || !c.isRemote) then some i else none

/-- Add a command. -/
def Dev.addCmd (d : Dev) (c : Cmd) : Dev := d.modCp fun x => { x with cmds := x.cmds ++ [c] }

/-- A command that passed steps 1 to 4 waits for its frame, or for the switches of the boundary it names (R76), or begins (R77,
R78). -/
def Dev.enterCmd (d : Dev) (c : Cmd) : Dev :=
  d.addCmd { c with
    phase := if c.atFrame || (c.notBefore && (decide (d.frame < c.frame) || d.switchDue)) then .held else .begun
    began := d.nextId }

/-! ### Remote commands (R407 to R410) -/

/-- Why the origin refuses a remote command (R408). -/
def Dev.remoteGate (d : Dev) (t : Nat) : Option Nat := d.rowGate t

/-- Send a remote command to its target; its deadline counts from the later of now and F (R410). -/
def Dev.sendRemote (d : Dev) (c : Cmd) : Dev :=
  match d.remoteGate c.target with
  | some r => d.complete c r
  | none =>
    if c.target = d.fid then d.enterCmd c
    else
      let from_ := if c.atFrame || c.notBefore then max d.frame c.frame else d.frame
      let seq := d.nextId % 2 ^ 32
      (d.bump.addCmd { c with phase := .away seq (from_ + d.fld CP_REMOTE_TIMEOUT_frames) c.target }).bellVia kRemoteCmd
        (leBytes 4 d.fid ++ leBytes 4 seq ++ leBytes 4 c.target ++ zeros 4 ++ c.packet) ⟨d.fid, c.target, 0, seq % 2 ^ 16⟩

/-- A record of kind 0x30 or 0x31 for another device goes on with its hop count raised, up to 7 (R407). -/
def Dev.forwardRemote (d : Dev) (c : Cell) (dst : Nat) : Dev :=
  let h := leAt c.payload 12 1 + 1
  if 7 ≤ h then d else d.bellVia c.bellKind (putLe c.payload 12 1 h) ⟨c.src, dst, h, c.seq⟩

/-- REMOTE_CMD: forwarded, or checked under steps 2 to 5 here (R409). -/
def execRemoteCmd (rx : Nat) (s : State) := s.act fun d =>
  d.onRx rx (isBell kRemoteCmd) fun d r =>
    let d := d.dropRx r
    let pl := r.cell.payload
    if leAt pl 8 4 ≠ d.fid then d.forwardRemote r.cell (leAt pl 8 4)
    else
      let c : Cmd := ⟨d.nextId, .remote (leAt pl 0 4) (leAt pl 4 4), sliceB pl 16 64, .begun, [], 0, false⟩
      let d := d.bump
      if !d.flag CP_CTRL_remote_accept then d.complete c CFG_CONFLICT
      else match opInfo c.opcode (c.p 0) with
        | none => d.complete c BAD_OPCODE
        | some i =>
          let e := d.checkPacket c i true
          if e = OK then d.enterCmd c else d.complete c e

/-- REMOTE_CPL: forwarded, or it completes the command that waits for it (R410); a late one is discarded. -/
def execRemoteCpl (rx : Nat) (s : State) := s.act fun d =>
  d.onRx rx (isBell kRemoteCpl) fun d r =>
    let d := d.dropRx r
    let pl := r.cell.payload
    if leAt pl 8 4 ≠ d.fid then d.forwardRemote r.cell (leAt pl 8 4)
    else match d.cp.cmds.find? fun c => match c.phase with
        | .away seq _ t => seq == leAt pl 4 4 && t == leAt pl 0 4
        | _ => false with
      | some c => d.complete c (leAt pl 20 2) (leAt pl 32 4) (leAt pl 36 4) (leAt pl 40 4) (bitAt (leAt pl 45 1) 0)
      | none => d

/-- REMOTE_CMD_TIMEOUT: no answer in time (R410). -/
def execRemoteCmdTimeout (id : Nat) (s : State) := s.act fun d =>
  match d.findCmd id with
  | some c => (match c.phase with
    | .away _ deadline _ => if deadline ≤ d.frame then d.complete c TIMEOUT_REMOTE else d
    | _ => d)
  | none => d

/-- The remote command that a REMOTE_CMD record carried, by the sequence number in its header, ends with a reason (R248). -/
def Dev.endRemote (d : Dev) (dst seq reason : Nat) : Dev :=
  match d.cp.cmds.find? fun c => match c.phase with
    | .away q _ t => q % 2 ^ 16 == seq && t == dst
    | _ => false with
  | some c => d.complete c reason
  | none => d

/-- Remote commands whose target is fenced in the version in force fail (R410). -/
def Dev.failRemote (d : Dev) : Dev :=
  (d.cp.cmds.filter fun c => match c.phase with | .away _ _ t => d.fenced t | _ => false).foldl
    (fun d c => d.complete c PEER_FENCED) d

/-! ### Beginning -/

/-- The command at the head of a queue pair's ring. -/
def Dev.headCmd (d : Dev) (x : QPair) : Cmd :=
  ⟨d.nextId, .queue x.q, d.hostRead (x.sqBase + 64 * d.fld (CP_QP_sq_head x.q)) 64, .begun, [], 0, false⟩

/-- Whether the entry at the head of a queue pair's ring may be fetched (R80, R394, R395, R405). -/
def Dev.fetchable (d : Dev) (q : Nat) : Bool :=
  match d.qp q with
  | none => false
  | some x =>
    d.flag CP_CTRL_enable && !d.beginsPaused && !x.deleting && d.fld (CP_QP_sq_head q) != x.tail && !d.ringFull x &&
    !(d.queueCmds q).any (·.phase == .held) && decide (d.begunCount q < 256) &&
    (!(d.headCmd x).serial || ((d.queueCmds q).isEmpty && !(d.cp.cpls.any (·.q == q))))

/-- The queue that a group serves next after the one it served last. -/
def turnAfter (last : Nat) (p : Nat → Bool) : Option Nat := ((List.range 64).map fun i => (last + 1 + i) % 64).find? p

/-- The queue whose turn it is with the management core of the urgent class, and with the other three (R392). -/
def Dev.urgentTurn (d : Dev) : Option Nat := turnAfter d.cp.turnUrgent fun q => d.fetchable q && d.flag (CP_QP_urgent q)
def Dev.commonTurn (d : Dev) : Option Nat := turnAfter d.cp.turnAll d.fetchable

/-- The head of a queue pair's ring is fetched, checked under steps 1 to 4 of R397, and begins, waits for its frame, or goes to its
target. -/
def Dev.fetchHead (d : Dev) (x : QPair) : Dev :=
  let c := d.headCmd x
  let d := d.bump.setFld (CP_QP_sq_head x.q) ((d.fld (CP_QP_sq_head x.q) + 1) % x.sqSize)
  match d.checkOpcode c x.q with
  | none => d.complete c BAD_OPCODE
  | some i =>
    let e := d.checkPacket c i !c.isRemote
    if e ≠ OK then d.complete c e
    else if c.isRemote then d.sendRemote c
    else d.enterCmd c

/-- COMMAND_BEGIN: a queue pair whose turn it is in its group, or among all queues, has its head fetched (R392, R394). -/
def execCommandBegin (q : Nat) (s : State) := s.act fun d =>
  match d.qp q with
  | none => d
  | some x =>
    if d.urgentTurn = some q then (d.fetchHead x).modCp fun c => { c with turnUrgent := q }
    else if d.commonTurn = some q then (d.fetchHead x).modCp fun c => { c with turnAll := q }
    else d

/-- AT_FRAME_BEGIN: the boundary that a command waited for has come (R77, R78). -/
def execAtFrameBegin (id : Nat) (s : State) := s.act fun d =>
  match d.findCmd id with
  | some c =>
    if c.phase = .held ∧ c.frame ≤ d.frame ∧ !d.switchDue then d.modCmd id fun c => { c with phase := .begun, began := d.nextId } else d
  | none => d

/-- Run an opcode's own step on a command that has begun. -/
def Dev.onCmd (d : Dev) (id op : Nat) (f : Dev → Cmd → Dev) : Dev :=
  match d.findCmd id with
  | some c => if c.opcode = op ∧ c.phase = .begun then f d c else d
  | none => d

/-- The command goes on after its own step, keeping aux. -/
def Dev.keepCmd (d : Dev) (c : Cmd) (aux : List Nat) : Dev := d.modCmd c.id fun x => { x with phase := .running, aux := aux }

/-- The command processor reaches HBM through the narrow path (R203): the accesses of a command to its ranges (address, length) are
queued once, and the command acts when all of them have started. -/
def Dev.viaNarrow (d : Dev) (c : Cmd) (l : List (Nat × Nat)) (f : Dev → Dev) : Dev :=
  let d := if c.asked then d
    else (l.foldl (fun d x => d.narrowRange (.command c.id) x.1 x.2) d).modCmd c.id fun x => { x with asked := true }
  if d.narrowBusy (.command c.id) then d else f d

/-! ### Simple commands -/

def execNop (cmd : Nat) (s : State) := s.act fun d => d.onCmd cmd 0x0100 fun d c => d.complete c OK

/-- LEGEND_READ: one generation whole (R413). -/
def execLegendRead (cmd : Nat) (s : State) := s.act fun d => d.onCmd cmd 0x0101 fun d c =>
  (d.hostWrite (c.p 0) d.svc.legend).complete c OK d.legendGen

/-- AWAIT_EVENT: a held event completes it at once; otherwise it waits, up to sixteen of them (R404). -/
def execAwaitEvent (cmd : Nat) (s : State) := s.act fun d => d.onCmd cmd 0x0106 fun d c =>
  match d.cp.events with
  | e :: t => Dev.eventStat ((d.modCp fun x => { x with events := t }).deliver c e)
  | [] => if 16 ≤ d.awaiting.length then d.complete c QUEUE_FULL else (d.keepCmd c []).eventStat

/-- QP_CREATE (R391, R392, Table 11-8). -/
def execQpCreate (cmd : Nat) (s : State) := s.act fun d => d.onCmd cmd 0x0102 fun d c =>
  let q := bitsOf (c.p 2) 37 32
  let sq := bitsOf (c.p 2) 11 0 + 1; let cq := bitsOf (c.p 2) 27 16 + 1
  let urgent := bitAt (c.p 2) 40
  if q = 0 then d.complete c CFG_RANGE
  else if (d.qp q).isSome then d.complete c CFG_CONFLICT
  else if sq < 2 ∨ cq < 2 ∨ c.p 0 % 4096 ≠ 0 ∨ c.p 1 % 4096 ≠ 0 then d.complete c CFG_RANGE
  else if urgent ∧ 8 ≤ (d.cp.qps.filter fun x => d.flag (CP_QP_urgent x.q)).length then d.complete c QUEUE_FULL
  else
    let x : QPair := ⟨q, c.p 0, sq, c.p 1, cq, 0, 0, true, bitsOf (c.p 3) 7 0, bitsOf (c.p 3) 31 16, 0, 0, false⟩
    let d := d.modCp fun y => { y with qps := y.qps ++ [x] }
    let d := ((d.setReg (CP_QP q) 0).setFld (CP_QP_exists q) 1).setFld (CP_QP_urgent q) (b2n urgent)
    (d.setFld (CP_QP_vector q) (bitsOf (c.p 2) 53 48)).complete c OK

/-- QP_DELETE: fetching stops, what has not begun is discarded, and the queue pair goes once the rest has posted (R405). -/
def execQpDelete (cmd : Nat) (s : State) := s.act fun d => d.onCmd cmd 0x0103 fun d c =>
  let q := bitsOf (c.p 0) 5 0
  match d.qp q with
  | none => d.complete c CFG_CONFLICT
  | some x =>
    if q = 0 then d.complete c CFG_RANGE
    else if x.deleting then d.complete c CFG_CONFLICT
    else
      let gone := (d.queueCmds q).filter fun y => !y.hasBegun || y.opcode == opAwaitEvent
      let n := gone.length + (x.tail + x.sqSize - d.fld (CP_QP_sq_head q)) % x.sqSize
      let d := (gone.foldl (fun d y => d.dropCmd y.id) d).modQp q fun x => { x with deleting := true }
      (d.keepCmd c [q, n]).eventStat.endDeletes

/-! ### The host interface -/

/-- CP_CTRL.enable set: its check, then the admin queue (R391, Table 11-14). -/
def Dev.cpOn (d : Dev) : WriteRes :=
  if !d.ready then d.refuse CP_CTRL CFG_CONFLICT
  else if d.fld CP_AQ_SQ_entries = 0 ∨ d.fld CP_AQ_CQ_entries = 0 then
    d.refuse CP_CTRL CFG_RANGE
  else
    let x : QPair := ⟨0, d.fld CP_AQ_SQ_base * 4096, d.fld CP_AQ_SQ_entries + 1, d.fld CP_AQ_CQ_base * 4096,
      d.fld CP_AQ_CQ_entries + 1, 0, 0, true, 0, 0, 0, 0, false⟩
    let d := (d.setFld CP_CTRL_enable 1).modCp fun y => { y with qps := y.qps ++ [x] }
    (((d.setReg (CP_QP 0) 0).setFld (CP_QP_exists 0) 1).setFld (CP_QP_urgent 0) 1, OK)

/-- What R389 resets. -/
def Dev.hostReset (d : Dev) : Dev :=
  let keep := (d.cp.cmds.filter fun c => (match c.origin with | .queue _ => c.hasBegun | _ => true) &&
    !(c.opcode == opAwaitEvent && c.phase == .running)).map fun c =>
      match c.origin with | .queue _ => { c with origin := .silent } | _ => c
  let d := d.modCp fun x => { x with qps := [], cpls := [], cmds := keep, msixTable := [], msixPending := 0 }
  let d := ((d.resetRegs 0x200100 0x200180).resetRegs 0x200200 0x200400).setFld CP_CTRL_enable 0
  d.eventStat

/-- What configuration space says the device is (R382): one physical function, and the variant in the subsystem ID. -/
structure PcieIdentity where
  function : Nat
  classCode : Nat
  vendor : Nat
  device : Nat
  subsystem : Nat
  serial : Word64
  deriving DecidableEq, Repr

def Dev.pcieIdentity (d : Dev) : PcieIdentity := ⟨0, 0x120000, 0x1FB7, 0x0C10, d.fld HF_PKG_STRAP_variant, Config.serial⟩

/-- The link is down: no lanes (Table 11-18). -/
def Dev.linkOff (d : Dev) : Dev :=
  (((d.setFld CP_LINK_gen 0).setFld CP_LINK_width 0).setFld CP_LINK_flit 0).modCp fun x => { x with linkUp := false }

/-- HOST_INTERFACE_RESET (R389); a link-down event and PERST# also take the link down. -/
def execHostInterfaceReset (cause : HostResetCause) (s : State) := s.actLegend fun d =>
  let d := d.hostReset.modCp fun x => { x with d3hot := false }
  match cause with
  | .linkDown => d.linkOff
  | .perst => d.linkOff
  | _ => d

/-- PCIE_LINK_TRAINED: a mode of Table 11-1; a narrower link stays in training (R383). -/
def execPcieLinkTrained (gen width : Nat) (s : State) := s.actLegend fun d =>
  if width < 4 then (d.linkOff.raise 0x02 2 0 0).setActive 0x02 true
  else if 5 ≤ gen ∧ gen ≤ 7 ∧ (width = 4 ∨ width = 8) then
    let d := if d.cp.trained then d.countWrap CP_LINK_retrains 1 else d
    let d := ((d.setFld CP_LINK_gen gen).setFld CP_LINK_width width).setFld CP_LINK_flit (b2n (decide (6 ≤ gen)))
    (d.modCp fun x => { x with linkUp := true, trained := true }).setActive 0x02 false
  else d

/-- POWER_STATE_CHANGE: D0 or D3hot (R383). -/
def execPowerStateChange (d3hot : Bool) (s : State) := s.act fun d => d.modCp fun x => { x with d3hot := d3hot }

/-- A write to CP_CTRL (Table 11-14): setting enable runs the check, and 0 acts as R389. -/
def Dev.cpCtrlW (d : Dev) (v : Word64) : WriteRes :=
  let on := d.flag CP_CTRL_enable
  if bitAt v.toNat 0 && !on then
    match d.cpOn with
    | (d1, r) => if r = OK then (d1.setFld CP_CTRL_remote_accept (wget v 2 2), OK) else (d1, r)
  else
    let d := d.setFld CP_CTRL_remote_accept (wget v 2 2)
    (if on && !bitAt v.toNat 0 then d.hostReset else d, OK)

def execCpCtrlEnable (v : Word64) (s : State) := s.act fun d => d.ownWrite CP_CTRL v true fun d => d.cpCtrlW v

/-- A write to an aperture register: none may map register space (R415). -/
def Dev.apertureW (d : Dev) (k : Nat) (v : Word64) : WriteRes :=
  if bitAt v.toNat 0 && wget v 47 32 == 0x0F00 then d.refuse (CP_APERTURE k) CFG_RANGE
  else (d.store (CP_APERTURE k) v, OK)

def execCpApertureWrite (k : Nat) (v : Word64) (s : State) := s.act fun d =>
  d.ownWrite (CP_APERTURE k) v (decide (k < 16)) fun d => d.apertureW k v

/-! ### BAR2 (R385, R386) -/

/-- The local address of a BAR2 offset, when its aperture is valid. -/
def Dev.apertureAddr (d : Dev) (off : Nat) : Option Nat :=
  let k := off / 2 ^ 32
  if k < 16 ∧ d.flag (CP_APERTURE_valid k) then some (d.fld (CP_APERTURE_base k) * 2 ^ 32 + off % 2 ^ 32) else none

/-- The local address of a byte of BAR2 that is mapped and present. -/
def Dev.bar2Byte (d : Dev) (off : Nat) : Option Nat :=
  match d.apertureAddr off with
  | some a => if (d.place a).isSome then some a else none
  | none => none

/-- An access to an address that is not there: recorded, and host-access at level 0. -/
def Dev.bar2Absent (d : Dev) (kind off : Nat) : Dev :=
  let a := match d.apertureAddr off with | some a => a | none => off
  (d.hostErr kind a).raise 0x01 0 0 0

/-- The runs of an access that lie in one 4 KiB block of BAR2: place in the data and offset. -/
def bar2Runs (off len : Nat) : List (Nat × Nat × Nat) :=
  (rangePoints off len).map fun x => (x - off, x, min (off + len) ((x / 4096 + 1) * 4096) - x)

/-- BAR2_READ: the bytes go to the host; absent ones read 0xFF, and a poisoned word sets EP. -/
def execBar2Read (off len : Nat) (s : State) := s.act fun d =>
  let give (d : Dev) (l : List Byte) (ep : Bool) : Dev := d.modCp fun x => { x with lastRead := l, lastEp := ep }
  if d.cp.d3hot then d
  else if !d.ready then give d (List.replicate len 0xFF) false
  else
    let offs := (List.range len).map (off + ·)
    let addrs := offs.map d.bar2Byte
    if addrs.any fun a => (match a with | some x => d.held x 1 | none => false) then d
    else
      let d := (bar2Runs off len).foldl (fun d r => match d.bar2Byte r.2.1 with | some a => d.scrub a r.2.2 | none => d) d
      let d := give d (addrs.map fun a => match a with | some x => d.byteAt x | none => 0xFF)
        (addrs.any fun a => match a with | some x => d.poisonAt x | none => false)
      match offs.find? fun o => (d.bar2Byte o).isNone with
      | some o => d.bar2Absent 1 o
      | none => d

/-- BAR2_WRITE: bytes at present addresses are written, poisoned when EP is set; the others are dropped. -/
def execBar2Write (off : Nat) (data : List (BitVec 8)) (ep : Bool) (s : State) := s.act fun d =>
  if !d.ready || d.cp.d3hot || data.isEmpty then d
  else if (bar2Runs off data.length).any fun r => (match d.bar2Byte r.2.1 with | some a => d.held a r.2.2 | none => false) then d
  else
    let d1 := (bar2Runs off data.length).foldl (fun d r => match d.bar2Byte r.2.1 with
      | some a => d.write a ((data.drop r.1).take r.2.2) fun _ => ep
      | none => d) d
    match (bar2Runs off data.length).find? fun r => (d.bar2Byte r.2.1).isNone with
    | some r => d1.bar2Absent 2 r.2.1
    | none => d1

end Sys2Proof.Machine
end

