-- ==== Sys2Proof/Machine/Coll.lean ====
section
/-!
DEFINITION. Sys2Proof/Machine/Coll.lean: what the collective engine computes (chapter 10): groups and ranks (R338 to R340), records
(Table 10-3), the stages of each kind (R342, R343, R348, R349), the AS8 wire (R354 to R361), apply programs (R363 to
R369), and the cells of class 3 (R350).
-/

namespace Sys2Proof.Machine

/-! ### Records (Table 10-3) -/

def Coll.f (c : Coll) (off n : Nat) : Nat := leAt c.record off n
def Coll.tag (c : Coll) : Nat := c.f 0 4
def Coll.group (c : Coll) : Nat := c.f 4 2
def Coll.kind (c : Coll) : Nat := c.f 6 1
def Coll.alg (c : Coll) : Nat := c.f 7 1
def Coll.start (c : Coll) : Nat := c.f 8 8
def Coll.src (c : Coll) : Nat := c.f 16 8
def Coll.dst (c : Coll) : Nat := c.f 24 8
def Coll.count (c : Coll) : Nat := c.f 32 8
def Coll.deadline (c : Coll) : Nat := c.f 40 4
def Coll.fmt (c : Coll) : Fmt := (fmtOf (c.f 44 1)).getD .fp32
def Coll.wire (c : Coll) : Nat := c.f 45 1
def Coll.op (c : Coll) : Nat := c.f 46 1
def Coll.ovf (c : Coll) : Bool := bitAt (c.f 47 1) 0
def Coll.rnd (c : Coll) : Bool := bitAt (c.f 47 1) 1
def Coll.seal (c : Coll) : Bool := bitAt (c.f 47 1) 2
def Coll.root (c : Coll) : Nat := c.f 48 2
def Coll.tally (c : Coll) : Option Nat := if bitAt (c.f 52 1) 0 then some (c.f 50 2) else none
def Coll.words (c : Coll) : Nat := c.f 113 1
/-- The gather format of a Smelt or a rollback. -/
def Coll.gatherFmt (c : Coll) : Fmt := (fmtOf (c.f 114 1)).getD .bf16

/-- A record about which nothing has happened yet. -/
def collOf (record : List Byte) (id : Nat) (cmd : Option Nat) : Coll := { id := id, record := record, cmd := cmd }

/-! ### Groups (R338 to R340) -/

/-- Coordinate of a fabric ID on X, Y, Z or the sheet axis (3). -/
def gCoord (f a : Nat) : Nat := if a = 3 then fidSheet f else fidCoord f a
def gWith (f a k : Nat) : Nat := if a = 3 then f % 4096 + 4096 * k else fidWith f a k

/-- A box of coordinates: for each axis, lo and hi. -/
def Dev.boxOf (d : Dev) (g : Nat) : List (Nat × Nat) :=
  [(d.fld (CE_GROUP_BOX_x_lo g), d.fld (CE_GROUP_BOX_x_hi g)), (d.fld (CE_GROUP_BOX_y_lo g), d.fld (CE_GROUP_BOX_y_hi g)),
   (d.fld (CE_GROUP_BOX_z_lo g), d.fld (CE_GROUP_BOX_z_hi g)), (d.fld (CE_GROUP_BOX_sheet_lo g), d.fld (CE_GROUP_BOX_sheet_hi g))]

def boxLo (b : List (Nat × Nat)) (a : Nat) : Nat := (b.getD a (0, 0)).1
def boxExt (b : List (Nat × Nat)) (a : Nat) : Nat := (b.getD a (0, 0)).2 + 1 - (b.getD a (0, 0)).1

/-- The member count n (R339). -/
def boxSize (b : List (Nat × Nat)) : Nat := boxExt b 3 * boxExt b 2 * boxExt b 1 * boxExt b 0

/-- The rank of a member (R339). -/
def rankOf (b : List (Nat × Nat)) (f : Nat) : Nat :=
  let r (a : Nat) : Nat := gCoord f a - boxLo b a
  (r 3 * boxExt b 2 + r 2) * boxExt b 1 * boxExt b 0 + r 1 * boxExt b 0 + r 0

/-- The member with a rank. -/
def fidOfRank (b : List (Nat × Nat)) (r : Nat) : Nat :=
  let x := r % boxExt b 0; let r := r / boxExt b 0
  let y := r % boxExt b 1; let r := r / boxExt b 1
  (boxLo b 3 + r / boxExt b 2) * 4096 + (boxLo b 2 + r % boxExt b 2) * 256 + (boxLo b 1 + y) * 16 + boxLo b 0 + x

def inBox (b : List (Nat × Nat)) (f : Nat) : Bool :=
  [0, 1, 2, 3].all fun a => decide (boxLo b a ≤ gCoord f a) && decide (gCoord f a < boxLo b a + boxExt b a)

/-- The members of a box, by rank. -/
def members (b : List (Nat × Nat)) : List Nat := (List.range (boxSize b)).map (fidOfRank b)

/-- The axes with an extent above 1, in X, Y, Z, sheet order. -/
def boxAxes (b : List (Nat × Nat)) : List Nat := [0, 1, 2, 3].filter fun a => decide (1 < boxExt b a)

/-- The partners of a device on an axis of a box, by coordinate. -/
def axisPartners (b : List (Nat × Nat)) (own a : Nat) : List Nat :=
  ((List.range (boxExt b a)).map fun i => gWith own a (boxLo b a + i)).filter (· != own)

/-- Every group partner of this device in a group that is valid here. -/
def Dev.groupPartners (d : Dev) (g : Nat) : List Nat :=
  if 4096 ≤ g ∨ !d.flag (CE_GROUP_BOX_valid g) then []
  else (boxAxes (d.boxOf g)).flatMap (axisPartners (d.boxOf g) d.fid)

/-! ### Chunks, parts and stages (R342, R343, R348, R349) -/

/-- What a stage does: reduce to the owner's coordinate, gather back, exchange whole vectors (LATENCY and DIRECT), spread
from a root, or exchange blocks. -/
inductive StageMode where
  | reduce | gather | whole | spread | exchange
  deriving DecidableEq, Repr

/-- A stage: its mode, its axis, and the place of that axis in the part's order of axes. -/
structure Stage where
  mode : StageMode
  axis : Nat
  place : Nat
  deriving DecidableEq, Repr

/-- A collective as this member sees it. -/
structure CollView where
  c : Coll
  box : List (Nat × Nat)
  own : Nat
  deriving DecidableEq, Repr

def Dev.view (d : Dev) (c : Coll) : CollView := ⟨c, d.boxOf c.group, d.fid⟩

def CollView.n (v : CollView) : Nat := boxSize v.box
def CollView.rank (v : CollView) : Nat := rankOf v.box v.own

/-- Reductions: all-reduce, reduce-scatter and Smelt. -/
def Coll.reduces (c : Coll) : Bool := c.kind == 1 || c.kind == 2 || c.kind == 7

/-- Whether a reduction runs whole vectors: DIRECT, LATENCY, or AUTO that chose LATENCY. -/
def Coll.wholes (c : Coll) : Bool := (c.kind == 1 || c.kind == 2) && (c.alg == 1 || c.alg == 3 || (c.alg == 0 && c.latency))
def Coll.direct (c : Coll) : Bool := c.kind == 1 && c.alg == 3

/-- Whether the vector is cut in chunks of 4,096 elements. -/
def Coll.chunked (c : Coll) : Bool := c.reduces || c.kind == 8

/-- The chunks of the vector. -/
def Coll.chunks (c : Coll) : Nat := (c.count + 4095) / 4096

/-- The part of a chunk (R342); 0 for kinds without parts. -/
def CollView.partOf (v : CollView) (q : Nat) : Nat := if v.c.chunked then q / v.n % 3 else 0

/-- The owner's rank of a chunk or block. -/
def CollView.owner (v : CollView) (q : Nat) : Nat := fidOfRank v.box (if v.c.chunked then q % v.n else q)

/-- The order of axes of a part, the sheet axis last, X Y Z where whole vectors run (Table 10-4); axes of extent 1 are skipped. -/
def CollView.axes (v : CollView) (p : Nat) : List Nat :=
  ((if v.c.wholes || p == 0 then [0, 1, 2] else if p = 1 then [1, 2, 0] else [2, 0, 1]) ++ [3]).filter fun a => decide (1 < boxExt v.box a)

/-- A stage of one mode on each axis of a list, with its place. -/
def placed (m : StageMode) (l : List Nat) : List Stage := (List.range l.length).map fun i => ⟨m, l.getD i 0, i⟩

/-- The stages of a part in running order. -/
def CollView.stages (v : CollView) (p : Nat) : List Stage :=
  let a := v.axes p
  if v.c.wholes then placed .whole a
  else if v.c.kind = 1 ∨ v.c.kind = 7 then placed .reduce a ++ (placed .gather a).reverse
  else if v.c.kind = 2 then placed .reduce a
  else if v.c.kind = 3 ∨ v.c.kind = 8 then (placed .gather a).reverse
  else if v.c.kind = 4 then placed .spread a
  else if v.c.kind = 5 then [⟨.exchange, 0, 0⟩]
  else []

/-- How many stages sum contributions. -/
def CollView.sums (v : CollView) (p : Nat) : Nat :=
  ((v.stages p).filter fun s => s.mode == .reduce || s.mode == .whole).length

/-- Two members agree on the first n axes of a part's order. -/
def CollView.agree (v : CollView) (p n f g : Nat) : Bool := ((v.axes p).take n).all fun a => gCoord f a == gCoord g a

/-- The items of a part: chunks, or blocks by rank, or the one item of a broadcast. -/
def CollView.items (v : CollView) (p : Nat) : List Nat :=
  if v.c.chunked then (List.range v.c.chunks).filter fun q => v.partOf q == p
  else if p ≠ 0 then []
  else if v.c.kind = 4 then [0]
  else if v.c.kind = 6 then []
  else List.range v.n

/-- The items that a sender sends to a receiver in a stage, ascending (R348). -/
def CollView.flow (v : CollView) (p : Nat) (s : Stage) (sender receiver : Nat) : List Nat :=
  match s.mode with
  | .reduce => (v.items p).filter fun q => v.agree p (s.place + 1) (v.owner q) receiver
  | .gather => (v.items p).filter fun q => v.agree p (s.place + 1) (v.owner q) sender
  | .whole => v.items p
  | .spread => v.items p
  | .exchange => [rankOf v.box sender]

/-- Whether a device is a sender to this one in a stage. -/
def CollView.sends (v : CollView) (s : Stage) (f : Nat) : Bool :=
  if s.mode == .exchange then inBox v.box f && f != v.own else (axisPartners v.box v.own s.axis).contains f

/-- Bits of an element on the wire of a reduction's contributions. -/
def Coll.wireFmt (c : Coll) : Fmt := if c.wire = 2 then .e4m3 else if c.wire = 1 then .bf16 else c.fmt
/-- The format that results travel in. -/
def Coll.resultFmt (c : Coll) : Fmt := if c.kind = 7 ∨ c.kind = 8 then c.gatherFmt else c.wireFmt

/-- The format that lands at the destination. -/
def Coll.destFmt (c : Coll) : Fmt := if c.kind = 7 ∨ c.kind = 8 then c.gatherFmt else c.fmt

/-- Payload bytes of one item in a stage. -/
def CollView.itemBytes (v : CollView) (s : Stage) : Nat :=
  match s.mode with
  | .reduce => 512 * v.c.wireFmt.bits
  | .whole => 512 * v.c.wireFmt.bits
  | _ => if v.c.chunked then 512 * v.c.resultFmt.bits else (v.c.count * v.c.fmt.bits + 7) / 8

def CollView.itemCells (v : CollView) (s : Stage) : Nat := (v.itemBytes s + 255) / 256

/-! ### Numbers on the wire -/

/-- An FP32 code times 2^k written as an E4M3 code under SAT (R109). -/
def as8Code (s : Int) (draw : Option Nat) (x : Word32) : Nat := encodeF e4m3F false draw (scaleNum (fpRead x) (-s))

/-- Whether that encoding saturates (R110). -/
def as8Sat (s : Int) (draw : Option Nat) (x : Word32) : Bool :=
  let v := scaleNum (fpRead x) (-s)
  !isNanN v && encodeF e4m3F true draw v == canonNan e4m3F

/-- An AS8 code as FP32 (R113). -/
def as8Value (s : Int) (code : Nat) : Word32 := fpWrite true (scaleNum (decodeF e4m3F code) s)

/-- ceil(log2 n). -/
def clog2 (n : Nat) : Nat := if n ≤ 1 then 0 else Nat.log2 (n - 1) + 1

/-- The wire scale of a chunk of a part before stage s of its reduction (R111, R355). -/
def CollView.scaleAt (v : CollView) (p : Nat) (s0 : Int) (s : Nat) : Int :=
  ((v.axes p).take s).foldl (fun x a => min 127 (x + (clog2 (boxExt v.box a) : Int))) s0

/-- The sum of the scale rises of the collective's stages. -/
def CollView.rise (v : CollView) : Nat := (boxAxes v.box).foldl (fun t a => t + clog2 (boxExt v.box a)) 0

/-- The stream of R360 for chunk q and stage s, stepped i + 1 times, as a list of draws. -/
def drawsFrom : Nat → Word64 → List Nat
  | 0, _ => []
  | n + 1, st => let t := streamStep st; streamDraw t :: drawsFrom n t

def Coll.stream (c : Coll) (q s : Nat) : Word64 :=
  let x := BitVec.ofNat 64 ((c.seed ^^^ BitVec.ofNat 64 (c.tag * 2 ^ 32) ^^^ BitVec.ofNat 64 (64 * q + s)).toNat * 0x9E3779B97F4A7C15)
  if x = 0 then 1 else x

/-- The draws for the elements of a chunk, none without rnd. -/
def Coll.draws (c : Coll) (q s n : Nat) : List (Option Nat) :=
  if c.rnd then (drawsFrom n (c.stream q s)).map some else List.replicate n none

/-- The exponent byte of 256 values: the largest unbiased exponent, -128 when all are zero (Table 10-6). -/
def expByte (vals : List Word32) : Int := match amaxExp (vals.map fpRead) with | some e => e | none => -128

/-- Whether some value of a list is an infinity or a NaN: its exponent has no place in the byte. -/
def anyOdd (vals : List Word32) : Bool := vals.any fun x => isNanN (fpRead x) || isInfN (fpRead x)

/-- Elements of a format packed from bytes. -/
def elems (f : Fmt) (l : List Byte) (n : Nat) : List Nat :=
  let v := ofLe l
  (List.range n).map fun i => digit f.bits v i
def packElems (f : Fmt) (l : List Nat) : List Byte :=
  leBytes ((l.length * f.bits + 7) / 8) (packN f.bits l.length fun i => l.getD i 0)

/-- An element of a data format as the engine's 32-bit number: FP32, or INT32 as it stands. -/
def toAcc (f : Fmt) (code : Nat) : Word32 := if f.isInt then BitVec.ofNat 32 code else fpWrite true (decodeNum f code)

/-- The engine's number as an element of a format, to nearest even (R360). -/
def fromAcc (f : Fmt) (ovf : Bool) (x : Word32) : Nat := if f.isInt then x.toNat else encodeNum f ovf none (fpRead x)

/-- One addition of the engine: sum, min or max, floating or INT32; ovf governs INT32 alone, a floating sum out of range is an infinity
(R95, R104, R349). -/
def Coll.combine (c : Coll) (a b : Word32) : Word32 :=
  if c.fmt.isInt then
    if c.op = 0 then BitVec.ofNat 32 (narrowInt 32 c.ovf (sext 32 a.toNat + sext 32 b.toNat))
    else if c.op = 1 then (if sext 32 b.toNat < sext 32 a.toNat then b else a)
    else (if sext 32 a.toNat < sext 32 b.toNat then b else a)
  else if c.op = 0 then fpAdd true a b
  else if c.op = 1 then fpMin true a b
  else fpMax true a b

/-! ### Apply programs (R366 to R369) -/

/-- Operation i of a program, two to a word, low half first. -/
def Dev.applyOp (d : Dev) (k i : Nat) : Nat := digit 32 (d.reg (applyBase k + i / 2 * 8)).toNat (i % 2)

/-- The operations of a program before its end; none when it breaks R369. -/
def Dev.applyProg (d : Dev) (k : Nat) : Option (List Nat) :=
  let ops := (List.range 32).map (d.applyOp k)
  let body := ops.takeWhile fun w => bitsOf w 31 26 != 63
  let opnd (x : Nat) : Bool := decide (x < 24)
  if body.length = 32 then none
  else if body.all fun w => decide (bitsOf w 31 26 < 12) && opnd (bitsOf w 21 17) && opnd (bitsOf w 16 12) && opnd (bitsOf w 11 7) &&
      bitsOf w 6 0 == 0 then some body
  else none

/-- One operation on the registers of a lane; h holds h0 to h7, pick is free within the bounds of R140. -/
def applyStep (ovf : Bool) (h : List Word32) (r : List Word32) (w pick : Nat) : List Word32 :=
  let v (x : Nat) : Word32 := if x < 16 then r.getD x 0 else h.getD (x - 16) 0
  let a := v (bitsOf w 21 17); let b := v (bitsOf w 16 12); let c := v (bitsOf w 11 7)
  let x := match bitsOf w 31 26 with
    | 0 => fpAdd ovf a b
    | 1 => fpSub ovf a b
    | 2 => fpMul ovf a b
    | 3 => fpFma ovf a b c
    | 4 => fpMin ovf a b
    | 5 => fpMax ovf a b
    | 6 => fpWrite ovf (sqrtNum pick (fpRead a))
    | 7 => fpWrite ovf (rsqrtNum pick (fpRead a))
    | 8 => fpWrite ovf (recipNum pick (fpRead a))
    | 9 => fpAbs ovf a
    | 10 => fpNeg ovf a
    | _ => fpWrite ovf (fpRead (if fpLt 0 b then a else c))
  setAt r (bitsOf w 25 22) x

/-- The registers of a lane after a program. -/
def applyRun (ovf : Bool) (h : List Word32) (pick : Nat → Nat) (prog : List Nat) (r : List Word32) : List Word32 :=
  ((List.range prog.length).foldl (fun r i => applyStep ovf h r (prog.getD i 0) (pick i)) r)

/-! ### Bits of memory -/

/-- Bytes from memory as words of n bytes. -/
def Dev.words (d : Dev) (a n count : Nat) : List Nat :=
  let l := d.bytesAt a (n * count)
  (List.range count).map fun i => leAt l (n * i) n

/-- The n bits from bit off of address a, as bytes. -/
def Dev.readBits (d : Dev) (a off n : Nat) : List Byte :=
  let x := ofLe (d.bytesAt (a + off / 8) ((off % 8 + n + 7) / 8))
  leBytes ((n + 7) / 8) (digit n (x / 2 ^ (off % 8)) 0)

/-- Write n bits from bit off of address a; a byte written in part is read through the decoder, and its word keeps its poison (R213). -/
def Dev.writeBits (d : Dev) (a off n : Nat) (l : List Byte) : Dev :=
  if n = 0 then d
  else
    let lo := a + off / 8
    let len := (off % 8 + n + 7) / 8
    let hi := lo + len - 1
    let d := if off % 8 = 0 ∧ n % 8 = 0 then d else (d.readWord lo).readWord hi
    let keepLo := off % 8 != 0 && d.poisonAt lo
    let keepHi := (off + n) % 8 != 0 && d.poisonAt hi
    d.write lo (leBytes len (putBits (ofLe (d.bytesAt lo len)) (off % 8 + n - 1) (off % 8) (ofLe l))) fun w =>
      (keepLo && w == lo / 16) || (keepHi && w == hi / 16)

/-- Whether a word of a range is poisoned, once read through the decoder. -/
def Dev.poisoned (d : Dev) (a n : Nat) : Bool := (d.poisonsAt a n).any id

/-- Real elements of chunk q: the padding of the last chunk is not part of the vector. -/
def Coll.realIn (c : Coll) (q : Nat) : Nat := min 4096 (c.count - 4096 * q)

/-! ### Held collectives -/

def Dev.findColl (d : Dev) (id : Nat) : Option Coll := d.coll.held.find? (·.id == id)
def Dev.modCollSt (d : Dev) (f : CollSt → CollSt) : Dev := { d with coll := f d.coll }
def Dev.modColl (d : Dev) (id : Nat) (f : Coll → Coll) : Dev :=
  d.modCollSt fun s => { s with held := s.held.map fun c => if c.id == id then f c else c }
/-- The held collective of a group with a tag. -/
def Dev.collNamed (d : Dev) (g tag : Nat) : Option Coll := d.coll.held.find? fun c => c.group == g && c.tag == tag

/-- Keep CE_STATUS in step. -/
def Dev.ceStat (d : Dev) : Dev :=
  (d.setFld CE_STATUS_held d.coll.held.length).setFld CE_STATUS_running (d.coll.held.filter (·.begun.isSome)).length

/-! ### Class 3 cells (Tables 10-5 and 10-6) -/

def collOp (type group part stage f : Nat) : Nat :=
  type % 16 * 2 ^ 28 + group % 4096 * 2 ^ 16 + part % 4 * 2 ^ 14 + stage % 16 * 2 ^ 10 + f % 1024
def Cell.collType (c : Cell) : Nat := bitsOf c.op 31 28
def Cell.collGroup (c : Cell) : Nat := bitsOf c.op 27 16
def Cell.collPart (c : Cell) : Nat := bitsOf c.op 15 14
def Cell.collStage (c : Cell) : Nat := bitsOf c.op 13 10
def Cell.collStart (c : Cell) : Nat := bitsOf c.op 9 0
def Cell.collTag (c : Cell) : Nat := bitsOf c.acct 63 32
def Cell.collAcct (c : Cell) : Nat := bitsOf c.acct 31 24
def Cell.collIndex (c : Cell) : Nat := c.seq * 2 ^ 24 + bitsOf c.acct 23 0

/-- Rotate a digest left. -/
def rotl64 (w : Word64) (n : Nat) : Word64 := if n % 64 = 0 then w else (w <<< (n % 64)) ||| (w >>> (64 - n % 64))

/-- What a chunk adds to a digest (R381). -/
def digestOf (item stage : Nat) (l : List Byte) : Word64 := rotl64 (crc64 l) (item + 8 * stage)

/-- Fold a chunk into the digest of a partner; received tells the direction. -/
def Dev.digest (d : Dev) (coll partner item stage : Nat) (l : List Byte) (received : Bool) : Dev :=
  if !d.flag CE_STATUS_digest_present then d
  else
    let x := digestOf item stage l
    let upd (e : Nat × Word64 × Word64) : Nat × Word64 × Word64 :=
      if e.1 == partner then (if received then (e.1, e.2.1, e.2.2 ^^^ x) else (e.1, e.2.1 ^^^ x, e.2.2)) else e
    d.modCollSt fun s => { s with digests := s.digests.map fun g => if g.coll == coll then { g with pairs := g.pairs.map upd } else g }

end Sys2Proof.Machine
end

