-- ==== Sys2Proof/Machine/CollEnd.lean ====
section
/-!
DEFINITION. Sys2Proof/Machine/CollEnd.lean: how collectives end: completion (R378), failure (R377), aborts (R372, R373, R376), the seal
(R374, R375), laggards (R379) and digests (R381).
-/

namespace Sys2Proof.Machine

/-! ### Where a failed collective has written (R377) -/

/-- Bytes of the destination. -/
def CollView.destBytes (v : CollView) : Nat :=
  let b := v.c.destFmt.bits
  match v.c.kind with
  | 2 => (((List.range v.c.chunks).filter fun q => v.owner q == v.own).foldl (fun t q => t + v.c.realIn q) 0 * b + 7) / 8
  | 3 => (v.n * v.c.count * b + 7) / 8
  | 5 => (v.n * v.c.count * b + 7) / 8
  | 6 => 0
  | _ => (v.c.count * b + 7) / 8

/-- Elements of this member's shard (R364). -/
def CollView.shard (v : CollView) : Nat := 4096 * ((List.range v.c.chunks).filter fun q => v.owner q == v.own).length

/-- The ranges a failure leaves undefined: the destination, and in Smelt the master shard and the state. -/
def CollView.undef (v : CollView) : List (Nat × Nat) :=
  (v.c.dst, v.destBytes) ::
    (if v.c.kind = 7 then [(v.c.f 80 8, 4 * v.shard), (v.c.f 96 8, 4 * v.shard * v.c.words)] else [])

/-- The bytes of a range that are present become free values. -/
def Dev.freeRange (d : Dev) (a n : Nat) : Dev :=
  if n = 0 then d
  else (rangePoints a n).foldl (fun d x =>
    let m := min (a + n) ((x / 4096 + 1) * 4096) - x
    if (d.place x).isNone then d else (d.writeClean x ((List.range m).map fun i => (d.freeAt i).setWidth 8)).draw m) d

/-! ### Completion (R345, R378) -/

/-- Raise a tally once, with its error flag on failure. -/
def Dev.arriveAt (d : Dev) (t : Option Nat) (fail : Bool) : Dev :=
  match t with
  | some t => (if fail then d.setFld (HF_TALLY_error t) 1 else d).bumpTally t 1
  | none => d

/-- A collective completes with a reason and the origin of its abort (Table 10-7). -/
def Dev.postColl (d : Dev) (c : Coll) (reason origin : Nat) : Dev :=
  let g := c.group
  let w0 := (if reason = OK then 0xFFFFF else origin % 2 ^ 20) + 2 ^ 24 * b2n c.applied + 2 ^ 25 * b2n (c.latency && c.alg == 0)
  let w2 := c.slowId % 2 ^ 20 + 2 ^ 20 * min 4095 c.slowLag
  let d := (d.countSat CE_SAT_total c.sat).countSat (if reason = OK then CE_GROUP_CNT_completed g else CE_GROUP_CNT_failed g) 1
  let d := if reason = OK then d
    else
      let d := ((d.setFld CE_ABORT_LAST_reason reason).setFld CE_ABORT_LAST_origin origin).setFld CE_ABORT_LAST_group g
      let d := (d.setFld CE_ABORT_TAG_tag c.tag).setFld CE_ABORT_FRAME_frame d.frame
      d.raise 0x0A 0 (origin % 2 ^ 20) (c.tag + reason * 2 ^ 32)
  let d := d.arriveAt c.tally (reason != OK)
  match c.cmd with
  | some id => (match d.findCmd id with
    | some x => d.complete x reason w0 (min c.sat 0xFFFFFFFF) w2
    | none => d)
  | none => d

/-- A collective is no longer held; the cells that wait for it give their buffers back, and saturations since it completed are
counted (R110). -/
def Dev.dropColl (d : Dev) (c : Coll) : Dev :=
  let d := c.cells.foldl Dev.freeRx d
  let d := if c.completed then d.countSat CE_SAT_total (c.sat - c.satTold) else d
  let old := d.coll.ended.filter (·.1 == c.group)
  let keep := (c.group, c.tag) :: (old.take 255 ++ d.coll.ended.filter (·.1 != c.group))
  (d.modCollSt fun s => { s with held := s.held.filter (·.id != c.id), ended := keep }).ceStat

/-- Whether a waiting cell is this member's own for a collective. -/
def Dev.isOwnCell (d : Dev) (c : Coll) (w : Waiting) : Bool :=
  w.transit.isNone && w.cell.cls == 3 && w.cell.src == d.fid && w.cell.collGroup == c.group && w.cell.collTag == c.tag

/-- A collective that has not completed fails: it stops sending, its destination is undefined, and it completes (R373, R377). -/
def Dev.failColl (d : Dev) (c : Coll) (reason origin : Nat) : Dev :=
  let u := (d.view c).undef
  let d := (d.net.waiting.filter (d.isOwnCell c)).foldl Dev.dropWaiting d
  let d := (d.dropColl c).modCollSt fun s => { s with dones := s.dones.filter (·.coll != c.id) }
  if c.completed then d else (u.foldl (fun d r => d.freeRange r.1 r.2) d).postColl c reason origin

/-! ### Aborts (R373) -/

def kCollAbort : Nat := 0x20
def kCollDone : Nat := 0x21
def kDigestReq : Nat := 0x22
def kDigestRep : Nat := 0x23

/-- A COLL_ABORT record (Table 10-8). -/
def abortBytes (g tag f reason origin frame : Nat) : List Byte :=
  padTo 256 (leBytes 2 g ++ zeros 2 ++ leBytes 4 tag ++ leBytes 8 f ++ leBytes 2 reason ++ zeros 2 ++ leBytes 4 origin ++ leBytes 8 frame)

/-- Send a bell record to every group partner. -/
def Dev.bellGroup (d : Dev) (g kind : Nat) (payload : List Byte) (seq : Nat := 0) : Dev :=
  (d.groupPartners g).foldl (fun d f => d.bellTo f kind payload seq) d

/-- An abort that this member sends or receives: the first copy for a group and tag goes to every group partner and is
repeated, and the collective completes here. -/
def Dev.abortWith (d : Dev) (payload : List Byte) : Dev :=
  let g := leAt payload 0 2; let tag := leAt payload 4 4
  let seen := d.coll.aborts.any fun a => a.group == g && a.tag == tag
  let d := if seen then d
    else
      let a : CollAbort := ⟨d.nextId, g, tag, payload, d.frame, d.frame + 64⟩
      (d.bump.modCollSt fun s => { s with aborts := (a :: s.aborts).take 256 }).bellGroup g kCollAbort payload
  match d.collNamed g tag with
  | some c => d.failColl c (leAt payload 16 2) (leAt payload 20 4)
  | none => d

/-- This member sends an abort. -/
def Dev.abortColl (d : Dev) (g tag f reason : Nat) : Dev := d.abortWith (abortBytes g tag f reason d.fid d.frame)

/-- End every held collective without an abort. -/
def Dev.failAllColl (d : Dev) (reason origin : Nat) : Dev := d.coll.held.foldl (fun d c => d.failColl c reason origin) d

/-- At the switch frame, collectives of groups with a fenced member end (R376). -/
def Dev.collFenced (d : Dev) : Dev :=
  d.coll.held.foldl (fun d c => match (members (d.boxOf c.group)).find? d.fenced with
    | some f => d.failColl c COLL_ABORTED f
    | none => d) d

/-! ### The seal (R374, R379) -/

/-- The larger lag with its member; among equals the lower fabric ID. -/
def Coll.slower (c : Coll) (lag f : Nat) : Coll :=
  if c.slowLag < lag ∨ (c.slowLag = lag ∧ f < c.slowId) then { c with slowLag := lag, slowId := f } else c

/-- Own lag (R379). -/
def Coll.lag (c : Coll) : Nat := match c.begun with | some b => b - c.start | none => 0

/-- The laggard registers, from the last 64 seals (R379). -/
def Dev.lagRegs (d : Dev) : Dev :=
  let l := d.coll.lags
  let peerSum (d : Dev) (k : Nat) : Dev :=
    let xs := l.filterMap fun e => (e.peers.find? (·.1 == k)).map (·.2)
    (d.setFld (CE_LAG_PEER_samples (k / 16) (k % 16)) xs.length).setFld (CE_LAG_PEER_lag_sum (k / 16) (k % 16))
      (min (xs.foldl (· + ·) 0) 0xFFFFFF)
  let d := (List.range 64).foldl peerSum d
  let times (m : Nat) : Nat := (l.filter (·.member == m)).length
  let total (m : Nat) : Nat := ((l.filter (·.member == m)).foldl (fun t e => t + min 4095 e.lag) 0)
  let best := (l.map (·.member)).foldl (fun b m => match b with
    | none => some m
    | some x => if times x < times m ∨ (times x = times m ∧ (total x < total m ∨ (total x = total m ∧ m < x))) then some m else some x) none
  match best with
  | some m => ((d.setFld CE_SLOWEST_times (times m)).setFld CE_SLOWEST_lag_sum (min (total m) 0xFFFF)).setFld CE_SLOWEST_member m
  | none => d

/-- A sealed collective enters the lag history. -/
def Dev.recordLag (d : Dev) (c : Coll) : Dev :=
  let k := d.fld CE_STATUS_hist_head
  let d := d.setReg (CE_LAG_HIST k) (BitVec.ofNat 64 (c.tag * 2 ^ 32 + min 4095 c.slowLag * 2 ^ 20 + c.slowId % 2 ^ 20))
  let d := d.setFld CE_STATUS_hist_head ((k + 1) % 64)
  let axes := boxAxes (d.boxOf c.group)
  let peers := c.heard.map fun h => let a := axes.getD h.1 0; (a * 16 + gCoord h.2.1 a % 16, h.2.2)
  (d.modCollSt fun s => { s with lags := (⟨c.tag, c.slowId, c.slowLag, peers⟩ :: s.lags).take 64 }).lagRegs

/-- A COLL_DONE record of a stage (Table 10-8). -/
def Coll.doneBytes (c : Coll) (stage : Nat) : List Byte :=
  padTo 256 (leBytes 2 c.group ++ leBytes 1 stage ++ [0] ++ leBytes 4 c.tag ++ leBytes 8 c.start ++ leBytes 2 (min c.lag 0xFFFF) ++
    leBytes 2 (min c.slowLag 0xFFFF) ++ leBytes 4 c.slowId)

/-- Send the COLL_DONE record of a stage on its axis, and keep it for repetition. -/
def Dev.sendDone (d : Dev) (c : Coll) (stage axis : Nat) : Dev :=
  let pl := c.doneBytes stage
  let d := (axisPartners (d.boxOf c.group) d.fid axis).foldl (fun d f => d.bellTo f kCollDone pl) d
  let r := (axis, d.frame, pl)
  if d.coll.dones.any (·.coll == c.id) then
    d.modCollSt fun s => { s with dones := s.dones.map fun x => if x.coll == c.id then { x with recs := x.recs ++ [r] } else x }
  else d.modCollSt fun s => { s with dones := s.dones ++ [⟨c.id, c.group, [r], none⟩] }

/-- Whether the records of a stage from every partner on its axis are held. -/
def Dev.stageHeard (d : Dev) (c : Coll) (stage axis : Nat) : Bool :=
  (axisPartners (d.boxOf c.group) d.fid axis).all fun f => c.heard.any fun h => h.1 == stage && h.2.1 == f

/-- A collective that has completed leaves once its duties to its partners are done. -/
def Dev.leaveColl (d : Dev) (id : Nat) : Dev :=
  match d.findColl id with
  | some c => if c.completed && c.toSum == 0 then d.dropColl c else d
  | none => d

/-- A member completes with OK. -/
def Dev.doneColl (d : Dev) (c : Coll) : Dev :=
  ((d.modColl c.id fun x => { x with completed := true, satTold := c.sat }).postColl c OK 0).leaveColl c.id

/-- Send every stage that is due, and seal (R374). -/
def Dev.advanceSeal : Nat → Dev → Nat → Dev
  | 0, d, _ => d
  | n + 1, d, id =>
    match d.findColl id with
    | none => d
    | some c =>
      let axes := boxAxes (d.boxOf c.group)
      let s := c.sentDone
      if !c.dataDone || c.completed || (s != 0 && !d.stageHeard c (s - 1) (axes.getD (s - 1) 0)) then d
      else if s < axes.length then
        Dev.advanceSeal n ((d.sendDone c s (axes.getD s 0)).modColl id fun c => { c with sentDone := s + 1 }) id
      else
        let d := (d.recordLag c).modCollSt fun st => { st with dones := st.dones.map fun x =>
          if x.coll == id then { x with sealedAt := some d.frame } else x }
        d.doneColl c

/-- The data phase has ended when every result is written (R372); then the seal begins, or the member completes (R375). -/
def Dev.dataCheck (d : Dev) (id : Nat) : Dev :=
  match d.findColl id with
  | some c =>
    if c.opened && c.toWrite == 0 && !c.dataDone then
      let d := d.modColl id fun c => { c with dataDone := true }
      if c.seal then d.advanceSeal 6 id else d.doneColl { c with dataDone := true }
    else d.leaveColl id
  | none => d

/-! ### Integrity (R380, R381) -/

/-- Record an integrity event (Table 10-14). -/
def Dev.integEvent (d : Dev) (source partner tag : Nat) (own : Bool) : Dev :=
  let d := ((d.countSat CE_INTEG_count 1).setFld CE_INTEG_source source).setFld CE_INTEG_direction (b2n own)
  (d.setFld CE_INTEG_partner partner).setFld CE_INTEG_TAG_tag tag

/-- Ask every group partner for its digests, for a command of this name, 0 for none. -/
def Dev.askDigests (d : Dev) (g tag cmd : Nat) : Dev :=
  d.bellGroup g kDigestReq (padTo 256 (leBytes 4 tag ++ leBytes 4 d.fid)) (cmd % 2 ^ 16)

/-- This member's digests toward a partner for a tag: sent, received. -/
def Dev.digestsFor (d : Dev) (tag f : Nat) : Word64 × Word64 :=
  match d.coll.digests.find? (·.tag == tag) with
  | some g => (match g.pairs.find? (·.1 == f) with | some e => e.2 | none => (0, 0))
  | none => (0, 0)

/-- A sample failure: the event, the abort, and the request for digests. -/
def Dev.sampleFail (d : Dev) (c : Coll) (partner : Nat) : Dev :=
  let d := (d.integEvent 1 partner c.tag false).abortColl c.group c.tag c.start COLL_INTEGRITY
  if d.flag CE_STATUS_digest_present then d.askDigests c.group c.tag 0 else d

end Sys2Proof.Machine
end

