-- ==== Sys2Proof/Machine/CollOps.lean ====
section
/-!
DEFINITION. Sys2Proof/Machine/CollOps.lean: the collective engine's steps (R337 to R381).
-/

namespace Sys2Proof.Machine

/-! ### Sending (R348, R350) -/

/-- Send one chunk or block in a stage to a member, cell by cell, each followed by its duplicate when sampled (R380); acct is the byte of
each cell's accounting field. -/
def Dev.sendItem (d : Dev) (v : CollView) (p si : Nat) (s : Stage) (type item : Nat) (bytes : List Byte) (acct : Nat → Nat)
    (sample : Bool) (dst : Nat) : Dev :=
  let m := v.itemCells s
  let base := ((v.flow p s v.own dst).filter (· < item)).length * m
  let d := (List.range m).foldl (fun d i =>
    let idx := base + i
    let pl := (bytes.drop (256 * i)).take 256
    let cell (t : Nat) : Cell := d.newCell 3 (collOp t v.c.group p si v.c.start) (idx / 2 ^ 24) dst pl pl.length
      (v.c.tag * 2 ^ 32 + acct i % 256 * 2 ^ 24 + idx % 2 ^ 24)
    let first := d.nextId
    let d := d.enqueueCell (cell type) none false
    if sample then d.enqueueCell (cell 2) none false (some first) else d) d
  d.digest v.c.id dst item si bytes false

/-- Whether chunk q is sampled (R380). -/
def Dev.sampled (d : Dev) (v : CollView) (q : Nat) : Bool :=
  let k := d.fld (CE_GROUP_OPT_sample_k v.c.group)
  v.c.reduces && decide (v.n ≤ 256) && decide (k < 15) && (q + v.c.tag) % 2 ^ k == 0

/-! ### A stage's encodings -/

/-- The wire scale of a chunk's first encoding (R354). -/
def Coll.tableScale (c : Coll) (q : Nat) : Int := sext 8 (c.table.getD q 0).toNat

/-- What a partial sum is before stage s: its bytes on the wire, its values as this member adds them, and the saturations (R109, R110,
R355, R359, R360).  Where whole vectors run, a member adds its own values as its partners read them (R349). -/
def CollView.onWire (v : CollView) (p q s : Nat) (x : List Word32) : List Byte × List Word32 × Nat :=
  if v.c.wire = 2 then
    let sc := v.scaleAt p (v.c.tableScale q) s
    let dr := v.c.draws q s x.length
    let codes := List.zipWith (as8Code sc) dr x
    (codes.map (BitVec.ofNat 8), codes.map (as8Value sc), (List.zipWith (as8Sat sc) dr x).countP id)
  else
    let codes := x.map (fromAcc v.c.wireFmt v.c.ovf)
    (packElems v.c.wireFmt codes, if v.c.wholes then codes.map (toAcc v.c.wireFmt) else x, 0)

/-- The proposed scale of a chunk (R361); 0 where the wire is not AS8 (Table 10-6). -/
def Dev.proposal (d : Dev) (v : CollView) (q : Nat) (ex : List Int) : Int :=
  let e := ex.foldl max (-128)
  if v.c.wire ≠ 2 then 0
  else if e = -128 then v.c.tableScale q
  else clampI (e - 7 + (d.fld (CE_GROUP_OPT_margin v.c.group) : Int)) (-127) (127 - (v.rise : Int))

/-- Write a proposal at its index (R361, R362). -/
def Dev.propose (d : Dev) (c : Coll) (q : Nat) (s : Nat) : Dev :=
  if c.wire = 2 ∧ c.reduces then d.writeClean (c.f 72 8 + q) [BitVec.ofNat 8 s] else d

/-! ### Results (R343) -/

/-- A result is written. -/
def Dev.wrote (d : Dev) (id : Nat) : Dev := d.modColl id fun c => { c with toWrite := c.toWrite - 1 }

/-- Bytes that travelled as results, as they land at the destination. -/
def CollView.landed (v : CollView) (q : Nat) (bytes : List Byte) : List Byte :=
  let f := v.c.destFmt
  if v.c.kind = 1 ∧ v.c.wireFmt ≠ f ∨ v.c.wire = 2 ∧ v.c.kind = 1 then
    let vals := if v.c.wire = 2 then
        (elems .e4m3 bytes 4096).map (as8Value (v.scaleAt (v.partOf q) (v.c.tableScale q) 4))
      else (elems v.c.wireFmt bytes 4096).map (toAcc v.c.wireFmt)
    packElems f (vals.map (fromAcc f v.c.ovf))
  else bytes

/-- Write an item at the destination. -/
def Dev.writeItem (d : Dev) (v : CollView) (q : Nat) (bytes : List Byte) : Dev :=
  let b := v.c.destFmt.bits
  if v.c.chunked then d.writeBits v.c.dst (4096 * q * b) (v.c.realIn q * b) (v.landed q bytes)
  else d.writeBits v.c.dst (q * v.c.count * b) (v.c.count * b) bytes

/-- An item is known in wire form, its proposal byte beside it: it is written, and sent on in every later stage (R348). -/
def Dev.known (d : Dev) (v : CollView) (p q g : Nat) (bytes : List Byte) (prop : Nat) : Dev :=
  let d := ((d.writeItem v q bytes).propose v.c q prop).wrote v.c.id
  let st := v.stages p
  (List.range st.length).foldl (fun d i => match st[i]? with
    | some s =>
      if i < g ∨ (s.mode != .gather && s.mode != .spread) then d
      else (axisPartners v.box v.own s.axis).foldl (fun d f =>
        d.sendItem v p i s 1 q bytes (fun i => if i = 0 then prop else 0) false f) d
    | none => d) d

/-- Reduce-scatter and whole-vector results from values. -/
def Dev.writeValues (d : Dev) (v : CollView) (q off : Nat) (x : List Word32) (prop : Nat) : Dev :=
  let f := v.c.fmt
  ((d.writeBits v.c.dst (off * f.bits) (v.c.realIn q * f.bits) (packElems f (x.map (fromAcc f v.c.ovf)))).propose v.c q prop).wrote v.c.id

/-! ### Smelt (R363 to R366) -/

/-- The owner's step on one chunk: shadow, apply, new master and state, and the gathered form. -/
def Dev.smeltApply (d : Dev) (v : CollView) (p q : Nat) (g : List Word32) (prop : Nat) : Dev :=
  let c := v.c
  let off := q / v.n * 4096
  let w := c.words
  let ma := c.f 80 8 + 4 * off; let st := c.f 96 8 + 4 * off * w
  let d := ((d.scrub ma 16384).scrub st (16384 * w)).scrub (c.f 104 8) 32
  if d.poisoned ma 16384 || (w != 0 && d.poisoned st (16384 * w)) then d.abortColl c.group c.tag c.start UNCORRECTABLE
  else
    let master := d.words ma 4 4096
    let state := d.words st 4 (4096 * w)
    let h := (d.words (c.f 104 8) 4 8).map (BitVec.ofNat 32)
    let prog := (d.applyProg (c.f 112 1)).getD []
    let outs := (List.range 4096).map fun j =>
      let r := [g.getD j 0, BitVec.ofNat 32 (master.getD j 0)] ++ (List.range w).map fun i => BitVec.ofNat 32 (state.getD (j * w + i) 0)
      applyRun c.ovf h (fun i => (d.freeAt (32 * j + i)).toNat) prog (r ++ List.replicate (16 - r.length) 0)
    let d := d.draw (32 * 4096)
    let d := d.writeClean (c.f 88 8 + 4 * off) (master.flatMap (leBytes 4))
    let d := (d.setFld (CE_SHADOW_TAG_valid c.group) 1).setFld (CE_SHADOW_TAG_tag c.group) c.tag
    let d := d.modCollSt fun s => { s with applied := (c.group, c.tag) :: s.applied.filter (· != (c.group, c.tag)) }
    let d := d.writeClean ma (outs.flatMap fun r => leBytes 4 (r.getD 1 0).toNat)
    let d := d.writeClean st (outs.flatMap fun r => (List.range w).flatMap fun i => leBytes 4 (r.getD (2 + i) 0).toNat)
    let d := d.modColl c.id fun c => { c with applied := true }
    let dr := if c.gatherFmt = .e4m3 then c.draws q 63 4096 else List.replicate 4096 none
    let codes := List.zipWith (fun t (r : List Word32) => encodeNum c.gatherFmt false t (fpRead (r.getD 1 0))) dr outs
    d.known v p q (v.sums p) (packElems c.gatherFmt codes) prop

/-! ### Reduction -/

/-- A chunk's last sum: written here, or applied, and gathered (R358, R359, R361, R363). -/
def Dev.finishChunk (d : Dev) (v : CollView) (p q s : Nat) (x : List Word32) (ex : List Int) : Dev :=
  let (bytes, vals, sat) := v.onWire p q s x
  let d := d.modColl v.c.id fun c => { c with sat := c.sat + sat }
  let prop := wrap 8 (d.proposal v q ex)
  if v.c.kind = 2 then (if v.owner q = v.own then d.writeValues v q (q / v.n * 4096) vals prop else d)
  else if v.c.kind = 7 then d.smeltApply v p q vals prop
  else if v.c.wholes then d.writeValues v q (4096 * q) vals prop
  else d.known v p q (v.sums p) bytes prop

/-- An empty slot. -/
def emptySlot (p s q : Nat) : CollSlot := ⟨p, s, q, none, List.replicate 16 (-128), List.replicate 4096 none, []⟩

def Coll.slot (c : Coll) (p s q : Nat) : CollSlot :=
  (c.slots.find? fun x => x.part == p && x.stage == s && x.item == q).getD (emptySlot p s q)

def Coll.putSlot (c : Coll) (x : CollSlot) : Coll :=
  { c with slots := c.slots.filter (fun y => !(y.part == x.part && y.stage == x.stage && y.item == x.item)) ++ [x] }

def Coll.delSlot (c : Coll) (x : CollSlot) : Coll :=
  { c with slots := c.slots.filter (fun y => !(y.part == x.part && y.stage == x.stage && y.item == x.item)) }

/-- Add values from element off into a running sum, in arrival order. -/
def Coll.addAt (c : Coll) (sum : List (Option Word32)) (off : Nat) (x : List Word32) : List (Option Word32) :=
  (List.range x.length).foldl (fun l i => modAt l (off + i) fun o => match o with
    | some y => some (c.combine y (x.getD i 0))
    | none => some (x.getD i 0)) sum

/-- The values that a contribution cell carries. -/
def CollView.cellValues (v : CollView) (p q s : Nat) (data : List Byte) : List Word32 :=
  let f := v.c.wireFmt
  let n := data.length * 8 / f.bits
  if v.c.wire = 2 then (elems f data n).map (as8Value (v.scaleAt p (v.c.tableScale q) s))
  else (elems f data n).map (toAcc f)

/-- The cells of one sender, in order, originals or duplicates. -/
def CollSlot.from (x : CollSlot) (f : Nat) (dup : Bool) : List CollPart :=
  (x.cells.filter fun y => y.src == f && y.dup == dup).mergeSort fun a b => decide (a.pos ≤ b.pos)

/-- Whether every sender's cells of a slot have come. -/
def CollSlot.full (x : CollSlot) (senders : List Nat) (m : Nat) (sample : Bool) : Bool :=
  senders.all fun f => (x.from f false).length == m && (!sample || (x.from f true).length == m)

/-- The sum in rank order along an axis: originals (unit A) or duplicates (unit B) (R349, R380). -/
def CollView.rankSum (v : CollView) (s : Stage) (x : CollSlot) (dup : Bool) : List Word32 :=
  let contribution (f : Nat) : List Word32 :=
    if f = v.own then x.own.getD [] else (x.from f dup).flatMap fun y => v.cellValues x.part x.item x.stage y.data
  let all := ((List.range (boxExt v.box s.axis)).map fun i => gWith v.own s.axis (boxLo v.box s.axis + i)).map contribution
  match all with
  | [] => []
  | h :: t => t.foldl (fun a b => List.zipWith v.c.combine a b) h

/-- The result of a reduce slot that is complete: its sum, or the first partner whose duplicates differ. -/
def Dev.slotResult (d : Dev) (v : CollView) (s : Stage) (x : CollSlot) : Option (Except Nat (List Word32)) :=
  let senders := axisPartners v.box v.own s.axis
  let sample := d.sampled v x.item
  if x.own.isNone || !x.full senders (v.itemCells s) sample then none
  else if sample then
    let a := v.rankSum s x false; let b := v.rankSum s x true
    if a = b then some (.ok a)
    else some (.error ((senders.find? fun f => (x.from f false).map (·.data) != (x.from f true).map (·.data)).getD v.own))
  else if v.c.direct then some (.ok (v.rankSum s x false))
  else some (.ok (x.sum.map fun o => o.getD 0))

/-- A partial sum is ready before stage s of its part: it is sent to the owner's coordinate or to all partners, or added here;
when that completes the sum of this stage, the next begins. -/
def Dev.readyChunk : Nat → Dev → Nat → Nat → Nat → Nat → List Word32 → List Int → Dev
  | 0, d, _, _, _, _, _, _ => d
  | n + 1, d, id, p, q, s, x, ex =>
    match d.findColl id with
    | none => d
    | some c =>
      let v := d.view c
      match if s < v.sums p then (v.stages p)[s]? else none with
      | none => d.finishChunk v p q s x ex
      | some st =>
        let (bytes, own, sat) := v.onWire p q s x
        let d := d.modColl id fun c => { c with sat := c.sat + sat }
        let acct (i : Nat) : Nat := if c.wire = 2 then wrap 8 (ex.getD i (-128)) else 0
        let dst := gCoord (v.owner q) st.axis
        if st.mode = .reduce ∧ dst ≠ gCoord v.own st.axis then
          d.sendItem v p s st 0 q bytes acct (d.sampled v q) (gWith v.own st.axis dst)
        else
          let d := if st.mode = .reduce then d
            else (axisPartners v.box v.own st.axis).foldl (fun d f => d.sendItem v p s st 0 q bytes acct (d.sampled v q) f) d
          let slot := (d.findColl id).getD c |>.slot p s q
          let slot := { slot with own := some own, ex := List.zipWith max slot.ex ex, sum := c.addAt slot.sum 0 own }
          match d.slotResult v st slot with
          | none => d.modColl id (·.putSlot slot)
          | some (.error f) => d.sampleFail c f
          | some (.ok y) =>
            Dev.readyChunk n (d.modColl id fun c => { c.delSlot slot with toSum := c.toSum - 1 }) id p q (s + 1) y slot.ex

/-! ### Beginning (R346) -/

/-- The source that this member reads. -/
def CollView.source (v : CollView) : List (Nat × Nat) :=
  let c := v.c
  let b := c.fmt.bits
  (match c.kind with
    | 4 => if fidOfRank v.box c.root = v.own then [(c.src, (c.count * b + 7) / 8)] else []
    | 5 => [(c.src, (v.n * c.count * b + 7) / 8)]
    | 6 => []
    | 8 => []
    | _ => [(c.src, (c.count * b + 7) / 8)]).filter (·.2 != 0)

/-- Where the AS8 scale table lies, one byte a chunk (R354). -/
def CollView.scales (v : CollView) : List (Nat × Nat) := if v.c.reduces ∧ v.c.wire = 2 ∧ v.c.chunks ≠ 0 then [(v.c.f 64 8, v.c.chunks)] else []

/-- The ranges a collective reads and writes at this member. -/
def CollView.ranges (v : CollView) : List (Nat × Nat) :=
  let c := v.c
  let proposals := v.scales.map fun r => (c.f 72 8, r.2)
  let smelt := if c.kind = 7 then [(c.f 80 8, 4 * v.shard), (c.f 88 8, 4 * v.shard), (c.f 96 8, 4 * v.shard * c.words), (c.f 104 8, 32)]
    else if c.kind = 8 then [(c.f 80 8, 4 * v.shard), (c.f 88 8, 4 * v.shard)] else []
  v.source ++ v.scales ++ (proposals ++ smelt ++ [(c.dst, v.destBytes)]).filter (·.2 != 0)

/-- Whether a rollback finds the shadow of the Smelt that it names (R370). -/
def Dev.shadowNamed (d : Dev) (c : Coll) : Bool := d.flag (CE_SHADOW_TAG_valid c.group) && d.fld (CE_SHADOW_TAG_tag c.group) == c.tag

/-- The ranges whose poison ends the collective when it begins: the source, and for a rollback the shadow that goes back, or the master
that stays (R353, R370). -/
def Dev.collReads (d : Dev) (v : CollView) : List (Nat × Nat) :=
  if v.c.kind = 8 then [(if d.shadowNamed v.c then v.c.f 88 8 else v.c.f 80 8, 4 * v.shard)].filter (·.2 != 0) else v.source

/-- The results this member writes. -/
def CollView.results (v : CollView) : Nat :=
  match v.c.kind with
  | 2 => ((List.range v.c.chunks).filter fun q => v.owner q == v.own).length
  | 3 => v.n
  | 4 => 1
  | 5 => v.n
  | 6 => 0
  | _ => v.c.chunks

/-- The sums this member completes. -/
def CollView.duties (v : CollView) : Nat :=
  [0, 1, 2].foldl (fun t p => (List.range (v.sums p)).foldl (fun t s => match (v.stages p)[s]? with
    | some st => t + (v.flow p st v.own v.own).length
    | none => t) t) 0

/-- The engine's numbers of chunk q of the source, padded with zeros, and their exponent bytes; an exponent that the byte has no
value for is free (R356). -/
def Dev.sourceChunk (d : Dev) (c : Coll) (q : Nat) : List Word32 × List Int × Dev :=
  let f := c.fmt
  let n := c.realIn q
  let vals := (elems f (d.readBits c.src (4096 * q * f.bits) (n * f.bits)) n).map (toAcc f) ++ List.replicate (4096 - n) 0
  let ex := (List.range 16).map fun i =>
    let xs := (vals.drop (256 * i)).take 256
    if anyOdd xs then sext 8 (d.freeAt i).toNat else expByte xs
  (vals, ex, d.draw 16)

/-- A rollback at an owner (R370): the shadow goes back when its tag is the one named, then the master is gathered, to nearest even
(R360). -/
def Dev.rollback (d : Dev) (v : CollView) : Dev :=
  let c := v.c
  let mine := (List.range c.chunks).filter fun q => v.owner q == v.own
  let back := d.shadowNamed c
  mine.foldl (fun d q =>
    let off := 4 * (q / v.n * 4096)
    let d := if back then d.writeClean (c.f 80 8 + off) (d.bytesAt (c.f 88 8 + off) 16384) else d
    let codes := (d.words (c.f 80 8 + off) 4 4096).map fun m => encodeNum c.gatherFmt false none (decodeF fp32F m)
    d.known v (v.partOf q) q 0 (packElems c.gatherFmt codes) 0) d

/-- What a member does first in a collective of its kind. -/
def Dev.openColl (d : Dev) (v : CollView) : Dev :=
  let c := v.c
  let b := c.fmt.bits
  match c.kind with
  | 3 => d.known v 0 v.rank 0 (d.readBits c.src 0 (c.count * b)) 0
  | 4 => if fidOfRank v.box c.root = v.own then d.known v 0 0 0 (d.readBits c.src 0 (c.count * b)) 0 else d
  | 5 => (List.range v.n).foldl (fun d j =>
      let l := d.readBits c.src (j * c.count * b) (c.count * b)
      if j = v.rank then d.known v 0 j 0 l 0
      else d.sendItem v 0 0 ⟨.exchange, 0, 0⟩ 1 v.rank l (fun _ => 0) false (fidOfRank v.box j)) d
  | 6 => d
  | 8 => d.rollback v
  | _ => (List.range c.chunks).foldl (fun d q =>
      let (x, ex, d) := d.sourceChunk c q
      d.readyChunk 6 c.id (v.partOf q) q 0 x ex) d

/-- Whether a held collective may begin: its frame has come, and no earlier one of its group is held (R346). -/
def Dev.mayBegin (d : Dev) (c : Coll) : Bool :=
  c.begun.isNone && d.flag CE_CTRL_enable && decide (c.start ≤ d.frame) &&
    !(d.coll.held.any fun x => x.id != c.id && x.group == c.group && (x.begun.isSome || decide (x.start < c.start)))

/-- A collective begins (R346): its begin frame, its seed and its algorithm are set, and the scale table is fetched through the narrow
path (R203). -/
def Dev.startColl (d : Dev) (c0 : Coll) : Dev :=
  let lat := decide (c0.alg = 0 ∧ (c0.kind = 1 ∨ c0.kind = 2) ∧ c0.count * c0.wireFmt.bits ≤ 8 * d.fld (CE_GROUP_OPT_auto_threshold c0.group))
  let c1 := { c0 with begun := some d.frame, seed := d.reg CE_SR_SEED, latency := lat }
  let v := d.view c1
  let c := { c1 with toWrite := v.results, toSum := v.duties, slowLag := c1.lag, slowId := d.fid }
  let d := (d.modColl c0.id fun _ => c).ceStat
  let d := d.modCollSt fun s => { s with
    digests := (⟨c.tag, c.id, (d.groupPartners c.group).map fun f => (f, 0, 0)⟩ :: s.digests).take 256 }
  if v.ranges.all fun r => d.present r.1 r.2 then v.scales.foldl (fun d r => d.narrowRange (.tables c.id) r.1 r.2) d else d

/-- The data phase opens once the scale table is there and no memory it needs is being initialised: the data is read as it stands, and
the first cells are formed. -/
def Dev.tryOpen (d : Dev) (coll : Nat) : Dev :=
  match d.findColl coll with
  | none => d
  | some c =>
    let v := d.view c
    if v.ranges.any fun r => !d.present r.1 r.2 then d.abortColl c.group c.tag c.start CFG_RANGE
    else if (v.ranges.any fun r => d.held r.1 r.2) || d.narrowBusy (.tables c.id) then d
    else
      let reads := d.collReads v
      let d := (reads ++ v.scales).foldl (fun d r => d.scrub r.1 r.2) d
      if reads.any fun r => d.poisoned r.1 r.2 then d.abortColl c.group c.tag c.start UNCORRECTABLE
      else
        let c := { c with opened := true, table := v.scales.flatMap fun r => d.bytesAt r.1 r.2 }
        ((d.modColl coll fun _ => c).openColl { v with c := c }).dataCheck coll

/-- COLL_BEGIN: a held collective whose turn has come begins, or one that has begun opens its data phase. -/
def execCollBegin (coll : Nat) (s : State) := s.act fun d =>
  match d.findColl coll with
  | none => d
  | some c =>
    if c.opened then d
    else if c.begun.isSome then d.tryOpen coll
    else if d.mayBegin c then (d.startColl c).tryOpen coll
    else d

/-! ### Class 3 cells (R351, R337) -/

def isColl (c : Cell) : Bool := c.cls == 3

/-- COLLECTIVE_CELL: matched by group and tag; it waits for the engine, aborts, or is discarded (R351). -/
def execCollectiveCell (rx : Nat) (s : State) := s.act fun d =>
  d.onRx rx isColl fun d r =>
    let c := r.cell
    match d.collNamed c.collGroup c.collTag with
    | some x =>
      if x.start % 1024 ≠ c.collStart then (d.dropRx r).abortColl x.group x.tag x.start COLL_ORDER_MISMATCH
      else (d.takeRx r).modColl x.id fun x => { x with cells := x.cells ++ [r] }
    | none =>
      if d.coll.ended.contains (c.collGroup, c.collTag) then (d.dropRx r).countSat CE_SAT_late 1
      else (d.dropRx r).abortColl c.collGroup c.collTag c.collStart COLL_ORDER_MISMATCH

/-- What a cell is to a collective that has begun: its stage, and the item and place it carries. -/
def CollView.placeOf (v : CollView) (c : Cell) : Option (Stage × Nat × Nat) :=
  match (v.stages c.collPart)[c.collStage]? with
  | none => none
  | some s =>
    let m := v.itemCells s
    if !v.sends s c.src ∨ m = 0 ∨ 2 < c.collType then none
    else match (v.flow c.collPart s c.src v.own)[c.collIndex / m]? with
      | some q => some (s, q, c.collIndex % m)
      | none => none

/-- What a chunk takes of accumulation memory while a stage receives it, in units of 16 KiB: each contribution that must be kept apart,
twice when sampled, or a running sum, or a result; a block is written as it comes. -/
def Dev.chunkUnits (d : Dev) (v : CollView) (s : Stage) (q : Nat) : Nat :=
  if s.mode == .reduce || s.mode == .whole then
    (if d.sampled v q then 2 * boxExt v.box s.axis else if v.c.direct then boxExt v.box s.axis else 1)
  else if v.c.chunked then 1 else 0

/-- What a slot takes now: this member's own source chunk waits in local memory, a partial sum of its own in one unit. -/
def Dev.slotUnits (d : Dev) (v : CollView) (x : CollSlot) : Nat :=
  if x.cells.isEmpty then (if x.stage = 0 then 0 else 1)
  else match (v.stages x.part)[x.stage]? with
    | some s => d.chunkUnits v s x.item
    | none => 0

/-- Units of accumulation memory in use. -/
def Dev.sumRoom (d : Dev) : Nat :=
  (d.coll.held.map fun c => (c.slots.map (d.slotUnits (d.view c))).foldl (· + ·) 0).foldl (· + ·) 0

/-- Whether accumulation memory, 64 MiB, has room for a cell's chunk (R337). -/
def Dev.roomFor (d : Dev) (v : CollView) (p : Nat) (s : Stage) (si q : Nat) : Bool :=
  let x := v.c.slot p si q
  !x.cells.isEmpty || decide (d.sumRoom + d.chunkUnits v s q ≤ 4096 + (if v.c.slots.contains x then d.slotUnits v x else 0))

/-- COLL_CELL_ACCEPT: the engine takes a waiting cell: it adds the contribution, or stores the result and sends it on. -/
def execCollCellAccept (rx : Nat) (s : State) := s.act fun d =>
  match d.coll.held.find? fun c => c.cells.any (·.id == rx) with
  | none => d
  | some c =>
    match c.cells.find? (·.id == rx) with
    | none => d
    | some r =>
      let v := d.view c
      if !c.opened then d
      else if v.ranges.any fun r => !d.present r.1 r.2 then d.abortColl c.group c.tag c.start CFG_RANGE
      else if v.ranges.any fun r => d.held r.1 r.2 then d
      else
        let cell := r.cell
        let p := cell.collPart; let si := cell.collStage
        let take (d : Dev) : Dev := (d.freeRx r).modColl c.id fun c => { c with cells := c.cells.filter (·.id != rx) }
        match v.placeOf cell with
        | none => take d
        | some (st, q, pos) =>
          if !d.roomFor v p st si q then d
          else
            let data := cell.payload.take cell.len
            let slot := c.slot p si q
            let part : CollPart := ⟨cell.src, cell.collType == 2, pos, data, cell.collAcct⟩
            let slot := { slot with cells := slot.cells ++ [part] }
            let m := v.itemCells st
            let d := take d
            let whole := (slot.from cell.src part.dup).length == m
            let d := if whole && !part.dup then
                d.digest c.id cell.src q si ((slot.from cell.src false).flatMap (·.data)) true else d
            if st.mode = .reduce ∨ st.mode = .whole then
              let x := v.cellValues p q si data
              let slot := if part.dup then slot
                else { slot with sum := c.addAt slot.sum (pos * (256 * 8 / c.wireFmt.bits)) x,
                                 ex := if c.wire = 2 then modAt slot.ex pos (max (sext 8 cell.collAcct)) else slot.ex }
              match d.slotResult v st slot with
              | none => d.modColl c.id (·.putSlot slot)
              | some (.error f) => d.sampleFail c f
              | some (.ok y) =>
                ((d.modColl c.id fun c => { c.delSlot slot with toSum := c.toSum - 1 }).readyChunk 6 c.id p q (si + 1) y slot.ex).dataCheck c.id
            else if whole then
              let l := slot.from cell.src false
              let prop := match l with | h :: _ => h.acct | [] => 0
              (((d.modColl c.id (·.delSlot slot)).known v p q (si + 1) (l.flatMap (·.data)) prop)).dataCheck c.id
            else d.modColl c.id (·.putSlot slot)

/-! ### Deadlines, aborts and the seal -/

/-- COLL_DEADLINE (R372). -/
def execCollDeadline (coll : Nat) (s : State) := s.act fun d =>
  match d.findColl coll with
  | some c => if !c.dataDone && decide (c.start + c.deadline ≤ d.frame) then d.abortColl c.group c.tag c.start TIMEOUT_COLLECTIVE else d
  | none => d

/-- COLL_ABORT (R373). -/
def execCollAbort (rx : Nat) (s : State) := s.act fun d =>
  d.onRx rx (isBell kCollAbort) fun d r => (d.dropRx r).abortWith r.cell.payload

/-- COLL_ABORT_REPEAT: every 64 frames for 1,024 frames (R373). -/
def execCollAbortRepeat (abort : Nat) (s : State) := s.act fun d =>
  match d.coll.aborts.find? (·.id == abort) with
  | some a =>
    if a.next ≤ d.frame ∧ d.frame ≤ a.since + 1024 then
      (d.modCollSt fun s => { s with aborts := s.aborts.map fun x => if x.id == abort then { x with next := a.next + 64 } else x }).bellGroup
        a.group kCollAbort a.payload
    else d
  | none => d

/-- COLL_DONE: a stage record of a group partner (R374, R379). -/
def execCollDone (rx : Nat) (s : State) := s.act fun d =>
  d.onRx rx (isBell kCollDone) fun d r =>
    let d := d.dropRx r
    let pl := r.cell.payload
    let stage := leAt pl 2 1
    match d.collNamed (leAt pl 0 2) (leAt pl 4 4) with
    | some c =>
      if c.start ≠ leAt pl 8 8 ∨ c.heard.any (fun h => h.1 == stage && h.2.1 == r.cell.src) then d
      else (d.modColl c.id fun c => { (c.slower (leAt pl 18 2) (leAt pl 20 4)) with
        heard := c.heard ++ [(stage, r.cell.src, leAt pl 16 2)] }).advanceSeal 6 c.id
    | none => d

/-- COLL_DONE_REPEAT: each record every 16 frames, until 1,024 frames after the seal (R374). -/
def execCollDoneRepeat (coll : Nat) (s : State) := s.act fun d =>
  match d.coll.dones.find? (·.coll == coll) with
  | some x =>
    if (match x.sealedAt with | some f => decide (f + 1024 < d.frame) | none => false) then
      d.modCollSt fun s => { s with dones := s.dones.filter (·.coll != coll) }
    else
      let due (r : Nat × Nat × List Byte) : Bool := decide (r.2.1 + 16 ≤ d.frame)
      let send (d : Dev) (r : Nat × Nat × List Byte) : Dev :=
        if due r then (axisPartners (d.boxOf x.group) d.fid r.1).foldl (fun d f => d.bellTo f kCollDone r.2.2) d else d
      (x.recs.foldl send d).modCollSt fun s => { s with dones := s.dones.map fun y =>
        if y.coll == coll then { y with recs := y.recs.map fun r => if due r then (r.1, d.frame, r.2.2) else r } else y }
  | none => d

/-! ### Digests (R381) -/

/-- DIGEST_REQ: a partner asks for this member's digests. -/
def execDigestReq (rx : Nat) (s : State) := s.act fun d =>
  d.onRx rx (isBell kDigestReq) fun d r =>
    let d := d.dropRx r
    let tag := leAt r.cell.payload 0 4; let f := leAt r.cell.payload 4 4
    let x := d.digestsFor tag f
    d.bellTo f kDigestRep (padTo 256 (leBytes 4 tag ++ leBytes 4 d.fid ++ leBytes 8 x.1.toNat ++ leBytes 8 x.2.toNat))

/-- One pair of digests that differs. -/
def Dev.digestDiffers (d : Dev) (f tag : Nat) (own : Bool) : Dev :=
  (d.integEvent 2 f tag own).raise 0x0A 1 (f % 2 ^ 20) (tag + COLL_INTEGRITY * 2 ^ 32)

/-- DIGEST_REP: both pairs are compared, and a DIGEST_COMPARE that waits for this partner goes on. -/
def execDigestRep (rx : Nat) (s : State) := s.act fun d =>
  d.onRx rx (isBell kDigestRep) fun d r =>
    let d := d.dropRx r
    let pl := r.cell.payload
    let tag := leAt pl 0 4; let f := leAt pl 4 4
    let x := d.digestsFor tag f
    let theirs := decide (leAt pl 8 8 ≠ x.2.toNat); let mine := decide (leAt pl 16 8 ≠ x.1.toNat)
    let d := if theirs then d.digestDiffers f tag false else d
    let d := if mine then d.digestDiffers f tag true else d
    (d.cp.cmds.filter fun c => c.opcode == 0x0502 && c.phase == .running && c.p 1 % 2 ^ 32 == tag).foldl (fun d c =>
      match c.aux with
      | n :: rest =>
        if rest.contains f then
          let n := n + b2n theirs + b2n mine
          let rest := rest.erase f
          if rest.isEmpty then d.complete c OK n else d.keepCmd c (n :: rest)
        else d
      | [] => d) d

/-- DIGEST_COMPARE (R381, R400). -/
def execDigestCompare (cmd : Nat) (s : State) := s.act fun d => d.onCmd cmd 0x0502 fun d c =>
  let g := c.p 0 % 4096; let tag := c.p 1 % 2 ^ 32
  if !d.flag CE_STATUS_digest_present then d.complete c ABSENT_UNIT
  else
    let partners := d.groupPartners g
    if partners.isEmpty then d.complete c OK 0
    else (d.keepCmd c (0 :: partners)).askDigests g tag c.id

/-! ### Submitting (R344, R345, R369, R371) -/

/-- No reserved value in a record (R344 step 1, R369); a part without the apply unit holds no program, and answers in step 4 (R400). -/
def Dev.recordClean (d : Dev) (c : Coll) : Bool :=
  let k := c.kind
  decide (c.f 4 2 < 4096) && decide (1 ≤ k) && decide (k ≤ 8) && decide (c.alg < 4) && decide (c.f 44 1 < 12) && decide (c.wire < 3) &&
  decide (c.op < 3) && decide (c.f 47 1 < 8) && decide (c.f 52 1 < 2) && c.f 53 11 == 0 && c.f 115 13 == 0 &&
  (k != 7 || (decide (c.f 112 1 < 16) && decide (c.words < 5) && (!d.flag CE_STATUS_apply_present || (d.applyProg (c.f 112 1)).isSome))) &&
  (!(k == 7 || k == 8) || c.f 114 1 == 1 || c.f 114 1 == 3)

/-- The kind, formats, wire, op and algorithm form a row of Table 10-2. -/
def Coll.rowOk (c : Coll) : Bool :=
  let float := c.fmt == .fp32 || c.fmt == .bf16 || (c.fmt == .fp16 && c.wire != 0)
  let wireOk := if c.fmt == .int32 then c.wire == 0 else c.wire != 2 || c.op == 0
  match c.kind with
  | 1 => (float || c.fmt == .int32) && wireOk
  | 2 => (float || c.fmt == .int32) && wireOk && c.alg != 3
  | 7 => (c.fmt == .fp32 || c.fmt == .bf16) && c.wire == 2 && c.op == 0 && (c.alg == 0 || c.alg == 2)
  | _ => c.op == 0 && c.wire == 0

/-- DIRECT: one axis with an extent above 1, no sheets, and a wire other than AS8 (R344 step 3). -/
def Dev.directOk (d : Dev) (c : Coll) : Bool :=
  let b := d.boxOf c.group
  !(c.reduces && c.alg == 3) || ((boxAxes b).length == 1 && boxExt b 3 == 1 && c.wire != 2)

/-- Start frame, counts and deadline (R344 step 5). -/
def Dev.countsOk (d : Dev) (c : Coll) : Bool :=
  decide (d.frame + 64 ≤ c.start) && decide (c.start ≤ d.frame + 2 ^ 28) &&
  (c.kind == 6 || (decide (1 ≤ c.count) && decide (c.count ≤ 2 ^ 38))) &&
  decide (64 ≤ c.deadline) && decide (c.deadline ≤ 2 ^ 24) &&
  (c.kind != 4 || decide (c.root < boxSize (d.boxOf c.group)))

/-- A rollback of a Smelt since whose apply another was applied on the group (R371). -/
def Dev.rollbackLate (d : Dev) (c : Coll) : Bool :=
  let l := (d.coll.applied.filter (·.1 == c.group)).map (·.2)
  c.kind == 8 && l.contains c.tag && l.head? != some c.tag

/-- The checks of R344 in order; OK when all pass. -/
def Dev.checkRecord (d : Dev) (c : Coll) : Nat :=
  if !d.recordClean c then BAD_FIELD
  else if !d.flag (CE_GROUP_BOX_valid c.group) || !c.rowOk then CFG_CONFLICT
  else if !d.directOk c then CFG_CONFLICT
  else if (c.kind = 7 ∨ c.kind = 8) ∧ !d.flag CE_STATUS_apply_present then ABSENT_UNIT
  else if !d.countsOk c then CFG_RANGE
  else if d.coll.held.any (fun x => x.group == c.group && (x.start == c.start || x.tag == c.tag)) || d.rollbackLate c then CFG_CONFLICT
  else if (members (d.boxOf c.group)).any d.fenced then PEER_FENCED
  else if (members (d.boxOf c.group)).any (fun f => d.absent f || !d.inMap f) then NO_ROUTE
  else if 64 ≤ d.coll.held.length then QUEUE_FULL
  else if !d.flag CE_CTRL_enable then CFG_CONFLICT
  else OK

/-- Submit the record at an address: held with OK, or refused with its reason (R345). -/
def Dev.submit (d : Dev) (a : Nat) (cmd : Option Nat) : WriteRes :=
  if !d.present a 128 then (d.setReg CE_SUBMIT_STAT (BitVec.ofNat 64 (CFG_RANGE * 2 ^ 48)), CFG_RANGE)
  else
    let d := d.scrub a 128
    if d.poisoned a 128 then (d.setReg CE_SUBMIT_STAT (BitVec.ofNat 64 (UNCORRECTABLE * 2 ^ 48)), UNCORRECTABLE)
    else
      let c := collOf (d.bytesAt a 128) d.nextId cmd
      let r := if a % 64 ≠ 0 then BAD_FIELD else d.checkRecord c
      if r = OK then ((d.bump.modCollSt fun s => { s with held := s.held ++ [c] }).ceStat, OK)
      else ((d.setReg CE_SUBMIT_STAT (BitVec.ofNat 64 (r * 2 ^ 48 + c.tag))).arriveAt c.tally true, r)

/-- COLL_START: the command completes when the collective does. -/
def execCollStart (cmd : Nat) (s : State) := s.act fun d => d.onCmd cmd 0x0500 fun d c =>
  if d.held (c.p 0) 128 then d
  else d.viaNarrow c (if c.p 0 % 64 = 0 ∧ d.present (c.p 0) 128 then [(c.p 0, 128)] else []) fun d => match d.submit (c.p 0) (some c.id) with
    | (d, r) => if r = OK then d.keepCmd c [] else d.complete c r

/-- A write to CE_SUBMIT; a record in memory that is being initialised is read when that ends. -/
def Dev.ceSubmitW (d : Dev) (v : Word64) : WriteRes :=
  let a := wget v 47 6 * 64
  if d.held a 128 then (d.modCollSt fun s => { s with submits := s.submits ++ [a] }, OK) else d.submit a none

/-- Records whose memory is no longer being initialised are read (R150, R208). -/
def Dev.submitWaiting (d : Dev) : Dev :=
  let (wait, go) := d.coll.submits.partition fun a => d.held a 128
  go.foldl (fun d a => (d.submit a none).1) (d.modCollSt fun s => { s with submits := wait })

def execCeSubmit (v : Word64) (s : State) := s.act fun d => d.ownWrite CE_SUBMIT v true fun d => d.ceSubmitW v

/-- COLL_CANCEL: an abort from this member (R376). -/
def execCollCancel (cmd : Nat) (s : State) := s.act fun d => d.onCmd cmd 0x0501 fun d c =>
  let g := c.p 0 % 4096; let tag := c.p 1 % 2 ^ 32
  match d.collNamed g tag with
  | some x => (d.abortColl g tag x.start COLL_ABORTED).complete c OK 1
  | none => (d.abortColl g tag 0 COLL_ABORTED).complete c OK 0

/-! ### Registers -/

/-- A write to CE_CTRL: 0 aborts every held collective (Table 10-10). -/
def Dev.ceCtrlW (d : Dev) (v : Word64) : WriteRes :=
  if bitAt v.toNat 0 then (d.setFld CE_CTRL_enable 1, OK)
  else
    let d1 := d.setFld CE_CTRL_enable 0
    (if d.flag CE_CTRL_enable then d.coll.held.foldl (fun d c => d.abortColl c.group c.tag c.start COLL_ABORTED) d1 else d1, OK)

def execCeCtrlEnable (v : Word64) (s : State) := s.act fun d => d.ownWrite CE_CTRL v true fun d => d.ceCtrlW v

/-- The check of R340 on the box of group g. -/
def Dev.groupOk (d : Dev) (g : Nat) : Bool :=
  let b := d.boxOf g
  let within (e a : Nat) : Bool := decide ((b.getD a (0, 0)).2 < e)
  match d.fab.map with
  | none => false
  | some m =>
    b.all (fun x => decide (x.1 ≤ x.2)) && decide (2 ≤ boxSize b) && inBox b d.fid &&
    within m.ex 0 && within m.ey 1 && within m.ez 2 && within m.sheets 3 &&
    (!m.twoD || (b.getD 2 (0, 0)) == (0, 0)) && (m.atlas || (b.getD 3 (0, 0)).1 == (b.getD 3 (0, 0)).2)

/-- Whether a value would change a field of a valid descriptor other than valid, its own ENABLE (Table 11-11, R24). -/
def Dev.groupFixed (d : Dev) (g off : Nat) (v : Word64) : Bool :=
  d.flag (CE_GROUP_BOX_valid g) && (fieldsAt off).any fun f =>
    f.acc == .rw && f.hi != 63 && wget v f.hi f.lo != wget (d.reg off) f.hi f.lo

/-- A write to a group descriptor (R340, R341).  guardWrite has refused, under R24, a change while CE_CTRL.enable is set. -/
def Dev.ceGroupW (d : Dev) (g off : Nat) (v : Word64) : WriteRes :=
  if d.coll.held.any (·.group == g) || d.groupFixed g off v then d.refuse off BUSY_RUNNING
  else
    let d := d.store off v
    if off = CE_GROUP_BOX g ∧ bitAt v.toNat 63 ∧ !d.groupOk g then (d.setFld (CE_GROUP_BOX_valid g) 0).refuse off CFG_RANGE else (d, OK)

def execCeGroupValid (g : Nat) (v : Word64) (s : State) := s.act fun d =>
  d.ownWrite (CE_GROUP_BOX g) v (decide (g < 4096)) fun d => d.ceGroupW g (CE_GROUP_BOX g) v

/-- A write to an apply window (R369): refused while a held Smelt names the program. -/
def Dev.ceApplyW (d : Dev) (off : Nat) (v : Word64) : WriteRes :=
  let k := (off - applyBase 0) / 0x100
  if d.coll.held.any fun c => c.kind == 7 && c.f 112 1 == k then d.refuse off BUSY_RUNNING else (d.setReg off v, OK)

end Sys2Proof.Machine
end

