-- ==== Sys2Proof/Machine/Grid.lean ====
section
/-!
DEFINITION. Sys2Proof/Machine/Grid.lean: grid time (chapter 2): the datum, ranging and alignment, grid states, and batches.  A
fine step is 12.5 ps, 32 of them a grid cycle and 512 cycles a frame.  FRAME_BOUNDARY stands in Machine/Frame.lean.
-/

namespace Sys2Proof.Machine

/-! ### Constants and states -/

/-- ±0.5 ns and 165 ns in fine steps, and a frame. -/
def alignLimit : Nat := 40
def rangeLimit : Nat := 13200

/-- The frames without an announce after which it counts as lost (R48, R50). -/
def announceLost : Nat := 2048

/-- What the grid frequency is held to: a master's reference input when it is used and present, else its own oscillator (R46); a
member's partners (R47); before a join the oscillator (R45). -/
def Dev.anchorNow (d : Dev) : Anchor :=
  if d.gridState = 5 then (if d.flag GD_CTRL_use_ref && d.flag GD_STATUS_ref_present then .reference else .oscillator)
  else if 2 ≤ d.gridState then .partners
  else .oscillator

/-- Take up the anchor; the offset from nominal under another anchor is free. -/
def Dev.reanchor (d : Dev) : Dev :=
  if d.grid.anchor = d.anchorNow then d
  else
    let a := d.anchorNow
    let d := (d.draw 1).setFld GD_PHASE_freq_ppb (d.freeAt 0).toNat
    { d with grid := { d.grid with anchor := a } }

/-- Move to a grid state; a change is a device event (Tables 2-3 and 11-9). -/
def Dev.setGridState (d : Dev) (st : Nat) : Dev :=
  if d.gridState = st then d
  else
    let d := (d.setFld GD_STATUS_state st).reanchor
    d.event 7 st (wget (d.reg GD_STATUS) 31 0)

/-- Every (port, colour) of a partner; colour 0 reaches one on a ZB circuit only (R298). -/
def portColours : List (Nat × Nat) := (List.range 6).flatMap fun p => (List.range 16).map fun i => (p, i)

/-- The cause of the grid source persists while holdover has expired or a partner is out of range (Table 12-1). -/
def Dev.gridCause (d : Dev) : Dev :=
  d.setActive 0x06 (d.flag GD_STATUS_holdover_expired || portColours.any fun x => d.flag (GD_RANGE_out_of_range x.1 x.2))

/-- GD_STATUS.aligned_partners, and what the first or last aligned partner does to the state (Table 2-3). -/
def Dev.alignmentChanged (d : Dev) : Dev :=
  let n := (portColours.filter fun x => d.flag (GD_RANGE_aligned x.1 x.2)).length
  let d := d.setFld GD_STATUS_aligned_partners n
  if d.gridState = 2 ∧ n ≠ 0 then d.setGridState 3
  else if (d.gridState = 3 ∨ d.gridState = 4) ∧ n = 0 then d.setGridState 2
  else d

/-- What is known of a partner. -/
def Partner.unknown : Partner := ⟨0, 0, 0, none, none⟩
def Dev.partner (d : Dev) (p c : Nat) : Partner := smGet (fun _ => Partner.unknown) d.grid.partners (p * 16 + c)
def Dev.setPartner (d : Dev) (p c : Nat) (x : Partner) : Dev :=
  { d with grid := { d.grid with partners := smPut (fun _ => Partner.unknown) d.grid.partners (p * 16 + c) x } }

/-- A partner is aligned or not. -/
def Dev.setAligned (d : Dev) (p c : Nat) (b : Bool) : Dev := (d.setFld (GD_RANGE_aligned p c) (b2n b)).alignmentChanged

/-- Forget every partner. -/
def Dev.dropPartners (d : Dev) : Dev :=
  let d := portColours.foldl (fun d x => (d.setFld (GD_RANGE_aligned x.1 x.2) 0).setFld (GD_RANGE_out_of_range x.1 x.2) 0) d
  Dev.gridCause { (d.setFld GD_STATUS_aligned_partners 0) with grid := { d.grid with partners := [], bellRun := [] } }

/-- Enter LISTEN: nothing has been heard. -/
def Dev.enterListen (d : Dev) : Dev :=
  let d := d.dropPartners
  let g := { d.grid with listen := 0, heard := false, heardFrame := none, holdover := 0, counting := false }
  Dev.setGridState { d with grid := g } 1

/-- A batch that a jump ends, or sets back to armed, leaves nothing in the next copies. -/
def Dev.unstageBatch (d : Dev) : Dev :=
  if d.fld GD_BATCH_STATUS_state = 2 then
    let offs := (List.range (min 64 (d.fld GD_BATCH_CTRL_count))).map d.batchOff
    { (d.setFld GD_BATCH_STATUS_state 1) with next := d.next.filter fun e => !offs.contains e.1 }
  else d

/-- The count changes: held commands, and a batch, are judged against the new count (R81). -/
def Dev.frameJump (d : Dev) (f : Nat) : Dev :=
  let d := (d.setReg GD_FRAME (BitVec.ofNat 64 f)).setFld GD_STATUS_frame_jumped 1
  let d := (d.cp.cmds.filter fun c => c.phase == .held && c.atFrame && decide (c.frame < f + 64)).foldl
    (fun d c => d.complete c CFG_RANGE) d
  let d := d.unstageBatch
  if d.fld GD_BATCH_STATUS_state = 1 ∧ d.fld GD_BATCH_FRAME_frame < f + 2 then
    (d.setFld GD_BATCH_STATUS_state 4).setFld GD_BATCH_STATUS_reason CFG_RANGE
  else d

/-! ### The datum -/

/-- Follow a datum. -/
def Dev.follow (d : Dev) (master backup gen hops : Nat) : Dev :=
  d.setReg GD_MASTER (BitVec.ofNat 64 (master % 2 ^ 20 + backup % 2 ^ 20 * 2 ^ 20 + gen % 2 ^ 16 * 2 ^ 40 + hops % 256 * 2 ^ 56))

/-- An announce has been heard: what counts frames without one starts again (R48, R50, R51). -/
def Dev.announceHeard (d : Dev) : Dev :=
  Dev.gridCause { (d.setFld GD_STATUS_holdover_expired 0) with grid := { d.grid with silent := 0, holdover := 0, counting := false } }

/-- A datum announce: master, backup, generation, hop count. -/
def announceBytes (master backup gen hops : Nat) : List Byte :=
  leBytes 4 master ++ leBytes 4 backup ++ leBytes 2 gen ++ leBytes 1 hops

/-- Send an announce to every aligned partner. -/
def Dev.sendAnnounce (d : Dev) (hops : Nat) : Dev :=
  d.bellAligned kDatum (announceBytes (d.fld GD_MASTER_master_id) (d.fld GD_MASTER_backup_id) (d.fld GD_MASTER_generation) hops)

/-- DATUM_ANNOUNCE_SEND: every 256 frames, by the master. -/
def execDatumAnnounceSend (s : State) := s.act fun d =>
  if d.gridState = 5 ∧ d.frame % 256 = 0 then d.sendAnnounce 0 else d

/-- The join of a grid: 16 consecutive bell cells have been decoded from one partner, and the count becomes the grid's (Table 2-3). -/
def Dev.joinGrid (d : Dev) : Dev :=
  if d.grid.bellRun.any fun x => decide (16 ≤ x.2) then
    match d.grid.heardFrame with
    | some o => (d.frameJump ((d.frame : Int) + o).toNat).setGridState 2
    | none => ((d.draw 1).frameJump (d.freeAt 0).toNat).setGridState 2
  else d

/-- A device that has heard an announce in LISTEN joins once the cells have come (Table 2-3). -/
def Dev.joinHeard (d : Dev) : Dev := if d.gridState = 1 ∧ d.grid.heard then d.joinGrid else d

/-- What an announce followed does to the grid state. -/
def Dev.announceState (d : Dev) (gen own : Nat) : Dev :=
  if d.gridState = 1 then d.joinGrid
  else if d.gridState = 4 then d.setGridState 3
  else if d.gridState = 5 ∧ own < gen then
    Dev.setGridState { d with grid := { d.grid with demoted := true } } 3
  else d

/-- DATUM_ANNOUNCE: the first copy is forwarded, and the highest generation is followed (R49). -/
def execDatumAnnounce (rx : Nat) (s : State) := s.act fun d => d.onRx rx (isBell kDatum) fun d r =>
  let d := d.dropRx r
  let pl := r.cell.payload
  let gen := leAt pl 8 2; let own := d.fld GD_MASTER_generation
  if d.gridState = 0 ∨ gen < own ∨ (d.gridState = 5 ∧ gen ≤ own) then d
  else
    let first := decide (own < gen) || decide (128 ≤ d.grid.silent) || (d.gridState == 1 && !d.grid.heard)
    let d := ((d.follow (leAt pl 0 4) (leAt pl 4 4) gen (leAt pl 10 1)).announceHeard).announceState gen own
    let d := { d with grid := { d.grid with heard := true } }
    if first && d.gridServes then d.sendAnnounce (leAt pl 10 1 + 1) else d

/-- Whether the Map names this device as master, or as backup. -/
def Dev.namedMaster (d : Dev) : Bool := match d.fab.map with | some m => m.master == d.fid | none => false
def Dev.namedBackup (d : Dev) : Bool := match d.fab.map with | some m => m.backup == d.fid | none => false

/-- The backup that the Map names. -/
def Dev.mapBackup (d : Dev) : Nat := match d.fab.map with | some m => m.backup | none => noFid

/-- MASTER_TAKEOVER (R48). -/
def execMasterTakeover (s : State) := s.act fun d =>
  if d.gridState = 4 ∧ d.fld GD_MASTER_backup_id = d.fid ∧ announceLost ≤ d.grid.silent ∧ d.frame % 256 = 0 ∧ !d.grid.demoted then
    ((d.follow d.fid (d.fld GD_MASTER_backup_id) (d.fld GD_MASTER_generation + 1) 0).announceHeard.setGridState 5).sendAnnounce 0
  else d

/-- HOLDOVER_ENTRY (R50). -/
def execHoldoverEntry (s : State) := s.act fun d =>
  if d.gridState = 3 ∧ announceLost ≤ d.grid.silent then
    Dev.setGridState { d with grid := { d.grid with counting := true } } 4
  else d

/-- HOLDOVER_EXPIRED (R51). -/
def execHoldoverExpired (s : State) := s.act fun d =>
  if d.fld GD_HOLDOVER_LIMIT_limit < d.grid.holdover ∧ !d.flag GD_STATUS_holdover_expired then
    ((d.setFld GD_STATUS_holdover_expired 1).raise 0x06 1 0 0).gridCause
  else d

/-- COLD_START_LISTEN_END: a device named as master, or as backup, that heard no grid starts one. -/
def execColdStartListenEnd (s : State) := s.act fun d =>
  if d.gridState = 1 ∧ !d.grid.heard ∧ !d.grid.demoted ∧
      ((d.namedMaster ∧ 2048 ≤ d.grid.listen) ∨ (d.namedBackup ∧ 4096 ≤ d.grid.listen)) then
    let d := d.frameJump (d.fld GD_FRAME_INIT_init)
    ((d.follow d.fid d.mapBackup 1 0).announceHeard.setGridState 5).sendAnnounce 0
  else d

/-! ### Ranging -/

/-- Fine steps as GD_RANGE_p_c bits [21:0]. -/
def encodeAdv (a : Nat) : Nat := a % 32 + a / 32 % 512 * 2 ^ 6 + a / frameSteps % 64 * 2 ^ 16
def decodeAdv (v : Nat) : Nat := bitsOf v 4 0 + bitsOf v 14 6 * 32 + bitsOf v 21 16 * frameSteps

/-- Hold a launch advance; above the limit of the path the partner is out of range (R59). -/
def Dev.setAdvance (d : Dev) (p c : Nat) (a : Int) : Dev :=
  let d := d.setFld ⟨GD_RANGE p c, 21, 0⟩ (encodeAdv (clampI a 0 (64 * frameSteps - 1)).toNat)
  let limit := if d.isZb p then 64 * frameSteps else rangeLimit
  let far := decide ((limit : Int) < a)
  if far == d.flag (GD_RANGE_out_of_range p c) then d
  else
    let d := (d.setFld (GD_RANGE_out_of_range p c) (b2n far)).gridCause
    if far then d.raise 0x06 1 0 0 else d

/-- An echo corrects the advance, whole while acquiring and by at most two fine steps while aligned (R56). -/
def Dev.correct (d : Dev) (p c : Nat) (e : Int) : Dev :=
  let step := if d.flag (GD_RANGE_aligned p c) then clampI (Int.tdiv e 4) (-2) 2 else e
  (d.setAdvance p c ((d.advance_ p c : Int) + step)).setSfld (GD_RANGE_last_err p c) (clampI e (-32768) 32767)

/-- An echo counts toward the alignment of a partner (R57). -/
def Dev.judgeEcho (d : Dev) (p c : Nat) (e : Int) : Dev :=
  let x := d.partner p c
  let al := d.flag (GD_RANGE_aligned p c)
  let inside := decide (e.natAbs ≤ alignLimit)
  let x := { x with good := if inside then min 8 (x.good + 1) else 0, bad := if inside then 0 else min 2 (x.bad + 1), since := 0 }
  let d := d.setPartner p c x
  if !al && decide (8 ≤ x.good) then d.setAligned p c true
  else if al && decide (2 ≤ x.bad) then d.setAligned p c false
  else d

/-- An echo updates the advance and the alignment of a partner (R56, R57). -/
def Dev.echo (d : Dev) (p c : Nat) (e : Int) : Dev := (d.correct p c e).judgeEcho p c e

/-- The offset of own boundaries from a partner's that a pair of advances shows (R47). -/
def Dev.offsetTo (d : Dev) (p c : Nat) : Option Int :=
  (d.partner p c).reported.map fun r => Int.tdiv ((d.advance_ p c : Int) - (r : Int)) 2

/-- A former master is barred from the role (R49). -/
def Dev.demote (d : Dev) : Dev := if d.gridState = 5 then { d with grid := { d.grid with demoted := true } } else d

/-- A device returns to LISTEN under R52. -/
def Dev.relisten (d : Dev) : Dev := d.demote.enterListen

/-- Two devices that follow different generations have become partners: the lower adopts the higher where frame number and phase meet
R61, and else returns to LISTEN (R52). -/
def Dev.adoptDatum (d : Dev) (pl : List Byte) (meets : Bool) : Dev :=
  let gen := leAt pl 6 2
  if gen ≤ d.fld GD_MASTER_generation then d
  else if meets then
    let d := d.follow (leAt pl 24 4) (d.fld GD_MASTER_backup_id) gen (if leAt pl 5 1 = 5 then 0 else leAt pl 28 1 + 1)
    if d.gridState = 5 then d.demote.setGridState 3 else d
  else d.relisten

/-- The echo that a ranging cell carries; none when its sender has measured nothing. -/
def cellEcho (pl : List Byte) : Option Int := if leAt pl 20 4 = 2 ^ 31 then none else some (sext 32 (leAt pl 20 4))

/-- The arrival error of a ranging cell: its time against its slot, and against the frame at whose slot it is aimed (R55). -/
def rangingError (arrivalError : Int) (arrived aimed : Nat) : Int :=
  clampI (arrivalError + ((arrived : Int) - (aimed : Int)) * frameSteps) (-(2 ^ 31 - 1)) (2 ^ 31 - 1)

/-- What a ranging cell tells of its sender is kept. -/
def Dev.measureArrival (d : Dev) (p c : Nat) (e : Int) (pl : List Byte) : Dev :=
  d.setPartner p c { (d.partner p c) with measured := some e, reported := some (decodeAdv (leAt pl 16 4)) }

/-- A ranging cell aimed at another frame: its echo still corrects the advance, its sender is not aligned, a serving member or
master raises the grid source (R62), and a serving device with the lower generation returns to LISTEN (R52). -/
def Dev.otherFrame (d : Dev) (p c : Nat) (pl : List Byte) : Dev :=
  let st := d.gridState
  let d := match cellEcho pl with | some e => d.correct p c e | none => d
  let d := (d.setPartner p c { (d.partner p c) with good := 0, bad := 0 }).setAligned p c false
  let d := if st = 3 ∨ st = 5 then d.raise 0x06 2 0 0 else d
  if 3 ≤ st ∧ d.fld GD_MASTER_generation < leAt pl 6 2 then d.relisten else d

/-- RANGING_CELL (R52, R55 to R59, R62).  Colour 0 is a partner's on a ZB circuit only (R298). -/
def execRangingCell (rx : Nat) (arrivalError : Int) (s : State) := s.act fun d => d.onRx rx (fun c => c.cls == 5) fun d r =>
  let d := d.dropRx r
  let p := r.port; let c := d.colourOf p r.cell.hopSrc
  let pl := r.cell.payload
  if d.gridState < 2 ∨ (c = 0 ∧ !d.isZb p) then d
  else
    let aimed := leAt pl 8 8
    let d := d.measureArrival p c (rangingError arrivalError r.frame aimed) pl
    if aimed ≠ r.frame then d.otherFrame p c pl
    else
      let was := d.flag (GD_RANGE_aligned p c)
      let d := match cellEcho pl with | some e => d.echo p c e | none => d
      let near := match d.offsetTo p c with | some o => decide (o.natAbs ≤ alignLimit) | none => true
      if !was && d.flag (GD_RANGE_aligned p c) then d.adoptDatum pl (near && decide (arrivalError.natAbs ≤ alignLimit)) else d

/-- ALIGNMENT_LOSS: 30 frames with no echo (R57). -/
def execAlignmentLoss (p c : Nat) (s : State) := s.act fun d =>
  if p < 6 ∧ c < 16 ∧ d.flag (GD_RANGE_aligned p c) ∧ 30 ≤ (d.partner p c).since then
    (d.setPartner p c { (d.partner p c) with good := 0, bad := 0 }).setAligned p c false
  else d

/-- Whether lane 31 of a port may carry a ranging cell on a colour: in service, or holding with the port while the colour's
monitor error in the last 10 us (48 frames) was within 12 GHz (R252). -/
def Dev.rangingLane (d : Dev) (p c : Nat) : Bool :=
  d.driftFitted p && d.fab.looped.contains p &&
  (d.laneCarries p 31 c ||
    (d.laneState p 31 == 3 && d.portHolds p && !((d.drift p).lane 31).cold && !d.bit (DR_LANE_STAT_qmask p 31) c &&
      (match smFind ((d.drift p).lane 31).lastErr c with
        | some (f, e) => decide (d.frame ≤ f + 48) && decide (e.natAbs ≤ 120)
        | none => false)))

/-- The payload of a ranging cell aimed at a frame (Table 2-2). -/
def Dev.rangingBytes (d : Dev) (p c f : Nat) : List Byte :=
  let echo := match (d.partner p c).measured with | some e => wrap 32 e | none => 2 ^ 31
  leBytes 4 d.fid ++ leBytes 1 p ++ leBytes 1 d.gridState ++ leBytes 2 (d.fld GD_MASTER_generation) ++ leBytes 8 f ++
    leBytes 4 (encodeAdv (d.advance_ p c)) ++ leBytes 4 echo ++ leBytes 4 (d.fld GD_MASTER_master_id) ++
    leBytes 1 (d.fld GD_MASTER_hops)

/-- Colour and coordinate of slot 15 of frame f: colour 1 + (f mod 15), or the colour of a ZB circuit (R53, R231). -/
def Dev.rangingSlot (d : Dev) (p f : Nat) : Nat × Nat :=
  let c := if d.isZb p then (match d.ownEntry with | some e => e.zbColour | none => 0) else 1 + f % 15
  (c, d.coordVia p c)

/-- The ranging cell for slot 15 of frame f. -/
def Dev.rangingOf (d : Dev) (p c y f : Nat) : Cell :=
  { d.newCell 5 0 0 (d.partnerAt p y) (d.rangingBytes p c f) 29 0 with hopSrc := d.coordOn p, hopDst := y, epoch := d.versionAt f }

/-- RANGING_SEND: the cell of slot 15, launched earlier by its advance, and the monitor reads lane 31's error (R53, R56, R246). -/
def execRangingSend (p : Nat) (s : State) := s.act fun d =>
  if 6 ≤ p ∨ d.gridState < 2 then d
  else match d.aim p 15 fun f => some (d.rangingSlot p f) with
    | none => d
    | some (f, c, y) =>
      if d.rangingLane p c then (d.launch p 31 15 c f (d.rangingOf p c y f)).monitor31 p c else d

/-- The mean offset to aligned partners in fine steps, and how many there are (R47). -/
def Dev.meanOffset (d : Dev) : Int × Nat :=
  let l := portColours.filterMap fun x => if d.flag (GD_RANGE_aligned x.1 x.2) then d.offsetTo x.1 x.2 else none
  (if l.isEmpty then 0 else Int.tdiv (l.foldl (· + ·) 0) l.length, l.length)

/-- SYNC_STEER: every 15 frames a member steers its phase by at most one fine step against the mean offset (R47); the frequency that
results is free. -/
def execSyncSteer (s : State) := s.act fun d =>
  if 2 ≤ d.gridState ∧ d.gridState ≤ 4 ∧ d.frame % 15 = 0 then
    let m := d.meanOffset
    if m.2 = 0 then d
    else
      let d := ((d.draw 1).setFld GD_PHASE_freq_ppb (d.freeAt 0).toNat).setSfld GD_PHASE_phase_err (clampI m.1 (-32768) 32767)
      { d with grid := { d.grid with phase := d.grid.phase - clampI m.1 (-1) 1 } }
  else d

/-! ### CELL_RECEIVE (R238, R518) -/

/-- The sender expected on lane 31 in a slot (R274). -/
def Dev.bellSender (d : Dev) (p slot : Nat) : Nat :=
  if d.isZb p then d.coordVia p 0 else (d.coordOn p + 15 - slot) % 16

/-- A bell cell for a device that is not its receiver goes on toward it (R352). -/
def Dev.bellOn (d : Dev) (c : Cell) : Dev :=
  if c.hops < 6 then d.bellVia c.bellKind c.payload ⟨c.src, c.dst, c.hops + 1, c.seq⟩ else d

/-- Whether a bell cell is for another device: collective records alone are relayed. -/
def Dev.bellElsewhere (d : Dev) (c : Cell) : Bool :=
  decide (0x20 ≤ c.bellKind) && decide (c.bellKind < 0x30) && c.dst != d.fid && c.dst != noFid

/-- A cell that a serving device accepts: bell and ranging cells are kept or go on, data and cage cells for this device are kept,
the others relayed. -/
def Dev.acceptCell (d : Dev) (p l slot : Nat) (c : Cell) : Dev :=
  let d := if c.cls = 4 ∧ c.bellKind ≠ kCredit then d.takeCredit p c else d
  if c.cls = 4 ∧ d.bellElsewhere c then d.bellOn c
  else if 4 ≤ c.cls then (if c.listed then d.keepRx p l slot c else d)
  else if c.dst = d.fid then (if c.listed then d.keepRx p l slot c else d.freeBuf p c.hopSrc (l == 30))
  else d.relay p l c

/-- A cell in LISTEN or RANGE: announces, ranging cells in RANGE, and in LISTEN the grid's count that a ranging cell shows. -/
def Dev.overhear (d : Dev) (p l slot : Nat) (c : Cell) : Dev :=
  if isBell kDatum c then d.keepRx p l slot c
  else if c.cls = 5 then
    (if d.gridState = 2 then d.keepRx p l slot c
     else { d with grid := { d.grid with heardFrame := some ((leAt c.payload 8 8 : Int) - (d.frame : Int)) } })
  else d

/-- CELL_RECEIVE: R238 in order, then what the grid state lets the device act on (R518). -/
def execCellReceive (p l slot : Nat) (bytes : List (BitVec 8)) (s : State) := s.act fun d =>
  if 6 ≤ p ∨ 32 ≤ l ∨ 16 ≤ slot ∨ !d.driftFitted p ∨ !d.flag (DR_CTRL_enable p) ∨ d.gridState = 0 then d
  else match readWire bytes with
    | none =>
      let d := d.countSat (DR_LANE_ERR_crc p l) 1
      if l = 31 ∧ slot < 15 then d.bellRun p (d.bellSender p slot) false else d
    | some c =>
      if c.hopDst ≠ d.coordOn p then
        if d.gridServes then d.misplaced p l slot c else d.countSat (DR_LANE_ERR_misdelivered p l) 1
      else
        let d := if c.cls = 4 ∧ l = 31 then (d.bellRun p c.hopSrc true).joinHeard else d
        if d.gridServes then (if d.accepts p c then d.acceptCell p l slot c else d)
        else d.overhear p l slot c

/-! ### GD_CTRL and batches -/

/-- A write to GD_CTRL: use_ref is staged, enable leaves OFF for LISTEN or returns to OFF (Table 2-7). -/
def Dev.gdCtrlW (d : Dev) (v : Word64) : WriteRes :=
  let on := d.flag GD_CTRL_enable
  let d := d.stage GD_CTRL v
  if bitAt v.toNat 0 && !on then ((d.setFld GD_CTRL_enable 1).enterListen, OK)
  else if !bitAt v.toNat 0 && on then
    let d := ((d.setFld GD_CTRL_enable 0).dropPartners.announceHeard).follow 0 0 0 0
    (d.setGridState 0, OK)
  else (d, OK)

def execGdCtrlEnable (v : Word64) (s : State) := s.act fun d => d.ownWrite GD_CTRL v true fun d => d.gdCtrlW v

/-- A batch is armed or writing. -/
def Dev.batchBusy (d : Dev) : Bool := d.fld GD_BATCH_STATUS_state == 1 || d.fld GD_BATCH_STATUS_state == 2

/-- A write that a batch in progress refuses (R69, R72). -/
def Dev.batchConflict (d : Dev) : WriteRes := (d.setFld GD_BATCH_STATUS_conflict 1, BUSY_RUNNING)

/-- Whether entry k names a register with a staged field. -/
def Dev.batchEntryOk (d : Dev) (k : Nat) : Bool :=
  decide (regSpaceBase ≤ d.fld (GD_BATCH_ADDR_addr k) * 8) && hasStaged (d.batchOff k)

/-- The first failure of R69 past its first check, OK when the batch may be armed. -/
def Dev.armCheck (d : Dev) (count : Nat) : Nat :=
  if count = 0 ∨ 64 < count then CFG_RANGE
  else if !((List.range count).all d.batchEntryOk) then BAD_FIELD
  else if d.fld GD_BATCH_FRAME_frame < d.frame + 4 ∨ d.frame + 2 ^ 28 < d.fld GD_BATCH_FRAME_frame then CFG_RANGE
  else OK

/-- A write to GD_BATCH_CTRL: cancel (R73), then arm (R69). -/
def Dev.batchCtrlW (d : Dev) (v : Word64) : WriteRes :=
  if d.batchBusy && (wget v 6 0 != d.fld GD_BATCH_CTRL_count || (bitAt v.toNat 8 && !bitAt v.toNat 9)) then d.batchConflict
  else
    let d := if bitAt v.toNat 9 && d.fld GD_BATCH_STATUS_state == 1 && decide (d.frame + 1 < d.fld GD_BATCH_FRAME_frame) then
      d.setFld GD_BATCH_STATUS_state 0 else d
    let d := d.setFld GD_BATCH_CTRL_count (wget v 6 0)
    if !bitAt v.toNat 8 then (d, OK)
    else if d.batchBusy then d.batchConflict
    else
      let r := d.armCheck (wget v 6 0)
      ((d.setFld GD_BATCH_STATUS_state (if r = OK then 1 else 4)).setFld GD_BATCH_STATUS_reason r, r)

def execGdBatchArm (v : Word64) (s : State) := s.act fun d =>
  d.ownWrite GD_BATCH_CTRL v (bitAt v.toNat 8) fun d => d.batchCtrlW v
def execGdBatchCancel (v : Word64) (s : State) := s.act fun d =>
  d.ownWrite GD_BATCH_CTRL v (bitAt v.toNat 9 && !bitAt v.toNat 8) fun d => d.batchCtrlW v

/-- Write the staged fields of every entry to the next copies, in entry order (R70). -/
def Dev.batchStage (d : Dev) : Dev :=
  ((List.range (min 64 (d.fld GD_BATCH_CTRL_count))).foldl (fun d k =>
    if d.regAbsent (d.batchOff k) then d else d.stage (d.batchOff k) (d.reg (GD_BATCH_DATA k))) d).setFld GD_BATCH_STATUS_state 2

/-- BATCH_WRITE: during frame F − 1. -/
def execBatchWrite (s : State) := s.act fun d =>
  if d.fld GD_BATCH_STATUS_state = 1 ∧ d.fld GD_BATCH_FRAME_frame = d.frame + 1 then d.batchStage else d

/-! ### The grid reference input (R507) -/

/-- GREF_PRESENT: the input has been within its limits for 1 ms. -/
def execGrefPresent (s : State) := s.actLegend fun d => (d.setFld GD_STATUS_ref_present 1).reanchor
/-- GREF_LOST: the master anchors to its own oscillator. -/
def execGrefLost (s : State) := s.actLegend fun d => (d.setFld GD_STATUS_ref_present 0).reanchor

end Sys2Proof.Machine
end

