-- ==== Sys2Proof/Machine/Fabric.lean ====
section
/-!
DEFINITION. Sys2Proof/Machine/Fabric.lean: the Map (R265 to R268), Survey (R269 to R273), slot plans (R277 to R283), routing epochs
(R292 to R295), fencing (R435, R436), eviction and readmission (R438, R440), and misdelivery notices (R248).
-/

namespace Sys2Proof.Machine

def Dev.modFab (d : Dev) (f : FabSt → FabSt) : Dev := { d with fab := f d.fab }
def Dev.modCanary (d : Dev) (f : CanarySt → CanarySt) : Dev := { d with canary := f d.canary }

/-! ### The row as the version in force sees it (R428, R431) -/

/-- Whether the row member at x is live in the version in force. -/
def Dev.rowLive (d : Dev) (x : Nat) : Bool :=
  match d.verMap d.version with
  | some m => d.fid != noFid && usable m (d.liveSet d.version) (d.memberFid x)
  | none => false

/-- L of R431. -/
def Dev.rowCount (d : Dev) : Nat := ((List.range 16).filter d.rowLive).length

/-- Voters for row member x: votes that have not lapsed, and this device when it suspects x (R430, R431). -/
def Dev.voters (d : Dev) (x : Nat) : List Nat :=
  (List.range 16).filter fun v =>
    (d.canary.votes.any fun w => w.suspect == x && w.voter == v && decide (d.frame < w.at_ + 64)) ||
      (v == fidX d.fid && (smFind d.canary.suspects x).isSome)

/-- Whether votes for x make a quorum (R431). -/
def Dev.hasQuorum (d : Dev) (x : Nat) : Bool := d.rowLive x && decide (d.rowCount / 2 + 1 ≤ (d.voters x).length)

/-- Keep the Canary's registers in step (Tables 12-11 and 12-13), and the frames since which quorum has been held. -/
def Dev.canaryRegs (d : Dev) : Dev :=
  let on := d.flag FT_CANARY_CTRL_enable
  let d := (List.range 16).foldl (fun d x =>
    let q := on && d.hasQuorum x
    let d := d.modCanary fun c =>
      let l := if !q then smDel c.quorum x else if (smFind c.quorum x).isSome then c.quorum else smSet c.quorum x d.frame
      { c with quorum := l }
    let live := d.rowLive x
    let d := (d.setFld (FT_CANARY_PEER_live x) (b2n live)).setFld (FT_CANARY_PEER_suspected x)
      (b2n (live && (smFind d.canary.suspects x).isSome))
    (d.setFld (FT_CANARY_PEER_quorum x) (b2n q)).setFld (FT_CANARY_PEER_votes x) (if live then (d.voters x).length else 0)) d
  let n := (d.canary.suspects.filter fun e => d.rowLive e.1).length
  ((d.setFld FT_CANARY_STATUS_live d.rowCount).setFld FT_CANARY_STATUS_suspects (min n 15)).setActive 0x0B (n != 0)

/-! ### Fencing (R436) -/

/-- The device enters FENCED. -/
def Dev.enterFenced (d : Dev) : Dev :=
  if d.selfFenced then d
  else
    let d := d.setFld FT_CANARY_STATUS_state 3
    let d := (d.row.reqs.filter fun r => r.member != fidX d.fid).foldl (fun d r => d.answer r (.fail PEER_FENCED)) d
    let d := (d.row.msgs.filter fun m => m.dst != d.fid).foldl (fun d m => d.endMsg m PEER_FENCED) d
    let d := (d.cp.cmds.filter fun c => match c.phase with | .away _ _ _ => true | _ => false).foldl (fun d c => d.complete c PEER_FENCED) d
    let d := d.failAllColl PEER_FENCED noFid
    (d.setActive 0x0C true).raise 0x0C 3 d.fid PEER_FENCED

/-! ### Announcing changes (R292) -/

/-- An EPOCH_ANNOUNCE (Table 8-7). -/
def epochBytes (e : Epoch) : List Byte :=
  padTo 256 (leBytes 4 e.origin ++ leBytes 4 e.seq ++ leBytes 8 e.frame ++ leBytes 1 e.changes.length ++ zeros 7 ++
    e.changes.flatMap fun c => leBytes 4 (c.fid % 2 ^ 20 + c.state % 16 * 2 ^ 20))

/-- The record's announce. -/
def epochOf (l : List Byte) : Epoch :=
  ⟨leAt l 0 4, leAt l 4 4, leAt l 8 8, (List.range (min 32 (leAt l 16 1))).map fun k =>
    let w := leAt l (24 + 4 * k) 4
    ⟨w % 2 ^ 20, bitsOf w 23 20⟩⟩

/-- FB_EPOCH.pending and FB_EPOCH_FRAME (Table 8-15). -/
def Dev.epochRegs (d : Dev) : Dev :=
  let fs := d.fab.announced.map (·.frame)
  match fs with
  | [] => (d.setFld FB_EPOCH_pending 0).setReg FB_EPOCH_FRAME (BitVec.ofNat 64 d.fab.lastSwitch)
  | f :: t => (d.setFld FB_EPOCH_pending 1).setReg FB_EPOCH_FRAME (BitVec.ofNat 64 (t.foldl min f))

/-- The first copy of an announce is kept and forwarded; one that names this device fenced fences it (R292, R436). -/
def Dev.takeEpoch (d : Dev) (e : Epoch) : Dev :=
  if d.fab.seen.contains (e.origin, e.seq) || d.fab.map.isNone then d
  else
    let d := d.modFab fun f => { f with
      seen := ((e.origin, e.seq) :: f.seen).take 4096, announced := f.announced ++ [e],
      built := match f.built with | some b => if e.frame ≤ b then none else some b | none => none }
    let d := (d.bellAll kEpoch (epochBytes e)).epochRegs
    if e.changes.any fun c => c.fid == d.fid && c.state == 1 then d.enterFenced else d

/-- This device originates a change; the answer holds its switch frame. -/
def Dev.originate (d : Dev) (l : List Change) : Dev × Nat :=
  let f := roundUp (d.frame + 1024) 256
  let e : Epoch := ⟨d.fid, d.fab.nextEpochSeq, f, l⟩
  ((d.modFab fun x => { x with nextEpochSeq := x.nextEpochSeq + 1 }).takeEpoch e, f)

/-- The switch frame of a change already announced for a device. -/
def Dev.announcedFor (d : Dev) (f state : Nat) : Option Nat :=
  (d.fab.announced.find? fun e => e.changes.any fun c => c.fid == f && c.state == state).map (·.frame)

/-! ### Survey outcomes (R270 to R273) -/

def Dev.surveyed (d : Dev) (p y : Nat) : Surveyed := (smFind d.fab.survey (p * 16 + y)).getD {}
def Dev.setSurveyed (d : Dev) (p y : Nat) (x : Surveyed) : Dev := d.modFab fun f => { f with survey := smSet f.survey (p * 16 + y) x }

/-- The device that the Map expects at position y of a port. -/
def Dev.expectedAt (d : Dev) (p y : Nat) : Option MapEntry :=
  match d.fab.map, d.ownEntry with
  | some m, some e =>
    if d.isZb p then (if e.zbValid && fidZ e.zbPeer == y then m.find e.zbPeer else none)
    else if y = d.coordOn p then none
    else m.find (d.partnerAt p y)
  | _, _ => none

def Dev.expectedOn (d : Dev) (p : Nat) : List Nat := (List.range 16).filter fun y => (d.expectedAt p y).isSome

/-- The causes of fabric-map (Table 12-1). -/
def Dev.mapCause (d : Dev) : Dev :=
  d.setActive 0x07 (d.fld FB_STATUS_state == 4 || (List.range 6).any fun p =>
    d.fld (FB_PLANE_absent p) != 0 || d.fld (FB_PLANE_extra p) != 0)

/-- The position of this device on a port: what most mapped repliers imply; in a tie the Map coordinate (R270). -/
def Dev.position (d : Dev) (p : Nat) : Nat :=
  let l := d.fab.survey.filterMap fun e => if e.1 / 16 = p then (match e.2.reply with
    | some r => if r.1 = noFid then none else e.2.implied
    | none => none) else none
  let n (k : Nat) : Nat := (l.filter (· == k)).length
  let top := (List.range 16).foldl (fun t k => max t (n k)) 0
  match (List.range 16).filter fun k => top != 0 && n k == top with
  | [k] => k
  | _ => d.coordOn p

/-- FB_STATUS.state (Table 8-10, R267, R270). -/
def Dev.fabState (d : Dev) : Nat :=
  if !d.flag FB_CTRL_enable then 0
  else if d.fid = noFid then 3
  else if (List.range 6).any fun p => !d.isZb p && d.position p != d.coordOn p then 4
  else if d.fld FB_STATUS_state = 2 ∨ d.fld FB_STATUS_state = 4 ∨ ((List.range 6).any fun p => d.fld (FB_PLANE_live p) != 0) ∨
      (List.range 6).all (fun p => (d.expectedOn p).isEmpty) then 2
  else 1

/-- Move to the state that Survey's outcomes give; entering MISMATCH raises fabric-map at level 2. -/
def Dev.fabUpdate (d : Dev) : Dev :=
  let st := d.fabState
  let d1 := d.setFld FB_STATUS_state st
  let d1 := if st = 4 ∧ d.fld FB_STATUS_state ≠ 4 then d1.raise 0x07 2 0 CFG_MAP_MISMATCH else d1
  d1.mapCause

/-- Degradation of a port (R273). -/
def Dev.planeCheck (d : Dev) (p : Nat) : Dev :=
  let e := (d.expectedOn p).length
  let low := decide ((d.livePartners p).length < min 8 ((e + 1) / 2))
  if low then
    let d1 := d.modFab fun f => { f with above := smDel f.above p }
    if d.flag (FB_PLANE_degraded p) then d1
    else ((d1.setFld (FB_PLANE_degraded p) 1).setActive (0x90 + p) true).raise (0x90 + p) 1 (portDetail p 0 0) 0
  else if d.flag (FB_PLANE_degraded p) && (smFind d.fab.above p).isNone then
    d.modFab fun f => { f with above := smSet f.above p d.frame }
  else d

/-- Whether a device is live on some port. -/
def Dev.liveSomewhere (d : Dev) (f : Nat) : Bool := (d.pathsTo f).any fun q => d.liveOn q.1 q.2

/-- A Survey outcome changes: the bits of the position, the event of kind 6, degradation, state, and the announce that brings it into
routing (Table 8-5, R292). -/
def Dev.outcome (d : Dev) (p y f : Nat) (live absent extra : Bool) : Dev :=
  let same := d.liveOn p y == live && d.bit (FB_PLANE_absent p) y == absent && d.bit (FB_PLANE_extra p) y == extra
  if same then d
  else
    let d := ((d.setBit (FB_PLANE_live p) y live).setBit (FB_PLANE_absent p) y absent).setBit (FB_PLANE_extra p) y extra
    let d := (d.planeCheck p).fabUpdate
    let d := d.event 6 f (d.fld FB_STATUS_state)
    if live && d.absent f && (d.announcedFor f 0).isNone then (d.originate [⟨f, 0⟩]).1
    else if absent && !d.liveSomewhere f && !d.absent f && !d.fenced f && (d.announcedFor f 2).isNone then (d.originate [⟨f, 2⟩]).1
    else d

/-- Fabric-map raised for a position (R271). -/
def Dev.raiseMap (d : Dev) (p f reason : Nat) : Dev := d.raise 0x07 1 (portDetail p 0 f) reason

/-! ### Survey's steps -/

/-- A probe of a position is due: it has not been probed since it aligned, or 4,096 frames have passed (R269). -/
def Dev.probeWaits (d : Dev) (p y : Nat) : Bool :=
  match (d.surveyed p y).probeAt with | none => true | some f => decide (f + 4096 ≤ d.frame)

/-- SURVEY_PROBE_SEND; a ZA or ZB port of a two-dimensional sheet is not probed (R8). -/
def execSurveyProbeSend (p c : Nat) (s : State) := s.act fun d =>
  let y := d.coordVia p c
  if decide (p < 6) && (decide (1 ≤ c) || d.isZb p) && decide (c < 16) && d.flag FB_CTRL_enable && d.gridServes && !d.keepsDark p &&
      d.fab.looped.contains p && d.alignedTo p c && d.probeWaits p y then
    let pl := leBytes 4 d.fid ++ leBytes 1 p ++ leBytes 1 c ++ zeros 2 ++ leBytes 8 Config.serial.toNat ++
      leBytes 4 (d.fld FB_STATUS_map_gen) ++ zeros 4 ++ leBytes 8 (d.fld (FB_PLAN_DIGEST_digest p))
    let x := d.surveyed p y
    (d.setSurveyed p y { x with probeAt := some d.frame, asked := x.asked ||| x.probed, probed := 0 }).bell p y kProbe pl
  else d

/-- SURVEY_PROBE: answered at once (R270). -/
def execSurveyProbe (rx : Nat) (s : State) := s.act fun d =>
  d.onRx rx (isBell kProbe) fun d r =>
    let d := d.dropRx r
    let y := r.cell.hopSrc; let p := r.port
    if !d.flag FB_CTRL_enable then d
    else
      let pl := leBytes 4 d.fid ++ leBytes 1 p ++ leBytes 1 (leAt r.cell.payload 5 1) ++ zeros 2 ++ leBytes 8 Config.serial.toNat ++
        leBytes 4 (d.fld FB_STATUS_map_gen) ++ leBytes 4 (leAt r.cell.payload 0 4) ++ leBytes 8 (d.fld (FB_PLAN_DIGEST_digest p)) ++
        leBytes 4 (d.surveyed p y).heardLanes
      d.bell p y kReply pl

/-- The first identity match starts the lane paths: one probe on each of lanes 0 to 30 (R269). -/
def Dev.startLanes (d : Dev) (p y : Nat) : Dev :=
  let x := d.surveyed p y
  if x.matched then d else d.setSurveyed p y { x with matched := true, toProbe := 2 ^ 31 - 1, probed := 0, asked := 0 }

/-- Lanes probed before the probe answered that the reply does not confirm are quarantined on the partner's colour (R269, R248). -/
def Dev.checkLanes (d : Dev) (p y confirmed : Nat) : Dev :=
  let x := d.surveyed p y
  if x.asked = 0 then d
  else
    let d := d.setSurveyed p y { x with asked := 0 }
    (List.range 31).foldl (fun d l =>
      if bitAt x.asked l && !bitAt confirmed l then d.quarantine p l (d.colourOf p y) (DR_LANE_EVT_notices p l) else d) d

/-- SURVEY_REPLY: the position is classified (R270, R271). -/
def execSurveyReply (rx : Nat) (s : State) := s.act fun d =>
  d.onRx rx (isBell kReply) fun d r =>
    let d := d.dropRx r
    let pl := r.cell.payload
    let p := r.port; let c := leAt pl 5 1
    let y := d.coordVia p c
    let id := leAt pl 0 4; let serial := leAt pl 8 8; let gen := leAt pl 16 4
    if !d.flag FB_CTRL_enable then d
    else
      let x := d.surveyed p y
      let d := d.setSurveyed p y { x with reply := some (id, serial, gen), implied := some ((fidCoord id (axisOf p) + 16 - c % 16) % 16) }
      match d.expectedAt p y with
      | some e =>
        if serial = e.serial ∧ id ≠ noFid then
          let good := decide (gen = d.fld FB_STATUS_map_gen ∧ leAt pl 24 8 = d.fld (FB_PLAN_DIGEST_digest p))
          let d := ((d.startLanes p y).checkLanes p y (leAt pl 32 4))
          let d := if !good && (d.bit (FB_PLANE_absent p) y || !d.bit (FB_PLANE_extra p) y) then
            d.modFab fun f => { f with bellOnly := f.bellOnly + 1 } else d
          (d.outcome p y e.fid good false (!good)).fabUpdate
        else
          let new := !(d.bit (FB_PLANE_absent p) y && d.bit (FB_PLANE_extra p) y)
          let d := d.setFld FB_STATUS_reason CFG_MAP_MISMATCH
          let d := if new then d.raiseMap p e.fid CFG_MAP_MISMATCH else d
          (d.outcome p y e.fid false true true).fabUpdate
      | none =>
        let new := !d.bit (FB_PLANE_extra p) y
        let d := if new then d.raiseMap p id 0 else d
        (d.outcome p y id false false true).fabUpdate

/-- LANE_PROBE: recorded for the next reply when it arrived intact (R269, Table 8-7). -/
def execLaneProbe (rx : Nat) (s : State) := s.act fun d =>
  d.onRx rx (isBell kLaneProbe) fun d r =>
    let d := d.dropRx r
    let pl := r.cell.payload
    let ok := decide (r.lane < 31) && leAt pl 5 1 == r.lane && pl.drop 16 == (List.range 240).map fun i => BitVec.ofNat 8 ((i + 16) ^^^ 0xA5)
    let x := d.surveyed r.port r.cell.hopSrc
    if r.lane < 31 then d.setSurveyed r.port r.cell.hopSrc { x with heardLanes := putBits x.heardLanes r.lane r.lane (b2n ok) } else d

/-- SURVEY_ABSENT_TIMEOUT (R271). -/
def execSurveyAbsentTimeout (p y : Nat) (s : State) := s.act fun d =>
  match d.expectedAt p y, smFind d.fab.leftLoop p with
  | some e, some f =>
    if d.flag FB_CTRL_enable && decide (f + 4194304 ≤ d.frame) && (d.surveyed p y).reply.isNone && !d.bit (FB_PLANE_absent p) y then
      (d.raiseMap p e.fid 0).outcome p y e.fid false true (d.bit (FB_PLANE_extra p) y)
    else d
  | _, _ => d

/-- PORT_DEGRADED_RECOVERY (R273). -/
def execPortDegradedRecovery (p : Nat) (s : State) := s.act fun d =>
  match smFind d.fab.above p with
  | some f =>
    if decide (p < 6) && d.flag (FB_PLANE_degraded p) && decide (f + 4096 ≤ d.frame) then
      ((d.setFld (FB_PLANE_degraded p) 0).setActive (0x90 + p) false).modFab fun x => { x with above := smDel x.above p }
    else d
  | none => d

/-! ### The Map (R265 to R268) -/

/-- A Map's bytes read as a Map. -/
def mapOf (l : List Byte) : FabMap :=
  ⟨leAt l 4 4, leAt l 12 1, leAt l 13 1, leAt l 14 1, leAt l 15 1, bitAt (leAt l 16 1) 0, bitAt (leAt l 16 1) 1, leAt l 20 4, leAt l 24 4,
    (List.range (leAt l 8 4)).map fun i =>
      let w := leAt l (64 + 16 * i + 12) 4
      ⟨leAt l (64 + 16 * i) 8, leAt l (64 + 16 * i + 8) 4, w % 2 ^ 20, bitsOf w 27 24, bitAt w 31⟩⟩

/-- Fields outside Tables 8-2 and 8-3, coordinates, sheets or CRC (first case of R266). -/
def mapRange (l : List Byte) : Bool :=
  let m := mapOf l
  let ext (e : Nat) : Bool := decide (1 ≤ e) && decide (e ≤ 16)
  let n := leAt l 8 4
  leAt l 0 2 == 0x4D50 && leAt l 2 2 == 1 && decide (1 ≤ m.generation) && decide (1 ≤ n) && decide (n ≤ 65536) &&
  decide (1 ≤ m.sheets) && decide (m.sheets ≤ 16) && ext m.ex && ext m.ey && ext m.ez && (!m.twoD || m.ez == 1) &&
  decide (leAt l 16 1 < 4) && leAt l 17 3 == 0 && decide (m.master < 2 ^ 20) && decide (m.backup < 2 ^ 20) && leAt l 28 4 == 0 &&
  leAt l 40 24 == 0 && (crc64 ((l.drop 64).take (16 * n))).toNat == leAt l 32 8 &&
  (List.range n).all fun i =>
    let f := leAt l (64 + 16 * i + 8) 4; let w := leAt l (64 + 16 * i + 12) 4
    decide (f < 2 ^ 20) && (w &&& 0x70F00000) == 0 && decide (fidX f < m.ex) && decide (fidY f < m.ey) && decide (fidZ f < m.ez) &&
      decide (fidSheet f < m.sheets)

/-- Fabric IDs strictly rise. -/
def rising : List Nat → Bool
  | a :: b :: t => decide (a < b) && rising (b :: t)
  | _ => true

/-- Whether a device placed in three dimensions or an atlas has drifts 4 and 5. -/
def Dev.placeOk (d : Dev) (m : FabMap) : Bool :=
  match m.entries.find? (·.serial == Config.serial.toNat) with
  | some _ => (m.twoD && !m.atlas) || (d.driftFitted 4 && d.driftFitted 5)
  | none => true

/-- The other cases of R266. -/
def Dev.mapConsistent (d : Dev) (m : FabMap) : Bool :=
  !(m.twoD && m.atlas) && (m.sheets ≤ 1 || m.atlas) && rising (m.entries.map (·.fid)) &&
  (m.entries.map (·.serial)).eraseDups.length == m.entries.length && m.has m.master && m.has m.backup &&
  m.entries.all (fun e => !e.zbValid || (m.atlas && fidSheet e.zbPeer != fidSheet e.fid && (match m.find e.zbPeer with
    | some x => x.zbValid && x.zbPeer == e.fid
    | none => false))) && d.placeOk m

/-- The fabric ID that a Map gives this device (R267). -/
def mapFid (m : FabMap) : Nat := match m.entries.find? (·.serial == Config.serial.toNat) with | some e => e.fid | none => noFid

/-- Partners live on some port that the version in force does not fence. -/
def Dev.livePeers (d : Dev) : List Nat :=
  (List.range 6).flatMap fun p => ((d.livePartners p).map (d.partnerAt p)).filter fun f => !d.fenced f

/-- Whether a running device may take a Map (R268). -/
def Dev.mapMayReplace (d : Dev) (m old : FabMap) : Bool :=
  decide (old.generation < m.generation) && (d.fid == noFid || mapFid m == d.fid) &&
  d.livePeers.all fun f => match old.find f with
    | some e => (match m.entries.find? (·.serial == e.serial) with | some x => x.fid == f | none => false)
    | none => true

/-- Planes, coordinates and drift darkness follow the Map in force. -/
def Dev.planesOfMap (d : Dev) : Dev :=
  let atlas := match d.fab.map with | some m => m.atlas | none => false
  let d := (List.range 6).foldl (fun d p =>
    let d := d.setFld (FB_PLANE_zb_circuit p) (b2n (atlas && p == 5))
    let ys := d.expectedOn p
    let keep (f : Fld) (d : Dev) : Dev := d.setFld f (ys.foldl (fun v y => if d.bit f y then v + 2 ^ y else v) 0)
    keep (FB_PLANE_absent p) (keep (FB_PLANE_live p) (d.setFld (FB_PLANE_expected p) ys.length))) d
  let d := [4, 5].foldl (fun d n =>
    if !d.flag (DR_CTRL_enable n) then d
    else if d.keepsDark n then (List.range 32).foldl (fun d l => d.setLaneState n l 0) d
    else if (List.range 32).all fun l => d.laneState n l == 0 then d.driftOn n else d) d
  let d := d.modFab fun f => { f with survey := f.survey.map fun e => (e.1, { e.2 with matched := false, toProbe := 0, probed := 0, asked := 0 }) }
  ((List.range 6).foldl (fun d p => if d.flag FB_CTRL_enable then d.planeCheck p else d) d).fabUpdate.canaryRegs

/-- A Map comes into force (R267, R268); one that names this device as master or backup ends its demotion (R49). -/
def Dev.mapInForce (d : Dev) (m : FabMap) : Dev :=
  let f := mapFid m
  let d := if m.master = f ∨ m.backup = f then { d with grid := { d.grid with demoted := false } } else d
  let d1 := d.modFab fun x => { x with map := some m, mapNext := none, survey := if f = d.fid then x.survey else [] }
  let d1 := (d1.setFld FB_ID_id f).setFld FB_ID_valid (b2n (f != noFid))
  (d1.setFld FB_STATUS_map_gen m.generation).planesOfMap

/-- Write the tables of a version, or clear them on an unmapped device. -/
def Dev.buildTables (d : Dev) (v : Nat) (m : FabMap) (st : List Change) : Dev :=
  if d.fid = noFid then (d.resetRegs (routeBase v) (routeBase v + 0x2000)).resetRegs (gatewayBase v) (gatewayBase v + 0x80)
  else d.writeTables v m st

/-- A Map loaded while FB_CTRL.enable is clear: both versions are built from it, every device live. -/
def Dev.mapFirst (d : Dev) (m : FabMap) : Dev :=
  let d := d.modFab fun x => { x with map0 := some m, map1 := some m, live0 := [], live1 := [], announced := [], built := none }
  let d := d.mapInForce m
  (((d.buildTables 0 m []).buildTables 1 m []).epochRegs).canaryRegs

/-- Refuse a Map: the reason stands in FB_STATUS. -/
def Dev.mapRefuse (d : Dev) (c : Cmd) (reason : Nat) : Dev := (d.setFld FB_STATUS_reason reason).complete c reason

/-- MAP_LOAD (R266, R268, R75). -/
def execMapLoad (cmd : Nat) (s : State) := s.actLegend fun d => d.onCmd cmd 0x0400 fun d c =>
  let len := c.p 1
  if len < 80 ∨ 64 + 16 * 65536 < len then d.mapRefuse c BAD_LENGTH
  else
    let l := d.hostRead (c.p 0) len
    let m := mapOf l
    if len ≠ 64 + 16 * leAt l 8 4 then d.mapRefuse c BAD_LENGTH
    else if !mapRange l then d.mapRefuse c CFG_RANGE
    else if !d.mapConsistent m then d.mapRefuse c CFG_CONFLICT
    else match d.flag FB_CTRL_enable, d.fab.map with
      | true, some old =>
        if c.p 2 < d.frame + 128 then d.mapRefuse c CFG_RANGE
        else if !d.mapMayReplace m old then d.mapRefuse c CFG_CONFLICT
        else (d.modFab fun x => { x with mapNext := some ⟨c.p 2, m⟩ }).complete c OK
      | _, _ => (d.mapFirst m).complete c OK

/-- MAP_SWITCH: a pending Map comes into force at its frame. -/
def execMapSwitch (s : State) := s.actLegend fun d =>
  match d.fab.mapNext with
  | some x => if x.frame ≤ d.frame then d.mapInForce x.map else d
  | none => d

/-! ### FB_CTRL -/

/-- Repeat the identity and lane-path stages. -/
def Dev.resurvey (d : Dev) : Dev :=
  d.modFab fun f => { f with survey := f.survey.map fun e => (e.1, { e.2 with probeAt := none, matched := false, toProbe := 0, probed := 0, asked := 0 }) }

/-- Survey starts again from nothing; suspicion runs only while FB_CTRL.enable reads 1 (R428). -/
def Dev.surveyOff (d : Dev) : Dev :=
  let d := (List.range 6).foldl (fun d p =>
    (((d.setFld (FB_PLANE_live p) 0).setFld (FB_PLANE_absent p) 0).setFld (FB_PLANE_extra p) 0).setFld (FB_PLANE_degraded p) 0
      |>.setActive (0x90 + p) false) d
  let d := d.modFab fun f => { f with survey := [], above := [] }
  d.modCanary fun c => { c with suspects := [], voted := [], votes := [], missed := [], beatAt := none, minorityAt := none }

/-- A write to FB_CTRL (Table 8-9). -/
def Dev.fbCtrlW (d : Dev) (v : Word64) : WriteRes :=
  let on := d.flag FB_CTRL_enable
  let d := if bitAt v.toNat 1 then d.resurvey else d
  if bitAt v.toNat 0 && !on then
    if d.fab.map.isNone then d.refuse FB_CTRL CFG_RANGE
    else (((((List.range 6).foldl Dev.planeCheck (d.setFld FB_CTRL_enable 1)).fabUpdate).modCanary fun c =>
      { c with beatAt := none, checked := (List.range 49).map fun x => (x, d.frame) }).canaryRegs, OK)
  else if !bitAt v.toNat 0 && on then ((((d.setFld FB_CTRL_enable 0).surveyOff).fabUpdate).canaryRegs, OK)
  else (d, OK)

def execFbCtrlEnable (v : Word64) (s : State) := s.act fun d => d.ownWrite FB_CTRL v true fun d => d.fbCtrlW v
def execFbResurvey (v : Word64) (s : State) := s.act fun d => d.ownWrite FB_CTRL v (bitAt v.toNat 1) fun d => d.fbCtrlW v

/-! ### Slot plans (R277 to R283) -/

def planNext (p : Nat) : Nat := 0x610000 + 0x2000 * p
def planActive (p : Nat) : Nat := 0x620000 + 0x2000 * p

/-- The 7,680 bytes of a plan window. -/
def Dev.planBytes (d : Dev) (base : Nat) : List Byte := (List.range 960).flatMap fun i => leBytes 8 (d.reg (base + 8 * i)).toNat

/-- The entries of one lane and slot: sender and colour where lit. -/
def litAt (plan : List Byte) (ls : Nat) : List (Nat × Nat) :=
  (List.range 16).filterMap fun x =>
    let b := (plan.getD (ls * 16 + x) 0).toNat
    if bitAt b 7 then some (x, b % 16) else none

/-- No lit entry has colour 0, and no reserved bit is set. -/
def planClean (plan : List Byte) : Bool := plan.all fun b => bitsOf b.toNat 6 4 == 0 && (!bitAt b.toNat 7 || b.toNat % 16 != 0)

/-- No two lit senders of a lane and slot reach one receiver. -/
def planApart (plan : List Byte) : Bool := (List.range 480).all fun ls =>
  let t := (litAt plan ls).map fun e => (e.1 + e.2) % 16
  t.eraseDups.length == t.length

/-- Lit lane-slots that a plan gives from one coordinate to another. -/
def planGives (plan : List Byte) (x y : Nat) : Nat := (List.range 480).countP fun ls => (litAt plan ls).any fun e => e.1 == x && (x + e.2) % 16 == y

/-- The members that the Map expects on the plane of a port, this device among them. -/
def Dev.planeMembers (d : Dev) (p : Nat) : List Nat :=
  match d.fab.map with
  | some m => if d.fid = noFid then [] else (List.range 16).filter fun y => m.has (fidWith d.fid (axisOf p) y)
  | none => []

/-- Every expected sender gives every expected partner the transit share. -/
def Dev.planFair (d : Dev) (p : Nat) (plan : List Byte) : Bool :=
  (d.planeMembers p).all fun x => (d.planeMembers p).all fun y => x == y || decide (d.fld FB_TRANSIT_share ≤ planGives plan x y)

/-- The checks of R279 in order. -/
def Dev.planCheck (d : Dev) (p : Nat) : Nat :=
  let plan := d.planBytes (planNext p)
  if !planClean plan then CFG_RANGE
  else if !planApart plan then CFG_PLAN_COLLISION
  else if !d.planFair p plan then CFG_CONFLICT
  else if d.fld (FB_PLAN_FRAME_frame p) < d.frame + 128 then CFG_RANGE
  else if d.isZb p then CFG_CONFLICT
  else OK

def Dev.planState (d : Dev) (p : Nat) : Nat := d.fld (FB_PLAN_CTRL_state p)
def Dev.nextDigest (d : Dev) (p : Nat) : Word64 := crc64 (d.planBytes (planNext p))

/-- A plan switch is cancelled: PLAN_CANCEL goes out in every frame from a first one to F - 1 (R280, R281). -/
def Dev.planCancelled (d : Dev) (p reason start : Nat) : Dev :=
  let e : PlanStop := ⟨p, start, d.fld (FB_PLAN_FRAME_frame p), d.nextDigest p⟩
  (((d.setFld (FB_PLAN_CTRL_state p) 3).setFld (FB_PLAN_CTRL_reason p) reason)).modFab fun f => { f with
    cancels := e :: f.cancels.filter (·.port != p) }

/-- Partners of a port that the Map expects and Survey has not found extra or bell-only: what plans are announced to (R272, R280). -/
def Dev.planPartners (d : Dev) (p : Nat) : List Nat := (d.expectedOn p).filter fun y => !d.bit (FB_PLANE_extra p) y

/-- PLAN_CANCEL to every partner on both ports of the pair. -/
def Dev.sendCancel (d : Dev) (e : PlanStop) : Dev :=
  let pl := leBytes 1 e.port ++ zeros 7 ++ leBytes 8 e.frame ++ leBytes 8 e.digest.toNat ++ zeros 8 ++ leBytes 4 d.fid
  (e.port :: (d.pairPort e.port).toList).foldl (fun d p => (d.planPartners p).foldl (fun d y => d.bell p y kPlanCancel pl) d) d

/-- A write to FB_PLAN_CTRL_p (Table 8-12). -/
def Dev.planCtrlW (d : Dev) (p : Nat) (v : Word64) : WriteRes :=
  let st := d.planState p
  let armed := st == 1 || st == 2
  if bitAt v.toNat 1 && armed && decide (d.frame + 64 < d.fld (FB_PLAN_FRAME_frame p)) then 
    (d.planCancelled p OK (d.fld (FB_PLAN_FRAME_frame p) - 64), OK)
  else if bitAt v.toNat 0 then
    let r := if armed then BUSY_RUNNING else d.planCheck p
    if r = OK then ((d.setFld (FB_PLAN_CTRL_state p) 1).modFab fun f => { f with
      cancels := f.cancels.filter (·.port != p), planSent := smDel f.planSent p }, OK)
    else ((d.setFld (FB_PLAN_CTRL_reason p) r).recordReason (FB_PLAN_CTRL p) r, r)
  else (d, OK)

def execFbPlanArm (p : Nat) (v : Word64) (s : State) := s.act fun d =>
  d.ownWrite (FB_PLAN_CTRL p) v (decide (p < 6) && bitAt v.toNat 0) fun d => d.planCtrlW p v
def execFbPlanCancel (p : Nat) (v : Word64) (s : State) := s.act fun d =>
  d.ownWrite (FB_PLAN_CTRL p) v (decide (p < 6) && bitAt v.toNat 1) fun d => d.planCtrlW p v

/-- Frames between announces: 16 while a switch is pending, 64 after a switch. -/
def Dev.planPeriod (d : Dev) (p : Nat) : Option Nat :=
  if d.planState p = 1 ∨ d.planState p = 2 then some 16 else if (smFind d.fab.switchedAt p).isSome then some 64 else none

/-- PLAN_ANNOUNCE_SEND (R280, R282). -/
def execPlanAnnounceSend (p : Nat) (s : State) := s.act fun d =>
  match if decide (p < 6) && d.flag FB_CTRL_enable && !d.isZb p then d.planPeriod p else none with
  | none => d
  | some n =>
    if (match smFind d.fab.planSent p with | some f => decide (d.frame < f + n) | none => false) then d
    else
      let pending := d.planState p == 1 || d.planState p == 2
      let f := d.fld (FB_PLAN_FRAME_frame p)
      let pl := leBytes 1 p ++ leBytes 1 (b2n pending) ++ zeros 6 ++ leBytes 8 (if pending then f else 0) ++
        leBytes 8 (if pending then (d.nextDigest p).toNat else 0) ++ leBytes 8 (d.fld (FB_PLAN_DIGEST_digest p)) ++ leBytes 4 d.fid
      ((d.planPartners p).foldl (fun d y => d.bell p y kPlanAnnounce pl) d).modFab fun x => { x with planSent := smSet x.planSent p d.frame }

/-- PLAN_ANNOUNCE: kept for the agreement, and its digest in use compared with this device's (R280, R283). -/
def execPlanAnnounce (rx : Nat) (s : State) := s.act fun d =>
  d.onRx rx (isBell kPlanAnnounce) fun d r =>
    let d := d.dropRx r
    let pl := r.cell.payload
    let p := leAt pl 0 1
    let k := p * 16 + r.cell.hopSrc
    let old := (smFind d.fab.plans k).getD {}
    let late := match smFind d.fab.switchedAt p with | some f => decide (f + 16 ≤ d.frame) | none => true
    let differs := late && d.liveOn p r.cell.hopSrc && leAt pl 24 8 != d.fld (FB_PLAN_DIGEST_digest p)
    let n := if differs then old.differ + 1 else 0
    if 6 ≤ p then d
    else d.modFab fun f => { f with
      plans := smSet f.plans k ⟨leAt pl 1 1 == 1, leAt pl 8 8, leAt pl 16 8, leAt pl 24 8, n⟩,
      fallback := if 4 ≤ n ∧ !f.fallback.contains p then p :: f.fallback else f.fallback }

/-- PLAN_CANCEL: the switch of the same frame and digest is cancelled (R281). -/
def execPlanCancel (rx : Nat) (s : State) := s.act fun d =>
  d.onRx rx (isBell kPlanCancel) fun d r =>
    let d := d.dropRx r
    let pl := r.cell.payload
    let p := leAt pl 0 1
    if decide (p < 6) && (d.planState p == 1 || d.planState p == 2) && leAt pl 8 8 == d.fld (FB_PLAN_FRAME_frame p) &&
        decide (d.frame < leAt pl 8 8) && leAt pl 16 8 == (d.nextDigest p).toNat then d.planCancelled p CFG_CONFLICT (d.frame + 1)
    else d

/-- PLAN_AGREEMENT_CHECK: at F - 64 the switch is agreed, or cancelled, and PLAN_CANCEL goes from that frame on (R280). -/
def execPlanAgreementCheck (p : Nat) (s : State) := s.act fun d =>
  let f := d.fld (FB_PLAN_FRAME_frame p)
  if decide (p < 6) && d.planState p == 1 && decide (f ≤ d.frame + 64) then
    let dig := (d.nextDigest p).toNat
    let ok := decide (d.frame < f) && (d.livePartners p).all fun y => match smFind d.fab.plans (p * 16 + y) with
      | some x => x.pending && x.frame == f && x.digest == dig
      | none => false
    if ok then d.setFld (FB_PLAN_CTRL_state p) 2
    else
      let d := d.planCancelled p CFG_CONFLICT (d.frame + 1)
      if d.frame < f then (d.fab.cancels.head?.toList).foldl Dev.sendCancel d else d
  else d

/-- A plan becomes the active one of a port. -/
def Dev.usePlan (d : Dev) (p : Nat) (w : Nat → Word64) (digest : Word64) : Dev :=
  let d := (List.range 960).foldl (fun d i => d.setReg (planActive p + 8 * i) (w i)) d
  (d.setReg (FB_PLAN_DIGEST p) digest).modFab fun f => { f with
    switchedAt := smSet f.switchedAt p d.frame, planSent := smDel f.planSent p, fallback := f.fallback.filter (· != p),
    plans := f.plans.map fun e => if e.1 / 16 = p then (e.1, { e.2 with differ := 0 }) else e }

/-- PLAN_SWITCH: the agreed plan comes into use at F (R282). -/
def execPlanSwitch (p : Nat) (s : State) := s.act fun d =>
  if decide (p < 6) && d.planState p == 2 && decide (d.fld (FB_PLAN_FRAME_frame p) ≤ d.frame) then
    (d.usePlan p (fun i => d.reg (planNext p + 8 * i)) (d.nextDigest p)).setFld (FB_PLAN_CTRL_state p) 0
  else d

/-- PLAN_FALLBACK: back to the default plan at a multiple of 64 (R283). -/
def execPlanFallback (p : Nat) (s : State) := s.act fun d =>
  if d.fab.fallback.contains p ∧ p < 6 ∧ d.frame % 64 = 0 then
    ((d.usePlan p (fun i => BitVec.ofNat 64 (defaultPlanWord i)) defaultPlanDigest).setFld (FB_PLAN_CTRL_state p) 4).raise (0x90 + p) 1
      (portDetail p 0 0) 0
  else d

/-- PLAN_CANCEL records due in this frame, on both ports of the pair (R280). -/
def Dev.sendCancels (d : Dev) : Dev :=
  let d := (d.fab.cancels.filter fun e => decide (e.start ≤ d.frame) && decide (d.frame < e.frame)).foldl Dev.sendCancel d
  d.modFab fun f => { f with cancels := f.cancels.filter fun e => decide (d.frame + 1 < e.frame) }

/-! ### Routing epochs (R292 to R295) -/

/-- EPOCH_ANNOUNCE. -/
def execEpochAnnounce (rx : Nat) (s : State) := s.act fun d =>
  d.onRx rx (isBell kEpoch) fun d r => (d.dropRx r).takeEpoch (epochOf r.cell.payload)

/-- The earliest switch frame announced. -/
def Dev.nextSwitch (d : Dev) : Option Nat :=
  match d.fab.announced.map (·.frame) with | [] => none | f :: t => some (t.foldl min f)

/-- One change applied to a live set. -/
def applyChange (l : List Change) (c : Change) : List Change :=
  let l := l.filter (·.fid != c.fid)
  if c.state = 0 then l else l ++ [c]

/-- The live set of the version to come (R268, R293): the present one, devices new to the Map absent, and the changes announced for
frames up to f, in order of frame and arrival; fabric IDs the Map does not hold are left out. -/
def Dev.nextLive (d : Dev) (m : FabMap) (f : Nat) : List Change :=
  let old := match d.verMap d.version with | some x => x | none => m
  let base := (d.liveSet d.version) ++ (m.entries.filter fun e => !old.has e.fid).map fun e => ⟨e.fid, 2⟩
  let due := (d.fab.announced.filter fun e => decide (e.frame ≤ f)).mergeSort fun a b => decide (a.frame ≤ b.frame)
  ((due.flatMap (·.changes)).foldl applyChange base).filter fun c => m.has c.fid

/-- ROUTE_BUILD: the other version is built for the next switch frame; a build that ends after it is late (R293, R294). -/
def execRouteBuild (s : State) := s.act fun d =>
  match d.nextSwitch, d.fab.map with
  | some f, some m =>
    if d.fab.built = some f then d
    else
      let v := 1 - d.version
      let l := d.nextLive m f
      let d := d.modFab fun x => if v = 0 then { x with map0 := some m, live0 := l, built := some f } else { x with map1 := some m, live1 := l, built := some f }
      let d := d.buildTables v m l
      if f ≤ d.frame then (d.countSat FB_DROP_CNT_late_epoch 1).raise 0x08 1 0 0 else d
  | _, _ => d

/-- What the Canary forgets of row members that the new version fences or holds absent (R428). -/
def Dev.canarySwitch (d : Dev) : Dev :=
  let gone (x : Nat) : Bool := !d.rowLive x
  (d.modCanary fun c => { c with
    suspects := c.suspects.filter fun e => !gone e.1, voted := c.voted.filter fun e => !gone e.1,
    votes := c.votes.filter fun w => !gone w.suspect, verdicts := c.verdicts.filter fun e => !gone e.1,
    reached := c.reached.filter fun x => !gone x }).canaryRegs

/-- EPOCH_SWITCH: the version built comes into force, and what its fenced members had open fails (R295, R335, R376, R410, R436, R438,
R440). -/
def execEpochSwitch (s : State) := s.act fun d =>
  match d.fab.built with
  | none => d
  | some f =>
    if d.frame < f then d
    else
      let old := d.liveSet d.version
      let done := d.fab.announced.filter fun e => decide (e.frame ≤ f)
      let n := d.fld FB_EPOCH_count + 1
      let d := ((d.setFld FB_EPOCH_count n).setFld FB_EPOCH_version (n % 2)).modFab fun x => { x with
        announced := x.announced.filter fun e => !decide (e.frame ≤ f), built := none, lastSwitch := f }
      let d := d.epochRegs
      let new := d.liveSet d.version
      let moved := ((old ++ new).map (·.fid)).eraseDups.filter fun x => liveState old x != liveState new x
      let d := (if moved.isEmpty then [d.fid] else moved).foldl (fun d x => d.event 6 x (d.fld FB_STATUS_state + 8)) d
      let d := (moved.filter fun x => liveState new x == 1).foldl Dev.failPeer d
      let d := ((d.collFenced).failRemote).canarySwitch
      let ends := d.cp.cmds.filter fun c => (c.opcode == 0x0401 || c.opcode == 0x0402) && c.phase == .running &&
        (match c.aux with | [g] => decide (g ≤ f) | _ => false)
      let d := ends.foldl (fun d c => d.complete c OK (f % 2 ^ 32)) d
      if liveState new d.fid = 1 then d.enterFenced
      else if d.selfFenced ∧ (done.any fun e => e.changes.any fun c => c.fid == d.fid && c.state == 0) then
        ((d.setFld FT_CANARY_STATUS_state 1).setActive 0x0C false).modCanary fun c => { c with minorityAt := none }
      else d

/-! ### EVICT, READMIT and ROUTE_QUERY -/

/-- EVICT (R438). -/
def execEvict (cmd : Nat) (s : State) := s.act fun d => d.onCmd cmd 0x0401 fun d c =>
  let t := c.p 0 % 2 ^ 20
  if !d.inMap t then d.complete c NO_ROUTE
  else if t = d.fid ∨ d.fenced t then d.complete c CFG_CONFLICT
  else match d.announcedFor t 1 with
    | some f => d.keepCmd c [f]
    | none => let (d, f) := d.originate [⟨t, 1⟩]; d.keepCmd c [f]

/-- The last SURVEY_REPLY from a device, and its heartbeat (R440). -/
def Dev.replyOf (d : Dev) (t : Nat) : Option (Nat × Nat × Nat) := (d.pathsTo t).findSome? fun q => (d.surveyed q.1 q.2).reply

/-- READMIT (R440). -/
def execReadmit (cmd : Nat) (s : State) := s.act fun d => d.onCmd cmd 0x0402 fun d c =>
  let t := c.p 0 % 2 ^ 20
  let beat := match smFind d.canary.heard t with | some h => h.state == 4 && decide (d.frame ≤ h.arrived + 512) | none => false
  let entry := match d.fab.map with | some m => m.find t | none => none
  if !d.fenced t || !beat then d.complete c CFG_CONFLICT
  else match d.replyOf t, entry with
    | some (_, serial, gen), some e =>
      if serial = e.serial ∧ gen = d.fld FB_STATUS_map_gen then let (d, f) := d.originate [⟨t, 0⟩]; d.keepCmd c [f]
      else d.complete c CFG_MAP_MISMATCH
    | _, _ => d.complete c CFG_MAP_MISMATCH

/-- ROUTE_QUERY (R287). -/
def execRouteQuery (cmd : Nat) (s : State) := s.act fun d => d.onCmd cmd 0x0403 fun d c =>
  let t := c.p 0 % 2 ^ 20
  let e (v : Nat) : Nat := if fidSheet t = fidSheet d.fid then d.route v t else 0
  d.complete c OK (e 0 + e 1 * 2 ^ 16) d.version

/-! ### Misdelivery -/

/-- The command that sent a bell record and still waits for its answer ends with MISDELIVERED: a remote command, or a
DIGEST_COMPARE. -/
def Dev.endBell (d : Dev) (h : Cell) : Dev :=
  if h.bellKind = kRemoteCmd then d.endRemote h.dst h.seq MISDELIVERED
  else if h.bellKind = kDigestReq then
    match d.cp.cmds.find? fun c => c.opcode == 0x0502 && c.phase == .running && c.id % 2 ^ 16 == h.seq && c.aux.tail.contains h.dst with
    | some c => d.complete c MISDELIVERED
    | none => d
  else d

/-- The operation that sent a cell of this origin, when it is still waiting, ends with MISDELIVERED (R248). -/
def Dev.endMisdelivered (d : Dev) (h : Cell) : Dev :=
  if h.hops ≠ 0 ∨ h.src ≠ d.fid then d
  else if h.cls = 3 then
    match d.coll.held.find? fun c => c.group == h.collGroup && c.start % 1024 == h.collStart with
    | some c => d.abortColl c.group c.tag c.start MISDELIVERED
    | none => d
  else if h.cls = 4 then d.endBell h
  else d.endSender h MISDELIVERED

/-- MISDELIVERY: a notice about a cell that this device sent (R248, R249, Table 7-6). -/
def execMisdelivery (rx : Nat) (s : State) := s.act fun d =>
  d.onRx rx (isBell kMisdelivery) fun d r =>
    let d := d.dropRx r
    let pl := r.cell.payload
    let p := leAt pl 4 1; let l := leAt pl 5 1; let c := leAt pl 7 1 % 16
    if 6 ≤ p ∨ 32 ≤ l then d
    else
      let d := (d.setFld (DR_MIS_LAST_frame_lo p) (leAt pl 8 3)).setFld (DR_MIS_LAST_lane p) l
      let d := (d.setFld (DR_MIS_LAST_colour p) c).setFld (DR_MIS_LAST_receiver p) (leAt pl 0 4 % 2 ^ 20)
      ((d.quarantine p l c (DR_LANE_EVT_notices p l))).endMisdelivered (Cell.ofBody (pl.drop 16))

end Sys2Proof.Machine
end

