-- ==== Sys2Proof/Machine/Canary.lean ====
section
/-!
DEFINITION. Sys2Proof/Machine/Canary.lean: heartbeats, suspicion, votes, quorum and verdicts, self-declaration, the minority rule
and FT_CANARY_CTRL (R427 to R437, R439, R441).  A partner is named by x: 0 to 15 the row member at that coordinate, 16 to 31
and 32 to 47 the partner at that coordinate of Y and Z, 48 the ZB peer.
-/

namespace Sys2Proof.Machine

def kHeartbeat : Nat := 0x10
def kSuspect : Nat := 0x11
def kRetract : Nat := 0x12
def kSelfDead : Nat := 0x13

/-! ### Partners and records -/

/-- The device at coordinate k of an axis. -/
def Dev.axisFid (d : Dev) (a k : Nat) : Nat := fidWith d.fid a k

/-- The fabric ID of partner x, when the Map in force holds it. -/
def Dev.partnerX (d : Dev) (x : Nat) : Option Nat :=
  if d.fid = noFid then none
  else if x < 48 then
    let f := d.axisFid (x / 16) (x % 16)
    if f ≠ d.fid ∧ d.inMap f then some f else none
  else if x = 48 then (match d.ownEntry with | some e => if e.zbValid then some e.zbPeer else none | none => none)
  else none

/-- The other row members. -/
def Dev.rowPeers (d : Dev) : List Nat := (List.range 16).filter fun x => (d.partnerX x).isSome

/-- Highest pending fault level, 0xFF when no source is pending (Table 12-5). -/
def Dev.beatLevel (d : Dev) : Nat := if d.flag FT_STATUS_fault then d.fld FT_STATUS_level else 0xFF

/-- A HEARTBEAT for a device. -/
def Dev.beatBytes (d : Dev) (f : Nat) (relayed : Bool) : List Byte :=
  leBytes 4 d.fid ++ leBytes 1 (d.fld FT_CANARY_STATUS_state) ++ leBytes 1 d.beatLevel ++
    leBytes 1 (b2n (d.fenced f) + 2 * b2n relayed) ++ [0] ++ leBytes 8 d.frame ++ leBytes 4 (d.fld FB_EPOCH_count) ++
    leBytes 4 (d.fld FB_STATUS_map_gen) ++ leBytes 4 f

/-- The heartbeat to the partner at coordinate y of an axis: on every port where it is live, or relayed when no port of the axis
serves. -/
def Dev.beatAxis (d : Dev) (a y : Nat) : Dev :=
  let ps := [2 * a, 2 * a + 1].filter fun p => !d.isZb p
  let f := d.axisFid a y
  if !(ps.any fun p => d.liveOn p y) then d
  else if ps.any d.portServes then
    ps.foldl (fun d p => if d.mayBell p y kHeartbeat then d.bell p y kHeartbeat (d.beatBytes f false) else d) d
  else d.bellVia kHeartbeat (d.beatBytes f true) ⟨d.fid, f, 0, 0⟩

/-- HEARTBEAT_SEND (R427). -/
def execHeartbeatSend (s : State) := s.act fun d =>
  if d.flag FB_CTRL_enable && decide (d.frame % 64 = 0) && d.fid != noFid && d.canary.beatAt != some d.frame then
    let d := d.modCanary fun c => { c with beatAt := some d.frame }
    let d := [0, 1, 2].foldl (fun d a => (List.range 16).foldl (fun d y => if y = fidCoord d.fid a then d else d.beatAxis a y) d) d
    (List.range 6).foldl (fun d p => if d.isZb p then (d.livePartners p).foldl (fun d y =>
      d.bell p y kHeartbeat (d.beatBytes (d.partnerAt p y) false)) d else d) d
  else d

/-- A Canary record to every other row member, on the first port that may carry it. -/
def Dev.toRow (d : Dev) (kind : Nat) (payload : List Byte) : Dev :=
  d.rowPeers.foldl (fun d x => match [0, 1].find? fun p => d.mayBell p x kind with
    | some p => d.bell p x kind payload
    | none => d) d

/-! ### Suspicion (R428, R429) -/

/-- Whether this device suspects row member x. -/
def Dev.suspects (d : Dev) (x : Nat) : Bool := (smFind d.canary.suspects x).isSome

/-- Consecutive misses of partner x. -/
def Dev.missedBy (d : Dev) (x : Nat) : Nat :=
  if x < 16 then d.fld (FT_CANARY_PEER_missed x) else smGet (fun _ => 0) d.canary.missed x
def Dev.setMissed (d : Dev) (x n : Nat) : Dev :=
  if x < 16 then d.setFld (FT_CANARY_PEER_missed x) (min n 255)
  else d.modCanary fun c => { c with missed := smPut (fun _ => 0) c.missed x n }

/-- Suspicion of a row member begins. -/
def Dev.beginSuspicion (d : Dev) (x f : Nat) : Dev :=
  ((d.modCanary fun c => { c with suspects := smSet c.suspects x d.frame }).raise 0x0B 0 f 0).canaryRegs

/-- Suspicion ends: RETRACT goes out once while the Canary votes (R430). -/
def Dev.endSuspicion (d : Dev) (x : Nat) : Dev :=
  let d := (d.modCanary fun c => { c with suspects := smDel c.suspects x, voted := smDel c.voted x }).canaryRegs
  if d.flag FT_CANARY_CTRL_enable then
    d.toRow kRetract (leBytes 4 d.fid ++ leBytes 4 (d.memberFid x) ++ leBytes 8 d.frame)
  else d

/-- HEARTBEAT_MISS: the heartbeat due eight frames ago from partner x is judged (R428). -/
def execHeartbeatMiss (x : Nat) (s : State) := s.act fun d =>
  match d.partnerX x with
  | none => d
  | some f =>
    let due := (d.frame - 8) / 64 * 64
    let old := match smFind d.canary.checked x with | some c => decide (due ≤ c) && decide (c ≤ d.frame) | none => false
    if !d.flag FB_CTRL_enable || decide (d.frame < 8) || old then d
    else
      let d := d.modCanary fun c => { c with checked := smSet c.checked x due }
      let came := match smFind d.canary.heard f with
        | some h => h.inTime.contains due
        | none => false
      if came then d.setMissed x 0
      else
        let n := d.missedBy x + 1
        let d := d.setMissed x n
        let thr := d.fld FT_CANARY_TIMING_missed
        if liveState (d.liveSet d.version) f ≠ 0 then d
        else if x < 16 then (if thr ≤ n ∧ !d.suspects x ∧ d.rowLive x then d.beginSuspicion x f else d)
        else if n = thr then d.raise 0x0B 0 f 0 else d

/-- A heartbeat for this device. -/
def Dev.takeBeat (d : Dev) (pl : List Byte) (arrived : Nat) : Dev :=
  let f := leAt pl 0 4; let sent := leAt pl 8 8
  let old := match smFind d.canary.heard f with | some h => h.inTime | none => []
  let inTime := if arrived ≤ sent + 8 then (sent :: old).take 8 else old
  let d := d.modCanary fun c => { c with heard := smSet c.heard f ⟨sent, arrived, leAt pl 4 1, inTime⟩ }
  let x := fidX f
  let d := if d.memberFid x = f ∧ f ≠ d.fid then
      let d := d.setFld (FT_CANARY_PEER_last_frame x) (sent % 2 ^ 32)
      match smFind d.canary.suspects x with
      | some b => if b < sent then d.endSuspicion x else d
      | none => d
    else d
  if bitAt (leAt pl 6 1) 0 && d.flag FB_CTRL_enable then d.enterFenced else d

/-- HEARTBEAT: taken, or relayed with its hop count raised, up to 7 (R427, R428, R436). -/
def execHeartbeat (rx : Nat) (s : State) := s.act fun d =>
  d.onRx rx (isBell kHeartbeat) fun d r =>
    let d := d.dropRx r
    let pl := r.cell.payload
    if bitAt (leAt pl 6 1) 1 && leAt pl 24 4 != d.fid then
      if d.selfFenced ∨ 7 ≤ leAt pl 7 1 + 1 then d
      else d.bellVia kHeartbeat (putLe pl 7 1 (leAt pl 7 1 + 1)) ⟨r.cell.src, leAt pl 24 4, leAt pl 7 1 + 1, 0⟩
    else d.takeBeat pl r.frame

/-! ### Votes, quorum and verdicts (R430 to R432) -/

/-- SUSPECT_SEND: from the frame after suspicion began, every 16 frames. -/
def execSuspectSend (x : Nat) (s : State) := s.act fun d =>
  match smFind d.canary.suspects x with
  | some b =>
    let due := match smFind d.canary.voted x with | some f => decide (f + 16 ≤ d.frame) | none => decide (b < d.frame)
    if d.flag FT_CANARY_CTRL_enable && due then
      let d := d.modCanary fun c => { c with voted := smSet c.voted x d.frame }
      d.toRow kSuspect (leBytes 4 d.fid ++ leBytes 4 (d.memberFid x) ++ leBytes 8 b ++ leBytes 1 d.rowCount ++
        leBytes 1 (d.voters x).length)
    else d
  | none => d

/-- The row coordinate of another row member. -/
def Dev.rowX (d : Dev) (f : Nat) : Option Nat := if d.fid ≠ noFid ∧ d.memberFid (fidX f) = f ∧ d.inMap f then some (fidX f) else none

/-- SUSPECT: a vote, counted from the arrival of its last copy. -/
def execSuspect (rx : Nat) (s : State) := s.act fun d =>
  d.onRx rx (isBell kSuspect) fun d r =>
    let d := d.dropRx r
    match d.rowX (leAt r.cell.payload 0 4), d.rowX (leAt r.cell.payload 4 4) with
    | some v, some t =>
      if v = fidX d.fid ∨ !d.rowLive t then d
      else (d.modCanary fun c => { c with votes := ⟨t, v, r.frame⟩ :: c.votes.filter fun w => !(w.suspect == t && w.voter == v) }).canaryRegs
    | _, _ => d

/-- RETRACT: that vote lapses. -/
def execRetract (rx : Nat) (s : State) := s.act fun d =>
  d.onRx rx (isBell kRetract) fun d r =>
    let d := d.dropRx r
    match d.rowX (leAt r.cell.payload 0 4), d.rowX (leAt r.cell.payload 4 4) with
    | some v, some t => (d.modCanary fun c => { c with votes := c.votes.filter fun w => !(w.suspect == t && w.voter == v) }).canaryRegs
    | _, _ => d

/-- VOTE_LAPSE: 64 frames after the last copy of a vote. -/
def execVoteLapse (suspect voter : Nat) (s : State) := s.act fun d =>
  if d.canary.votes.any fun w => w.suspect == suspect && w.voter == voter && decide (w.at_ + 64 ≤ d.frame) then
    (d.modCanary fun c => { c with votes := c.votes.filter fun w => !(w.suspect == suspect && w.voter == voter) }).canaryRegs
  else d

/-- Whether the fencing of a device has been announced, or is in force. -/
def Dev.fenceKnown (d : Dev) (f : Nat) : Bool := d.fenced f || (d.announcedFor f 1).isSome

/-- This device originates the fencing of row member x, unless it is known or this device may send none (R432, R436). -/
def Dev.originateFence (d : Dev) (x : Nat) : Dev :=
  if d.fenceKnown (d.memberFid x) || d.selfFenced then d else (d.originate [⟨d.memberFid x, 1⟩]).1

/-- A verdict is reached in frame f; this device originates the announce at once, or waits 64 frames for another's. -/
def Dev.verdict (d : Dev) (x f : Nat) (now later : Bool) : Dev :=
  let d := (d.modCanary fun c => { c with reached := x :: c.reached }).raise 0x0B 1 (d.memberFid x) 0
  if now then d.originateFence x
  else if later then d.modCanary fun c => { c with verdicts := smSet c.verdicts x f }
  else d

/-- CANARY_VERDICT (R432). -/
def execCanaryVerdict (x : Nat) (s : State) := s.act fun d =>
  let held := match smFind d.canary.quorum x with
    | some f => decide (f + d.fld FT_CANARY_TIMING_confirm ≤ d.frame)
    | none => false
  if d.flag FT_CANARY_CTRL_enable && held && d.hasQuorum x && x != fidX d.fid && !d.canary.reached.contains x then
    let mine := d.suspects x
    d.verdict x d.frame (mine && (d.voters x).head? == some (fidX d.fid)) mine
  else d

/-- VERDICT_ANNOUNCE_FALLBACK (R432, R434). -/
def execVerdictAnnounceFallback (x : Nat) (s : State) := s.act fun d =>
  match smFind d.canary.verdicts x with
  | some f =>
    if d.flag FT_CANARY_CTRL_enable && decide (f + 64 ≤ d.frame) then
      (d.modCanary fun c => { c with verdicts := smDel c.verdicts x }).originateFence x
    else d
  | none => d

/-! ### Self-declaration (R434) -/

/-- SELF_DEAD to every row member on every port. -/
def Dev.sendDead (d : Dev) (src : Nat) : Dev :=
  let pl := leBytes 4 d.fid ++ leBytes 1 src ++ zeros 3 ++ leBytes 8 d.frame
  [0, 1].foldl (fun d p => d.rowPeers.foldl (fun d x => if d.mayBell p x kSelfDead then d.bell p x kSelfDead pl else d) d) d

/-- The declare-dead action: FENCED at once, and SELF_DEAD three times, 16 frames apart. -/
def Dev.declareDead (d : Dev) (src : Nat) : Dev :=
  (d.enterFenced.sendDead src).modCanary fun c => { c with deadLeft := some (2, d.frame + 16, src) }

/-- The repeats that are due in this frame. -/
def Dev.repeatDead (d : Dev) : Dev :=
  match d.canary.deadLeft with
  | some (n, f, src) =>
    if f ≤ d.frame then
      (d.sendDead src).modCanary fun c => { c with deadLeft := if n = 1 then none else some (n - 1, d.frame + 16, src) }
    else d
  | none => d

/-- SELF_DEAD: a verdict on its sender in the frame of its arrival. -/
def execSelfDead (rx : Nat) (s : State) := s.act fun d =>
  d.onRx rx (isBell kSelfDead) fun d r =>
    let d := d.dropRx r
    match d.rowX (leAt r.cell.payload 0 4) with
    | some x =>
      if !d.flag FT_CANARY_CTRL_enable || x == fidX d.fid || !d.rowLive x || d.canary.reached.contains x then d
      else
        let first := (List.range 16).find? fun y => y != x && d.rowLive y
        d.verdict x r.frame (first == some (fidX d.fid)) true
    | none => d

/-! ### The minority rule (R437) -/

/-- The row partners heard of late, and this device. -/
def Dev.rowHeard (d : Dev) : List Nat :=
  let w := d.fld FT_CANARY_TIMING_missed * 64 + 8
  (List.range 16).filter fun x => x == fidX d.fid || (match d.partnerX x with
    | some f => (match smFind d.canary.heard f with | some h => decide (d.frame ≤ h.arrived + w) | none => false)
    | none => false)

/-- Whether the device is in minority. -/
def Dev.inMinority (d : Dev) : Bool :=
  let r := d.rowHeard.length; let l := d.rowCount
  decide (r < l / 2 + 1) &&
    !(decide (2 * r = l) && (match (List.range 16).find? d.rowLive with | some x => d.rowHeard.contains x | none => false))

/-- Follow the minority condition: state 1 or 2, and the cause of canary-minority. -/
def Dev.minorityTick (d : Dev) : Dev :=
  let m := d.flag FT_CANARY_CTRL_enable && d.flag FB_CTRL_enable && d.fid != noFid && d.inMinority
  let d := if d.flag FT_CANARY_CTRL_enable && !d.selfFenced then d.setFld FT_CANARY_STATUS_state (if m then 2 else 1) else d
  let d := d.modCanary fun c =>
    let a := if !m then none else match c.minorityAt with | some f => some f | none => some d.frame
    { c with minorityAt := a }
  d.setActive 0x0D m

/-- MINORITY_FENCE: in minority for confirm frames. -/
def execMinorityFence (s : State) := s.act fun d =>
  match d.canary.minorityAt with
  | some f =>
    if d.flag FT_CANARY_CTRL_enable && d.inMinority && !d.selfFenced && decide (f + d.fld FT_CANARY_TIMING_confirm ≤ d.frame) then
      (d.raise 0x0D 3 d.fid 0).enterFenced
    else d
  | none => d

/-! ### FT_CANARY_CTRL (R430, R439) -/

/-- Whether a source outside 0x0B to 0x0D holds a pending level of 2 or more. -/
def Dev.severePending (d : Dev) : Bool := (List.range 256).any fun i =>
  !(decide (0x0B ≤ i) && decide (i ≤ 0x0D)) && d.flag (FT_SRC_STAT_pending i) && decide (2 ≤ d.fld (FT_SRC_STAT_level i))

/-- A write to FT_CANARY_CTRL (Table 12-11). -/
def Dev.canaryCtrlW (d : Dev) (v : Word64) : WriteRes :=
  let on := d.flag FT_CANARY_CTRL_enable
  if bitAt v.toNat 0 && !on && !d.flag FB_CTRL_enable then d.refuse FT_CANARY_CTRL CFG_CONFLICT
  else if bitAt v.toNat 1 && (d.fld FT_CANARY_STATUS_state != 3 || d.severePending) then d.refuse FT_CANARY_CTRL FAULT_ACTIVE
  else
    let d := d.setFld FT_CANARY_CTRL_enable (wget v 0 0)
    let st := d.fld FT_CANARY_STATUS_state
    let d := if bitAt v.toNat 0 then (if st = 0 then d.setFld FT_CANARY_STATUS_state 1 else d)
      else if st = 1 ∨ st = 2 then (d.setFld FT_CANARY_STATUS_state 0).modCanary fun c => { c with minorityAt := none } else d
    let d := if bitAt v.toNat 1 then d.setFld FT_CANARY_STATUS_state 4 else d
    (d.canaryRegs, OK)

def execFtCanaryEnable (v : Word64) (s : State) := s.act fun d =>
  d.ownWrite FT_CANARY_CTRL v (!bitAt v.toNat 1) fun d => d.canaryCtrlW v
def execFtCanaryRejoin (v : Word64) (s : State) := s.act fun d =>
  d.ownWrite FT_CANARY_CTRL v (bitAt v.toNat 1) fun d => d.canaryCtrlW v

end Sys2Proof.Machine
end

