-- ==== Sys2Proof/Machine/Faults.lean ====
section
/-!
DEFINITION. Sys2Proof/Machine/Faults.lean: the fault classifier, its log and its clears (R417 to R426, R521), and the margins (R442,
R443).
-/

namespace Sys2Proof.Machine

def Dev.modFt (d : Dev) (f : FaultSt → FaultSt) : Dev := { d with ft := f d.ft }

/-! ### Sources (Tables 12-1 and 13-6) -/

/-- The compute die that indexes a source. -/
def srcDie (i : Nat) : Option Nat :=
  (([0x30, 0x40, 0x50, 0x60, 0x98, 0xA8, 0xB8, 0xF0] : List Nat).find? fun b => decide (b ≤ i) && decide (i < b + 12)).map (i - ·)

/-- The drift or port that indexes a source. -/
def srcPort (i : Nat) : Option Nat :=
  (([0x78, 0x80, 0x88, 0x90, 0xC8, 0xD0] : List Nat).find? fun b => decide (b ≤ i) && decide (i < b + 6)).map (i - ·)

/-- Whether the tables list an index. -/
def srcListed (i : Nat) : Bool :=
  decide (i < 0x0E) || (decide (0x10 ≤ i) && decide (i < 0x30)) || (srcDie i).isSome || (srcPort i).isSome ||
    (decide (0x5C ≤ i) && decide (i < 0x60)) || (decide (0x6C ≤ i) && decide (i < 0x72)) ||
    (decide (0xE0 ≤ i) && decide (i < 0xE5)) || (decide (0xE8 ≤ i) && decide (i < 0xED)) || i == 0xFC

/-- Whether a source may raise: listed, and its unit fitted (R417). -/
def Dev.srcFits (d : Dev) (i : Nat) : Bool :=
  srcListed i && (match srcDie i with | some n => d.dieFitted n | none => true) &&
    (match srcPort i with | some n => d.driftFitted n | none => true)

def Dev.srcPending (d : Dev) (i : Nat) : Bool := d.flag (FT_SRC_STAT_pending i)
def Dev.srcLevel (d : Dev) (i : Nat) : Nat := d.fld (FT_SRC_STAT_level i)

/-- FT_STATUS as the sources stand (R424). -/
def Dev.ftStatus (d : Dev) : Dev :=
  let l := (List.range 256).filter d.srcPending
  ((d.setFld FT_STATUS_level (l.foldl (fun m i => max m (d.srcLevel i)) 0)).setFld FT_STATUS_fault (b2n (!l.isEmpty))).setFld
    FT_STATUS_pending l.length

/-! ### One event (R418 to R421, R425) -/

/-- What R419 gives for an event: the final level, the count after it, whether the threshold was reached and whether it
escalated. -/
structure Judged where
  level : Nat
  count : Nat
  reached : Bool
  escalated : Bool
  deriving DecidableEq, Repr

/-- The count that the open window still holds. -/
def Dev.openCount (d : Dev) (i : Nat) : Nat :=
  let n := d.fld (FT_SRC_STAT_count i)
  match smFind d.ft.opened i with
  | some f => if f + d.fld (FT_SRC_CFG_window i) ≤ d.frame then 0 else n
  | none => n

/-- Another or the same source of the class holds a pending level of at least 1. -/
def Dev.classPending (d : Dev) (c : Nat) : Bool := (List.range 256).any fun i =>
  d.srcPending i && decide (1 ≤ d.srcLevel i) && d.fld (FT_SRC_CFG_class i) == c

/-- R419; the count saturates at the width of its field. -/
def Dev.judge (d : Dev) (e : FaultEv) : Judged :=
  let n := min 4095 (d.openCount e.src + 1)
  let t := d.fld (FT_SRC_CFG_threshold e.src)
  let hit := decide (t ≠ 0 ∧ t ≤ n)
  let esc := d.classPending (d.fld (FT_SRC_CFG_class e.src))
  ⟨min 3 ((if hit then max e.level 2 else e.level) + b2n esc), if hit then 0 else n, hit, esc⟩

/-- The action mask of a level. -/
def Dev.actMask (d : Dev) (i level : Nat) : Nat :=
  if level = 0 then d.fld (FT_SRC_CFG_act0 i) else if level = 1 then d.fld (FT_SRC_CFG_act1 i)
  else if level = 2 then d.fld (FT_SRC_CFG_act2 i) else d.fld (FT_SRC_CFG_act3 i)

/-- The actions of an event: none while FT_CTRL.enable is clear, fence port only for a source that has a port. -/
def Dev.actions (d : Dev) (i level : Nat) : Nat :=
  if !d.flag FT_CTRL_enable then 0
  else
    let m := d.actMask i level
    if (srcPort i).isSome then m else putBits m 2 2 0

/-- A record of the log (Table 12-3). -/
def Dev.logRecord (d : Dev) (e : FaultEv) (j : Judged) (acts : Nat) : List Byte :=
  leBytes 8 d.frame ++ leBytes 1 e.src ++ leBytes 1 e.level ++ leBytes 1 j.level ++ leBytes 1 acts ++ leBytes 2 j.count ++
    leBytes 1 (b2n j.reached + 2 * b2n j.escalated) ++ [0] ++ leBytes 8 e.d0 ++ leBytes 8 e.d1

/-- Add a record; the oldest of 1,024 unread ones is lost. -/
def Dev.addLog (d : Dev) (r : List Byte) : Dev :=
  let full := decide (1024 ≤ d.ft.log.length)
  let d := if full then (d.countSat FT_LOG_STAT_lost 1).modFt fun f => { f with lost := min (f.lost + 1) 0xFFFFFFFF } else d
  let d := d.modFt fun f => { f with log := (if full then f.log.drop 1 else f.log) ++ [r] }
  d.setFld FT_LOG_STAT_unread d.ft.log.length

/-- The cores that the stop action reaches: those of the source's die, or every core. -/
def srcCores (i : Nat) : List Nat := match srcDie i with | some n => coresOfDie n | none => List.range 960

/-- The actions of Table 12-2. -/
def Dev.act (d : Dev) (src level acts : Nat) : Dev :=
  let d := if bitAt acts 0 then d.event 3 src level else d
  let d := if bitAt acts 1 then (srcCores src).foldl (fun d k => if d.coreState k = 1 then d.stopCore k else d) d else d
  let d := if bitAt acts 2 then (match srcPort src with | some p => if d.driftFitted p then d.driftOff p else d | none => d) else d
  if bitAt acts 3 then d.declareDead src else d

/-- The classifier handles one event. -/
def Dev.classify (d : Dev) (e : FaultEv) : Dev :=
  let j := d.judge e
  let acts := d.actions e.src j.level
  let fresh := d.openCount e.src = 0
  let d := if fresh then d.modFt fun f => { f with opened := smSet f.opened e.src d.frame } else d
  let d := (d.setFld (FT_SRC_STAT_level e.src) (max (if d.srcPending e.src then d.srcLevel e.src else 0) j.level)).setFld
    (FT_SRC_STAT_pending e.src) 1
  let d := (d.setFld (FT_SRC_STAT_count e.src) j.count).countSat (FT_SRC_STAT_events e.src) 1
  let d := ((d.addLog (d.logRecord e j acts)).setFld FT_STATUS_last e.src).ftStatus
  d.act e.src j.level acts

/-! ### Errors in guarded words (R148, R209, R215) -/

/-- What errors in a word make of its check bits, against the clean ones of the word as it then stands. -/
def strikeDiff (errors : List (Nat × Nat)) : BitVec 16 := errors.foldl (fun c e => c ^^^ symbolDiff e.1 e.2) 0

/-- Errors in a register word: data symbols change, and the difference of the check bits follows. -/
def Core.strike (c : Core) (n : Nat) (errors : List (Nat × Nat)) : Core :=
  if maskWord 0 ≤ n ∧ n < maskWord 1 then c
  else (errors.foldl (fun c e => if e.1 < 32 then c.flipWord n e.1 e.2 else c) c).setDiff n (c.wordDiff n ^^^ strikeDiff errors)

/-- An error strikes a guarded word.  A word of memory or of a register keeps it until it is read, a flit word until the read that it
carries; the two words of an instruction store word, and a headframe memory, meet their decoder at once (R189, Table 12-2). -/
def Dev.strike (d : Dev) (x : Strike) : Dev :=
  match x.word with
  | .memory a => match d.place a with
    | some p => x.errors.foldl (fun d e => d.injectSymbol p.key e.1 e.2) d
    | none => d
  | .register k n => d.modCore k fun c => c.strike n x.errors
  | .instruction k i => match veinDecode (strikeDiff x.errors) with
    | .clean => d
    | .data _ _ => d.countCorrected (.scratch k) (regSpaceBase + istore k (i / 2 * 2))
    | .check => d.countCorrected (.scratch k) (regSpaceBase + istore k (i / 2 * 2))
    | _ =>
      let bad := [i / 2 * 2, i / 2 * 2 + 1].foldl (fun m j => smPut (fun _ => false) m (istore k j) true) d.ram.istoreBad
      Dev.countBad { d with ram := { d.ram with istoreBad := bad } } (.scratch k) (regSpaceBase + istore k (i / 2 * 2))
  | .flit a => match d.place a with
    | some ⟨.hbm _, key⟩ =>
      let y := smGet (fun _ => 0) d.ram.flits (key / 16) ^^^ strikeDiff x.errors
      { d with ram := { d.ram with flits := smPut (fun _ => (0 : BitVec 16)) d.ram.flits (key / 16) y } }
    | _ => d
  | .headframe => match veinDecode (strikeDiff x.errors) with
    | .clean => d
    | .data _ _ => d.raise 0x71 0 0 0
    | .check => d.raise 0x71 0 0 0
    | _ => d.raise 0x70 2 0 UNCORRECTABLE

/-- Words of the faces, accumulators, vector and mask registers of a core (Machine/CoreOps.lean). -/
def registerWords : Nat := 86016

/-- A strike on a word that the device has, in symbols of the word. -/
def strikeOk (x : Strike) : Bool :=
  (match x.word with
    | .register k n => decide (k < 960) && decide (n < registerWords)
    | .instruction k i => decide (k < 960) && decide (i < 8192)
    | .memory _ => true
    | .flit _ => true
    | .headframe => true) &&
  x.errors.all fun e => decide (e.1 < 36) && decide (1 ≤ e.2) && decide (e.2 < 16)

/-- The errors that strike guarded words next: a free value, of words that the device has (log 156). -/
def Dev.nextStrikes (d : Dev) : List Strike := (Config.strikes d.freeCtr).filter strikeOk

/-- When no event waits, the next errors strike. -/
def Dev.struck (d : Dev) : Dev := match d.faults with | [] => d.nextStrikes.foldl Dev.strike (d.draw 1) | _ :: _ => d

/-- FAULT_EVENT: the oldest event that has been raised is classified; when none waits, errors strike guarded words first.  An index or
unit that never raises raises nothing. -/
def execFaultEvent (s : State) := s.actLegend fun d =>
  let d := d.struck
  match d.faults with
  | [] => d
  | e :: t =>
    let d := { d with faults := t }
    if d.srcFits e.src then d.classify e else d

/-! ### Clears (R423, R424) -/

/-- Acknowledge a source: the reason. -/
def Dev.clearSource (d : Dev) (i : Nat) : WriteRes :=
  if d.flag (FT_SRC_STAT_active i) then (d.setFld FT_STATUS_reason FAULT_ACTIVE, FAULT_ACTIVE)
  else (((d.setFld (FT_SRC_STAT_pending i) 0).setFld (FT_SRC_STAT_level i) 0).ftStatus, OK)

/-- A write to FT_CLEAR. -/
def Dev.ftClearW (d : Dev) (v : Word64) : WriteRes := d.clearSource (wget v 7 0)

def execFtClearWrite (v : Word64) (s : State) := s.act fun d => d.ownWrite FT_CLEAR v true fun d => d.ftClearW v

def execFaultClear (cmd : Nat) (s : State) := s.act fun d => d.onCmd cmd 0x0600 fun d c =>
  match d.clearSource (c.p 0 % 256) with
  | (d1, r) => d1.complete c r

/-! ### The log (R426) -/

def execFaultLogRead (cmd : Nat) (s : State) := s.act fun d => d.onCmd cmd 0x0601 fun d c =>
  let len := c.p 1
  if len % 32 ≠ 0 ∨ len = 0 ∨ 32768 < len then d.complete c BAD_LENGTH
  else
    let out := d.ft.log.take (len / 32)
    let lost := d.ft.lost
    let d := (d.hostWrite (c.p 0) out.flatten).modFt fun f => { f with log := f.log.drop (len / 32), lost := 0 }
    (d.setFld FT_LOG_STAT_unread d.ft.log.length).complete c OK out.length lost

/-! ### Margins (R442, R443) -/

/-- The receive sensitivity, −9.0 dBm in 0.01 dB (Table 15-8). -/
def rxSensitivity : Int := -900

/-- A drift's lane: its number among the lanes of a set. -/
def marginKey (set unit sub : Nat) : Nat := set * 4096 + unit * 64 + sub

/-- Record one margin: present, and least since the last read. -/
def Dev.setMargin (d : Dev) (key : Nat) (m : Int) : Dev := d.modFt fun f =>
  let least := match smFind f.margins key with | some (_, l) => min l m | none => m
  { f with margins := smSet f.margins key (m, least) }

/-- The present margins of a unit's entries of a set. -/
def Dev.marginsOf (d : Dev) (set unit : Nat) : List Int :=
  d.ft.margins.filterMap fun e => if e.1 / 64 = set * 64 + unit then some e.2.1 else none

/-- Raise a margin source when some margin is below the threshold. -/
def Dev.marginRaise (d : Dev) (src : Nat) (l : List Int) (thr d0 : Nat) : Dev :=
  let low := l.any fun m => decide (m < (thr : Int))
  let d := d.setActive src low
  if low then d.raise src 1 d0 0 else d

/-- The margins of a drift's lanes: optical power, whose least received power is free, and wavelength. -/
def Dev.driftMargins (d : Dev) (n : Nat) : Dev :=
  let d := (List.range 32).foldl (fun d l =>
    let rx := sext 16 (d.freeAt 0).toNat
    let d := (d.draw 1).setFld (DR_LANE_RXP_min n l) (wrap 16 rx)
    let wave : Int := (d.fld (DR_THRESH_ferr_quar n) * 10 : Nat) - ((d.sfld (DR_LANE_FERR_worst_mean n l)).natAbs : Int)
    (d.setMargin (marginKey 2 n l) (rx - rxSensitivity)).setMargin (marginKey 3 n l) wave) d
  (d.marginRaise (0xC8 + n) (d.marginsOf 2 n) (d.fld FT_MARGIN_THRESH_optical) (portDetail n 0 0)).marginRaise (0xD0 + n)
    (d.marginsOf 3 n) (d.fld FT_MARGIN_THRESH_wavelength) (portDetail n 0 0)

/-- MARGIN_SAMPLE: every 1,024 frames; voltage gives one value a die, timing one a cluster. -/
def execMarginSample (voltage timing : List Int) (s : State) := s.act fun d =>
  if d.frame % 1024 = 0 ∧ d.ft.sampledAt ≠ d.frame ∧ voltage.length = 12 ∧ timing.length = 96 then
    let kept := d.ft.margins.filter fun e =>
      let u := e.1 / 64 % 64
      if e.1 / 4096 = 0 then d.dieUp u else if e.1 / 4096 = 1 then d.clusterUp u (e.1 % 64) else d.driftFitted u
    let d := d.modFt fun f => { f with sampledAt := d.frame, margins := kept }
    let d := (List.range 12).foldl (fun d n =>
      if !d.dieUp n then d
      else
        let d := d.setMargin (marginKey 0 n 0) (voltage.getD n 0)
        let d := (List.range 8).foldl (fun d c => if d.clusterUp n c then d.setMargin (marginKey 1 n c) (timing.getD (n * 8 + c) 0) else d) d
        (d.marginRaise (0xA8 + n) (d.marginsOf 0 n) (d.fld FT_MARGIN_THRESH_voltage) 0).marginRaise (0xB8 + n) (d.marginsOf 1 n)
          (d.fld FT_MARGIN_THRESH_timing) 0) d
    (List.range 6).foldl (fun d n => if d.driftFitted n then d.driftMargins n else d) d
  else d

/-- The entries of a set in ascending order of unit. -/
def Dev.marginEntries (d : Dev) (set : Nat) : List (List Byte) :=
  d.ft.margins.filterMap fun e => if e.1 / 4096 = set then
      some (leBytes 2 (wrap 16 e.2.1) ++ leBytes 2 (wrap 16 e.2.2) ++ leBytes 1 (e.1 / 64 % 64) ++ leBytes 1 (e.1 % 64) ++ zeros 2)
    else none

/-- TELEMETRY_READ (R443). -/
def execTelemetryRead (cmd : Nat) (s : State) := s.act fun d => d.onCmd cmd 0x0602 fun d c =>
  let set := c.p 2 % 256
  let es := d.marginEntries set
  if 3 < set then d.complete c CFG_RANGE
  else if c.p 1 < 16 + 8 * es.length then d.complete c BAD_LENGTH
  else
    let bytes := leBytes 1 set ++ [0] ++ leBytes 2 es.length ++ zeros 4 ++ leBytes 8 d.ft.sampledAt ++ es.flatten
    let fresh := d.ft.margins.map fun e => (e.1, e.2.1, if e.1 / 4096 = set then e.2.1 else e.2.2)
    ((d.hostWrite (c.p 0) bytes).modFt fun f => { f with margins := fresh }).complete c OK

end Sys2Proof.Machine
end

