-- ==== Sys2Proof/Machine/Power.lean ====
section
/-!
DEFINITION. Sys2Proof/Machine/Power.lean: what a module reset leaves (R40), the rails and their order (R462 to R465), the outputs of
the standby controller (R503, R504), the I3C port (R505) and the test port (R506).
-/

namespace Sys2Proof.Machine

def Dev.modPw (d : Dev) (f : PowerSt → PowerSt) : Dev := { d with pw := f d.pw }

/-! ### Module reset -/

/-- The device after a module reset: everything at its reset value but the standby domain, the flash, the fuses, the rows
repaired, the test port and the host's memory. -/
def Dev.moduleReset (d : Dev) : Dev :=
  let kept : Dev := { host := d.host, hostEp := d.hostEp, pw := d.pw, tap := d.tap, flash := d.flash, freeCtr := d.freeCtr, nextId := d.nextId }
  { kept with svc := { repairs := d.svc.repairs } }.setReg TM_SHUTDOWN (d.reg TM_SHUTDOWN)

/-- MODULE_RESET (R40, Table 1-8). -/
def execModuleReset (s : State) := s.act fun d => if d.pw.phase = .on then d.moduleReset else d

/-! ### Rails -/

/-- The step of Table 13-4 that powers a rail, by its index in the order of Table 13-3; 53 is the 6.0 V intermediate bus. -/
def railStep (r : Nat) : Nat :=
  if r < 24 then 6 else if r < 29 then 2 else if r < 37 then 4 else if r < 41 then 3 else if r < 53 then 5 else if r = 53 then 1 else 0

/-- The inputs lie in their operating ranges (R463, Table 15-4). -/
def PowerSt.inputsOk (p : PowerSt) : Bool :=
  decide (40000 ≤ p.mainMv) && decide (p.mainMv ≤ 60000) && decide (11400 ≤ p.auxMv) && decide (p.auxMv ≤ 12600) &&
    decide (3135 ≤ p.standbyMv) && decide (p.standbyMv ≤ 3465)

/-- Step 1 of power-up begins when everything that R463 asks for holds. -/
def PowerSt.tryUp (p : PowerSt) : PowerSt :=
  if p.phase = .off ∧ p.pwrEn ∧ p.hold = .none ∧ p.inputsOk then { p with phase := .up 1, deadDies := [], deadDrifts := [] } else p

/-- PWR_EN_ASSERT; a cycle of PWR_EN ends what kept the module off (R453, R464). -/
def execPwrEnAssert (mainMv auxMv standbyMv : Nat) (s : State) := s.act fun d => d.modPw fun p =>
  let p := { p with hold := if p.pwrEn then p.hold else .none, mainMv := mainMv, auxMv := auxMv, standbyMv := standbyMv }
  PowerSt.tryUp { p with pwrEn := true }

/-- MAIN_INPUT_APPLIED: main input has been removed and restored. -/
def execMainInputApplied (mainMv : Nat) (s : State) := s.act fun d => d.modPw fun p =>
  if p.phase = .off ∧ 40000 ≤ mainMv ∧ mainMv ≤ 60000 then
    PowerSt.tryUp { p with mainMv := mainMv, hold := if p.hold = .railFault then .railFault else .none }
  else p

/-- RAIL_STEP_DONE: the next step begins, or main power good is declared. -/
def execRailStepDone (s : State) := s.act fun d => d.modPw fun p =>
  match p.phase with
  | .up n => { p with phase := if n < 6 then .up (n + 1) else .on }
  | _ => p

/-- The controller turns the rails off, from the step they have reached. -/
def PowerSt.goDown (p : PowerSt) : PowerSt :=
  match p.phase with
  | .on => { p with phase := .down 6 }
  | .up n => { p with phase := .down n }
  | _ => p

/-- Record why the module turned off (Table 13-11). -/
def Dev.recordOff (d : Dev) (cause where_ : Nat) (temp : Int) : Dev :=
  ((((d.setFld TM_SHUTDOWN_valid 1).setFld TM_SHUTDOWN_cause cause).setFld TM_SHUTDOWN_where where_).setFld TM_SHUTDOWN_temp
    (wrap 16 temp)).setFld TM_SHUTDOWN_frame (d.frame % 2 ^ 32)

/-- The module turns off for a recorded cause (R453, R461). -/
def Dev.turnOff (d : Dev) (cause where_ : Nat) (temp : Int) : Dev :=
  (d.recordOff cause where_ temp).modPw fun p => { p.goDown with hold := .shutdown }

/-- RAIL_TIMEOUT: a rail of the step in progress misses its time (R464). -/
def execRailTimeout (rail : Nat) (s : State) := s.act fun d =>
  match d.pw.phase with
  | .up n =>
    if railStep rail ≠ n then d
    else if rail < 24 then d.modPw fun p => { p with deadDies := if p.deadDies.contains (rail % 12) then p.deadDies else rail % 12 :: p.deadDies }
    else if 41 ≤ rail ∧ rail < 53 then d.modPw fun p =>
      let k := (rail - 41) % 6
      { p with deadDrifts := if p.deadDrifts.contains k then p.deadDrifts else k :: p.deadDrifts }
    else (d.recordOff 2 rail 0).modPw fun p => { p.goDown with hold := .railFault, railFault := true }
  | _ => d

/-- PWR_EN_DEASSERT (R465, R500). -/
def execPwrEnDeassert (s : State) := s.act fun d => d.modPw fun p => { p.goDown with pwrEn := false }

/-- A compute die leaves service: its cores, its seam and its memories with it. -/
def Dev.dieOut (d : Dev) (n : Nat) : Dev :=
  let d := (coresOfDie n).foldl (fun d k => d.blankCore k 5) d
  let d := ((List.range 8).foldl (fun d c => d.clearCluster n c) d).clearSeam n
  let d := { d with ram := { d.ram with
    clusterInit := d.ram.clusterInit.filter fun k => k / 8 != n, seamInit := d.ram.seamInit.filter (· != n) } }
  (d.setFld (HF_DIE_STRAP_in_service n) 0).failAbsent

/-- What is lost when the rails of a step are off: dies, drifts, stacks, and the headframe with everything else. -/
def Dev.railsLost (d : Dev) (n : Nat) : Dev :=
  if n = 6 then (List.range 12).foldl (fun d k => if d.dieUp k then d.dieOut k else d) d
  else if n = 5 then (List.range 6).foldl (fun d k => if d.driftFitted k then d.driftOff k else d) d
  else if n = 4 then ((List.range 16).foldl (fun d s => (d.setFld (MC_STATUS_state s) 0).setFld (MC_CTRL_enable s) 0) d).failAbsent
  else if n = 2 then d.moduleReset
  else d

/-- RAIL_DISCHARGE_STEP: one step of power-down ends; after the last, a PWR_EN that has come back starts power-up again. -/
def execRailDischargeStep (s : State) := s.act fun d =>
  match d.pw.phase with
  | .down n => (d.railsLost n).modPw fun p => if 1 < n then { p with phase := .down (n - 1) } else PowerSt.tryUp { p with phase := .off }
  | _ => d

/-! ### Sideband outputs (Table 15-5, R504) -/

/-- PWR_GOOD is high from main power good until power-down begins. -/
def Dev.pwrGood (d : Dev) : Bool := d.pw.phase == .on

/-- FAULT# is low. -/
def Dev.faultLow (d : Dev) : Bool :=
  if d.pwrGood then (d.flag FT_STATUS_fault && d.fld FT_STATUS_level == 3) || d.flag CP_STATUS_boot_failed
  else d.flag TM_SHUTDOWN_valid

/-- THERM_ALERT# is low. -/
def Dev.thermAlertLow (d : Dev) : Bool := d.pwrGood && (d.flag TM_STATUS_critical || d.flag TM_STATUS_power)

/-! ### The I3C port (R505, Table 15-6) -/

/-- The value of an index; 1, 5 and 6 are served while the main rails are off. -/
def Dev.i3cEntry (d : Dev) (index : Nat) : Nat :=
  if index = 1 then (d.reg TM_SHUTDOWN).toNat
  else if index = 5 then d.pw.strap.toNat
  else if index = 6 then Config.serial.toNat
  else if !d.pwrGood then 0
  else if index = 0 then (d.reg HF_BOOT_STAT).toNat
  else if index = 2 then (d.reg CP_STATUS).toNat
  else if index = 3 then (d.reg TM_PWR).toNat
  else if index = 4 then (d.reg TM_STATUS).toNat
  else if index = 7 then (d.reg FT_STATUS).toNat
  else 0

/-- I3C_READ: the controller has the eight bytes. -/
def execI3cRead (index : Nat) (s : State) := s.act fun d => d.modPw fun p => { p with i3c := leBytes 8 (d.i3cEntry index) }

/-- The provisional ID by which the port answers dynamic address assignment. -/
def i3cProvisionalId : BitVec 48 := BitVec.ofNat 48 (Config.serial.toNat % 2 ^ 32 + 0x1FB7 * 2 ^ 32)

/-- The port asks for an in-band interrupt; whether the controller has enabled them is the controller's own state (log entry 157). -/
def Dev.i3cInterrupt (d : Dev) : Bool := d.faultLow || d.thermAlertLow

/-- I3C_SHUTDOWN_CLEAR: a byte 0x01 after index 1. -/
def execI3cShutdownClear (byte : BitVec 8) (s : State) := s.act fun d => if byte = 1 then d.setFld TM_SHUTDOWN_valid 0 else d

/-! ### The test port (R506) -/

def Dev.modTap (d : Dev) (f : TapSt → TapSt) : Dev := { d with tap := f d.tap }

/-- BYPASS, which every code not listed acts as: one bit between TDI and TDO. -/
def execBypass (_code : Nat) (tdi : Bool) (s : State) := s.act fun d =>
  d.modTap fun t => { t with out := [t.bypass], bypass := tdi, driven := none }

/-- IDCODE: the 32 bits of the identification code, lowest first. -/
def execIdcode (s : State) := s.act fun d =>
  d.modTap fun t => { t with out := (List.range 32).map fun i => bitAt Config.idcode.toNat i, driven := none }

/-- SAMPLE/PRELOAD: the pins are captured and shifted out, and new values shifted in. -/
def TapSt.sample (t : TapSt) (captured preload : List Bool) : TapSt := { t with out := captured, preload := preload, driven := none }

def execSamplePreload (captured preload : List Bool) (s : State) := s.act fun d => d.modTap fun t => t.sample captured preload

/-- EXTEST: the pins take the values shifted in while PWR_EN is low; otherwise as SAMPLE/PRELOAD. -/
def execExtest (captured preload : List Bool) (s : State) := s.act fun d => d.modTap fun t =>
  if d.pw.pwrEn then t.sample captured preload else { (t.sample captured preload) with driven := some preload }

/-- What the pins take from the chain: nothing while PWR_EN is high. -/
def Dev.pinsDriven (d : Dev) : Option (List Bool) := if d.pw.pwrEn then none else d.tap.driven

end Sys2Proof.Machine
end

