-- ==== Sys2Proof/Machine/Thermal.lean ====
section
/-!
DEFINITION. Sys2Proof/Machine/Thermal.lean: sensors and zones (R444 to R448), levels and throttling (R449 to R456), input power (R457
to R461), temperature gates (R466), CLOCK_LIMIT and THERMAL_READ (R468 to R470).  Spans given in microseconds are counted
in samples of 2 us.
-/

namespace Sys2Proof.Machine

def Dev.modTm (d : Dev) (f : ThermalSt → ThermalSt) : Dev := { d with tm := f d.tm }

/-! ### Zones (Tables 13-1 and 13-2) -/

def zoneSensors (z : Nat) : Nat :=
  if z < 12 then 24 else if z < 16 then 8 else if z = 16 then 16 else if z < 23 then 8 else if z = 23 then 4 else 1

/-- The compute dies of a zone's throttle set. -/
def throttleSet (z : Nat) : List Nat :=
  if z < 12 then [z] else if z < 16 then (List.range 3).map fun i => (z - 12) * 3 + i
  else if z < 24 then List.range 12 else (List.range 3).map fun i => (z - 24) / 4 * 3 + i

/-- Critical level in degrees C; shutdown lies 10 above. -/
def criticalC (z : Nat) : Nat := if z < 23 then 110 else if z = 23 then 85 else 95
def shutdownC (z : Nat) : Nat := criticalC z + 10

/-- Degrees C in the unit of a reading. -/
def sixteenths (c : Nat) : Int := 16 * (c : Int)

def Dev.zone (d : Dev) (z : Nat) : Zone := smGet (fun _ => ({} : Zone)) d.tm.zones z
def Dev.modZone (d : Dev) (z : Nat) (f : Zone → Zone) : Dev :=
  d.modTm fun t => { t with zones := smPut (fun _ => ({} : Zone)) t.zones z (f (smGet (fun _ => ({} : Zone)) t.zones z)) }

/-- Numbers of a zone's sensors that are not masked, and those of them that are valid (R448). -/
def Dev.unmasked (d : Dev) (z : Nat) : List Nat := (List.range (zoneSensors z)).filter fun j => !d.flag (TM_SENS_masked z j)
def Dev.validSensors (d : Dev) (z : Nat) : List Nat := (d.unmasked z).filter fun j => !d.flag (TM_SENS_invalid z j)

/-- What an unmasked sensor counts as (R446). -/
def Dev.counted (d : Dev) (z j : Nat) : Int :=
  if d.flag (TM_SENS_invalid z j) then sixteenths (criticalC z + 1) else d.sfld (TM_SENS_temp z j)

/-- A zone's temperature and hottest sensor (R447). -/
def Dev.zoneTemp (d : Dev) (z : Nat) : Int × Nat :=
  match d.unmasked z with
  | [] => (0, 0)
  | j :: t => t.foldl (fun b k => if b.1 < d.counted z k then (d.counted z k, k) else b) (d.counted z j, j)

/-! ### Clocks (R450) -/

def nominalMHz : Nat := 2200
def Dev.thermalCeil (d : Dev) (die : Nat) : Nat := smGet (fun _ => nominalMHz) d.tm.ceil die
def Dev.setCeil (d : Dev) (die v : Nat) : Dev := d.modTm fun t => { t with ceil := smPut (fun _ => nominalMHz) t.ceil die v }

/-- Whether a critical stretch applies to a die (R452). -/
def Dev.stretched (d : Dev) (die : Nat) : Bool := d.tm.zones.any fun e => e.2.crit && (throttleSet e.1).contains die

/-- The effective clock of a die. -/
def Dev.effective (d : Dev) (die : Nat) : Nat :=
  let h := d.fld TM_CLOCK_host
  let c := min (min nominalMHz (d.thermalCeil die)) (min d.tm.power (if h = 0 then nominalMHz else h))
  if d.stretched die || d.flag TM_CLOCK_stretch_power then c / 2 else c

def Dev.diesUp (d : Dev) : List Nat := (List.range 12).filter d.dieUp

/-- TM_CLOCK as the ceilings stand. -/
def Dev.clockRegs (d : Dev) : Dev :=
  let up := d.diesUp
  let d := d.setFld TM_CLOCK_effective (up.foldl (fun m n => min m (d.effective n)) nominalMHz)
  let d := (d.setFld TM_CLOCK_thermal ((List.range 12).foldl (fun m n => min m (d.thermalCeil n)) nominalMHz)).setFld TM_CLOCK_power
    d.tm.power
  d.setFld TM_CLOCK_stretch_thermal (b2n (d.tm.zones.any (·.2.crit)))

/-- The causes of the thermal sources, and TM_STATUS. -/
def Dev.thermalCauses (d : Dev) : Dev :=
  let adv := d.tm.zones.any (·.2.adv); let crit := d.tm.zones.any (·.2.crit); let enf := !d.tm.ceil.isEmpty
  let d := if enf && !d.flag TM_STATUS_enforced then d.raise 0xE2 1 0 0 else d
  let d := ((d.setFld TM_STATUS_advisory (b2n adv)).setFld TM_STATUS_enforced (b2n enf)).setFld TM_STATUS_critical (b2n crit)
  (((d.setActive 0xE1 adv).setActive 0xE2 enf).setActive 0xE3 crit).clockRegs

/-! ### Levels -/

/-- The level that TM_ZONE shows. -/
def Zone.level (x : Zone) : Nat := if x.crit then 3 else if x.enf then 2 else if x.adv then 1 else 0

/-- Change a zone, with the event of a change of level (R470): an advisory event, which TM_CTRL.enable governs (R455). -/
def Dev.putZone (d : Dev) (z : Nat) (x : Zone) : Dev :=
  let old := (d.zone z).level
  let d := (d.modZone z fun _ => x).setFld (TM_ZONE_level z) x.level
  if x.level ≠ old ∧ d.flag TM_CTRL_enable then d.event 5 z (d.fld (TM_ZONE_temp z) + x.level * 2 ^ 16) else d

/-- Lower the thermal ceiling of one die by a step, to the floor at the least. -/
def Dev.lowerDie (d : Dev) (n : Nat) : Dev :=
  let c := d.thermalCeil n
  d.setCeil n (min c (max (c - d.fld TM_THROTTLE_step) (d.fld TM_THROTTLE_floor)))

/-- Lower the dies of a zone's set that a condition picks; the zone then holds them down. -/
def Dev.lowerSet (d : Dev) (z : Nat) (p : Nat → Bool) : Dev :=
  let d := (throttleSet z).foldl (fun d n => if p n then d.lowerDie n else d) d
  d.putZone z { d.zone z with enf := true }

/-- Another zone holds a die down: one of its set's zones at advisory or critical. -/
def Dev.heldByOther (d : Dev) (z n : Nat) : Bool :=
  d.tm.zones.any fun e => e.1 != z && e.2.enf && (e.2.adv || e.2.crit) && (throttleSet e.1).contains n

/-- Raise the dies of a zone's set by a step; once they are at nominal the zone holds nothing down any more. -/
def Dev.raiseSet (d : Dev) (z : Nat) : Dev :=
  let d := (throttleSet z).foldl (fun d n =>
    if d.heldByOther z n then d else d.setCeil n (min nominalMHz (d.thermalCeil n + d.fld TM_THROTTLE_step))) d
  if (throttleSet z).all fun n => d.thermalCeil n == nominalMHz || d.heldByOther z n then
    d.putZone z { d.zone z with enf := false, relAt := none }
  else d.putZone z { d.zone z with relAt := some d.tm.tick }

/-- A grace time starts (R451, R456). -/
def Dev.startGrace (d : Dev) (z : Nat) : Dev :=
  d.putZone z { d.zone z with adv := true, forced := false, grace := some (d.frame + d.fld TM_GRACE_frames), relAt := none }

/-- A zone reaches advisory: the event, the source, and a grace time, or stepping again when its ceiling is still down (R451). -/
def Dev.reachAdvisory (d : Dev) (z : Nat) : Dev :=
  let x := d.zone z
  let d := d.raise 0xE1 0 0 0
  if x.enf && !x.crit then d.putZone z { x with adv := true, forced := true, stepAt := d.tm.tick, relAt := none }
  else d.startGrace z

/-- A zone leaves advisory: release begins. -/
def Dev.leaveAdvisory (d : Dev) (z : Nat) : Dev :=
  let x := d.zone z
  d.putZone z { x with adv := false, grace := none, forced := false, relAt := if x.enf then some d.tm.tick else none }

/-- A zone reaches critical: the stretch, and a step down at once while enforcement is on (R452). -/
def Dev.reachCritical (d : Dev) (z : Nat) : Dev :=
  let d := (d.raise 0xE3 2 0 0).putZone z { d.zone z with crit := true, calm := 0 }
  if d.flag TM_CTRL_enable then d.lowerSet z fun _ => true else d

/-- The module turns itself off: the cause, SELF_DEAD while the fabric is enabled, and every rail off (R453, R461). -/
def Dev.shutDown (d : Dev) (src cause where_ : Nat) (temp : Int) : Dev :=
  if d.pw.phase ≠ .on then d
  else
    let d := if d.flag FB_CTRL_enable then d.declareDead src else d
    d.turnOff cause where_ temp

/-- A zone at shutdown (R453). -/
def Dev.thermalShutdown (d : Dev) (z : Nat) (t : Int) : Dev := d.shutDown 0xE3 1 z t

/-- One sample of a zone's temperature judged (R449, R456). -/
def Dev.judgeZone (d : Dev) (z : Nat) : Dev :=
  let t := (d.zoneTemp z).1
  let x := d.zone z
  let two (c : Nat) : Bool := decide (sixteenths c ≤ t) && (match x.prev with | some p => decide (sixteenths c ≤ p) | none => false)
  let adv := d.fld (TM_ZONE_CFG_advisory z); let hyst := d.fld (TM_ZONE_CFG_hysteresis z)
  let on := d.flag TM_CTRL_enable
  let d := d.modZone z fun x => { x with prev := some t, rejudge := false, calm := if t < sixteenths (criticalC z) - 80 then x.calm + 1 else 0 }
  let d :=
    if x.rejudge && x.adv && decide (t < sixteenths adv) then d.leaveAdvisory z
    else if x.rejudge && on && decide (sixteenths adv ≤ t) && !x.enf then (if x.adv then d.startGrace z else d.reachAdvisory z)
    else if on && !x.adv && two adv then d.reachAdvisory z
    else if x.adv && decide (t < sixteenths adv - sixteenths hyst) then d.leaveAdvisory z
    else d
  let d := if !x.crit && two (criticalC z) then d.reachCritical z else d
  if two (shutdownC z) then d.thermalShutdown z t else d

/-! ### SENSOR_SAMPLE -/

/-- Consecutive samples with one count. -/
def Dev.sensorRun (d : Dev) (z j count : Nat) : Nat :=
  match smFind d.tm.runs (z * 32 + j) with | some (c, n) => if c = count then n + 1 else 1 | none => 1

/-- One sensor's sample (R444, R445); an HBM readout has no count. -/
def Dev.takeReading (d : Dev) (r : SensorReading) : Dev :=
  let z := r.zone; let j := r.sensor
  if 40 ≤ z ∨ zoneSensors z ≤ j ∨ !d.zoneFitted z then d
  else
    let hbm := decide (24 ≤ z)
    let run := if hbm then 1 else d.sensorRun z j r.count
    let bad := (!hbm && (r.count == 0 || decide (1024 ≤ run))) || decide (r.temp < -640) || decide (2400 < r.temp)
    let d := d.modTm fun t => { t with runs := if hbm then t.runs else smSet t.runs (z * 32 + j) (r.count, run) }
    let d := (d.setFld (TM_SENS_count z j) (if hbm then 0 else r.count)).setSfld (TM_SENS_temp z j) r.temp
    if bad && !d.flag (TM_SENS_invalid z j) then
      let d := d.setFld (TM_SENS_invalid z j) 1
      if d.flag (TM_SENS_masked z j) then d else d.raise 0xE0 1 0 0
    else d

/-- The higher of a temperature and the highest so far. -/
def peakOf (p : Option Int) (t : Int) : Int := match p with | some x => max x t | none => t

/-- A zone's registers after a sample. -/
def Dev.zoneRegs (d : Dev) (z : Nat) : Dev :=
  let t := d.zoneTemp z
  let d := d.modZone z fun x => { x with peak := some (peakOf x.peak t.1), hostPeak := some (peakOf x.hostPeak t.1) }
  let d := (d.setSfld (TM_ZONE_temp z) t.1).setFld (TM_ZONE_sensor z) t.2
  (d.setFld (TM_ZONE_valid z) (d.validSensors z).length).setFld (TM_ZONE_peak z) (wrap 16 (peakOf (d.zone z).peak t.1))

/-- The cause of the sensor source. -/
def Dev.sensorCause (d : Dev) : Dev :=
  d.setActive 0xE0 ((List.range 40).any fun z => (d.unmasked z).any fun j => d.flag (TM_SENS_invalid z j))

/-- The hottest zone. -/
def Dev.hottest (d : Dev) : Dev :=
  match (List.range 40).filter d.zoneFitted with
  | [] => d
  | z :: t =>
    let h := t.foldl (fun b y => if d.sfld (TM_ZONE_temp b) < d.sfld (TM_ZONE_temp y) then y else b) z
    (d.setFld TM_STATUS_hottest h).setFld TM_STATUS_temp (d.fld (TM_ZONE_temp h))

/-- SENSOR_SAMPLE. -/
def execSensorSample (readings : List SensorReading) (s : State) := s.act fun d =>
  if d.pw.phase ≠ .on then d
  else
    let d := d.modTm fun t => { t with tick := t.tick + 1, sampledAt := d.frame }
    let zs := (List.range 40).filter d.zoneFitted
    let d := (readings.foldl Dev.takeReading d).sensorCause
    let d := zs.foldl Dev.zoneRegs d
    (zs.foldl Dev.judgeZone d).hottest.thermalCauses

/-- GRACE_EXPIRY: enforcement begins when the zone is still hot, and the stepping of R451 step 4 with it. -/
def execGraceExpiry (z : Nat) (s : State) := s.act fun d =>
  let x := d.zone z
  match x.grace with
  | some f =>
    if d.frame < f ∨ !d.flag TM_CTRL_enable ∨ !x.adv then d
    else
      let d := d.putZone z { x with grace := none, forced := true, stepAt := d.tm.tick }
      if sixteenths (d.fld (TM_ZONE_CFG_advisory z)) ≤ d.sfld (TM_ZONE_temp z) then
        (d.lowerSet z fun n => d.thermalCeil n == nominalMHz).thermalCauses
      else d
  | none => d

/-- THERMAL_STEP_DOWN: every 1 ms after the grace time while the zone stays at or above its advisory level. -/
def execThermalStepDown (z : Nat) (s : State) := s.act fun d =>
  let x := d.zone z
  if d.flag TM_CTRL_enable && x.adv && x.forced && decide (x.stepAt + 500 ≤ d.tm.tick) &&
      decide (sixteenths (d.fld (TM_ZONE_CFG_advisory z)) ≤ d.sfld (TM_ZONE_temp z)) then
    ((d.putZone z { x with stepAt := d.tm.tick }).lowerSet z fun _ => true).thermalCauses
  else d

/-- THERMAL_STEP_UP: every 10 ms after release until the ceiling is at nominal. -/
def execThermalStepUp (z : Nat) (s : State) := s.act fun d =>
  match (d.zone z).relAt with
  | some t => if t + 5000 ≤ d.tm.tick then (d.raiseSet z).thermalCauses else d
  | none => d

/-- CRITICAL_STRETCH_END: below critical minus 5 for 1 ms; a zone that is no longer at advisory is then released. -/
def execCriticalStretchEnd (z : Nat) (s : State) := s.act fun d =>
  let x := d.zone z
  if x.crit ∧ 500 ≤ x.calm then
    (d.putZone z { x with crit := false, relAt := if x.enf && !x.adv && x.relAt.isNone then some d.tm.tick else x.relAt }).thermalCauses
  else d

/-- A write to TM_CTRL: clearing enable restores the thermal ceiling at once (R455). -/
def Dev.tmCtrlW (d : Dev) (v : Word64) : WriteRes :=
  if bitAt v.toNat 0 then (d.setFld TM_CTRL_enable 1, OK)
  else
    let d := (d.setFld TM_CTRL_enable 0).modTm fun t => { t with ceil := [] }
    ((d.tm.zones.foldl (fun d e => d.putZone e.1 { e.2 with adv := false, grace := none, forced := false, enf := false, relAt := none })
      d).thermalCauses, OK)

def execTmCtrlEnable (v : Word64) (s : State) := s.act fun d => d.ownWrite TM_CTRL v true fun d => d.tmCtrlW v

/-! ### Input power (R457 to R461) -/

/-- The limits in microwatts at a voltage in mV: sustained, then peak. -/
def Dev.sustained (d : Dev) (mv : Nat) : Nat := min (min (d.fld TM_PWR_LIMIT_sustained) 4800 * 1000000) (100 * mv * 1000)
def peakLimit (mv : Nat) : Nat := min (5600 * 1000000) (120 * mv * 1000)

/-- 8 J in pJ. -/
def bucketFull : Nat := 8000000000000

/-- TM_STATUS.power, its sources and its event. -/
def Dev.powerCauses (d : Dev) : Dev :=
  let ceil := decide (d.tm.power < nominalMHz); let st := d.flag TM_CLOCK_stretch_power
  let now := ceil || st
  let d := if now == d.flag TM_STATUS_power then d
    else (d.setFld TM_STATUS_power (b2n now)).event 5 0x100 ((if now then 4 else 5) * 2 ^ 16)
  ((d.setActive 0xEA ceil).setActive 0xEB st).clockRegs

/-- A count of consecutive samples. -/
def runOf (b : Bool) (n : Nat) : Nat := if b then n + 1 else 0

/-- A value outside a share of its nominal, in thousandths. -/
def outside (mv nominal share : Nat) : Bool := decide (1000 * mv < nominal * (1000 - share)) || decide (nominal * (1000 + share) < 1000 * mv)

/-- A source whose cause begins raises once. -/
def Dev.causeRaise (d : Dev) (src level : Nat) (b : Bool) : Dev :=
  let was := d.flag (FT_SRC_STAT_active src)
  let d := d.setActive src b
  if b && !was then d.raise src level 0 0 else d

/-- Input outside its range (R461). -/
def Dev.inputRange (d : Dev) (main aux stby : Nat) : Dev :=
  let d := (d.causeRaise 0xE8 2 (decide (main < 40000))).causeRaise 0xE9 2 (decide (60000 < main))
  let d := d.causeRaise 0xEC 1 (outside aux 12000 50 || outside stby 3300 50)
  let t := d.tm
  if 25 ≤ t.mainLow then d.shutDown 0xE8 3 0 0
  else if 5 ≤ t.mainHigh then d.shutDown 0xE9 4 0 0
  else if 25 ≤ t.auxOut ∨ 25 ≤ t.stbyOut then d.shutDown 0xEC 5 0 0
  else d

/-- The excess bucket after a sample, in pJ. -/
def bucketNext (b p lim : Nat) : Nat := if lim < p then min bucketFull (b + (p - lim) * 2) else b - (lim - p) * 2

/-- POWER_SAMPLE. -/
def execPowerSample (mainMv mainMa auxMv standbyMv : Nat) (s : State) := s.act fun d =>
  if d.pw.phase ≠ .on then d
  else
    let p := mainMv * mainMa
    let lim := d.sustained mainMv
    let above := decide (peakLimit mainMv < p)
    let d := (d.modPw fun w => { w with mainMv := mainMv, auxMv := auxMv, standbyMv := standbyMv }).modTm fun t => { t with
      ptick := t.ptick + 1, bucket := bucketNext t.bucket p lim, watts := p, nOver := runOf above t.nOver, nUnder := runOf (!above) t.nUnder,
      mainLow := runOf (decide (mainMv < 36000)) t.mainLow, mainHigh := runOf (decide (63000 < mainMv)) t.mainHigh,
      auxOut := runOf (outside auxMv 12000 80) t.auxOut, stbyOut := runOf (outside standbyMv 3300 80) t.stbyOut }
    let d := ((d.setFld TM_PWR_volts (min (mainMv / 10) 0xFFFF)).setFld TM_PWR_amps (min (mainMa / 10) 0xFFFF)).setFld TM_PWR_watts
      (min (p / 1000000) 0xFFFF)
    let d := (d.setFld TM_PWR_bucket (d.tm.bucket / 1000000000)).setFld TM_PWR_LIMIT_in_force (lim / 1000000)
    let d := if 2 ≤ d.tm.nOver ∧ !d.flag TM_CLOCK_stretch_power then
      ((d.setFld TM_CLOCK_stretch_power 1).raise 0xEB 1 0 0).powerCauses else d
    d.inputRange mainMv auxMv standbyMv

/-- POWER_STEP_DOWN: every 100 us while the bucket is full (R459). -/
def execPowerStepDown (s : State) := s.act fun d =>
  if d.pw.phase = .on ∧ bucketFull ≤ d.tm.bucket ∧ d.tm.pStepAt + 50 ≤ d.tm.ptick ∧ d.fld TM_THROTTLE_floor < d.tm.power then
    let v := max (d.tm.power - d.fld TM_THROTTLE_step) (d.fld TM_THROTTLE_floor)
    ((d.modTm fun t => { t with power := v, pStepAt := t.ptick }).raise 0xEA 0 0 0).powerCauses
  else d

/-- POWER_STEP_UP: every 10 ms while the bucket holds less than 4 J and the draw lies 100 W below the sustained limit. -/
def execPowerStepUp (s : State) := s.act fun d =>
  if d.pw.phase = .on ∧ d.tm.power < nominalMHz ∧ d.tm.bucket < bucketFull / 2 ∧ d.tm.pStepAt + 5000 ≤ d.tm.ptick ∧
      d.tm.watts + 100000000 ≤ d.sustained d.pw.mainMv then
    (d.modTm fun t => { t with power := min nominalMHz (t.power + d.fld TM_THROTTLE_step), pStepAt := t.ptick }).powerCauses
  else d

/-- POWER_STRETCH_END: at or below the peak limit for 1 ms (R460). -/
def execPowerStretchEnd (s : State) := s.act fun d =>
  if d.flag TM_CLOCK_stretch_power ∧ 500 ≤ d.tm.nUnder then (d.setFld TM_CLOCK_stretch_power 0).powerCauses else d

/-! ### Gates and commands (R466, R468, R469) -/

/-- A zone's temperature within a range in degrees C. -/
def Dev.zoneWithin (d : Dev) (z lo hi : Nat) : Bool :=
  decide (sixteenths lo ≤ d.sfld (TM_ZONE_temp z)) && decide (d.sfld (TM_ZONE_temp z) ≤ sixteenths hi)

/-- A gated write may begin (R466). -/
def Dev.gateOpen (d : Dev) (zones : List Nat) : Bool := d.zoneWithin 23 5 70 && zones.all fun z => d.zoneWithin z 0 95

/-- CLOCK_LIMIT. -/
def execClockLimit (cmd : Nat) (s : State) := s.act fun d => d.onCmd cmd 0x0901 fun d c =>
  let v := c.p 0 % 2 ^ 16
  if v ≠ 0 ∧ (v < d.fld TM_THROTTLE_floor ∨ nominalMHz < v) then d.complete c CFG_RANGE
  else
    let d := (d.setFld TM_CLOCK_host v).clockRegs
    let low := v ≠ 0 ∧ d.fld TM_CLOCK_effective < v
    d.complete c (if low then THROTTLED else OK) (match d.diesUp.head? with | some n => d.effective n | none => 0)

/-- The entry of a zone. -/
def Dev.zoneEntry (d : Dev) (z : Nat) : List Byte :=
  if !d.zoneFitted z then zeros 8
  else
    let x := d.zone z
    leBytes 2 (d.fld (TM_ZONE_temp z)) ++ leBytes 1 (d.fld (TM_ZONE_valid z)) ++
      leBytes 1 (d.fld (TM_ZONE_sensor z) + x.level * 2 ^ 5) ++
      leBytes 2 (match x.hostPeak with | some t => wrap 16 t | none => d.fld (TM_ZONE_temp z)) ++ zeros 2

/-- THERMAL_READ. -/
def execThermalRead (cmd : Nat) (s : State) := s.act fun d => d.onCmd cmd 0x0900 fun d c =>
  if c.p 1 < 344 then d.complete c BAD_LENGTH
  else
    let bytes := leBytes 2 40 ++ zeros 6 ++ leBytes 8 d.tm.sampledAt ++ (List.range 40).flatMap d.zoneEntry ++ leBytes 8 (d.reg TM_PWR).toNat
    let d := d.modTm fun t => { t with zones := t.zones.map fun e => (e.1, { e.2 with hostPeak := none }) }
    (d.hostWrite (c.p 0) bytes).complete c OK

end Sys2Proof.Machine
end

