-- ==== Sys2Proof/Machine/Firmware.lean ====
section
/-!
DEFINITION. Sys2Proof/Machine/Firmware.lean: flash slots (R478 to R481), least versions (R484, R485), handover (R486 to R488), identity,
attestation and test authorisation (R490 to R493), and the contour slots.  An image's payload is kept as its digest.
-/

namespace Sys2Proof.Machine

def Dev.modFw (d : Dev) (f : FwSt → FwSt) : Dev := { d with fw := f d.fw }
def Dev.modFlash (d : Dev) (f : FlashSt → FlashSt) : Dev := { d with flash := f d.flash }

/-! ### Slots (R479 to R481) -/

def Dev.fwSlot (d : Dev) (k i : Nat) : Option FwSlot := smFind d.flash.fw (2 * k + i)

/-- Programmed fuse words of a component, and its least version (R484). -/
def Dev.fuses (d : Dev) (k : Nat) : List Nat := smGet (fun _ => []) d.flash.fuses k
def Dev.leastVersion (d : Dev) (k : Nat) : Nat := (d.fuses k).getLast?.getD 0

/-- A slot is usable apart from its version, and usable (R481). -/
def Dev.slotSound (d : Dev) (k i : Nat) : Bool := match d.fwSlot k i with | some x => x.good | none => false
def Dev.slotUsable (d : Dev) (k i : Nat) : Bool :=
  d.slotSound k i && (match d.fwSlot k i with | some x => decide (d.leastVersion k ≤ x.version) | none => false)

/-- Of slots that stand, the one with the higher version, then the higher sequence. -/
def Dev.bestSlot (d : Dev) (k : Nat) (l : List Nat) : Option Nat :=
  l.foldl (fun b i => match b with
    | none => some i
    | some j => match d.fwSlot k i, d.fwSlot k j with
      | some x, some y => if y.version < x.version ∨ (y.version = x.version ∧ y.seq < x.seq) then some i else b
      | _, _ => b) none

def Dev.slotVersion (d : Dev) (k i : Nat) : Nat := match d.fwSlot k i with | some x => x.version | none => 0

/-- HF_FW_k_ALT as the flash stands. -/
def Dev.altRegs (d : Dev) (k : Nat) : Dev :=
  let i := 1 - d.fld (HF_FW_RUN_slot k)
  let ok := d.slotSound k i
  (d.setFld (HF_FW_ALT_usable k) (b2n ok)).setFld (HF_FW_ALT_version k) (if ok then d.slotVersion k i else 0)

/-- Measure component k, in use since a frame (R491). -/
def Dev.measure (d : Dev) (k slot version since : Nat) : Dev :=
  let dig := match d.fwSlot k slot with | some x => x.digest | none => none
  d.modFw fun f => { f with measured := smSet f.measured k ⟨slot, version, since, dig⟩ }

/-- Component k runs from a slot. -/
def Dev.runFrom (d : Dev) (k slot version : Nat) : Dev := ((d.setFld (HF_FW_RUN_slot k) slot).setFld (HF_FW_RUN_version k) version).altRegs k

/-- The digest of a commit record: 32 bytes. -/
def digestBytes (k : Nat) (x : Option (List Byte)) : List Byte :=
  match x with | some l => l | none => (List.range 32).map (Config.factoryDigest k)

/-- Component the index of Table 14-2's largest payloads. -/
def maxPayload (k : Nat) : Nat := if k = 0 then 8380416 else if k = 3 then 2088960 else 1040384

/-! ### FW_STAGE -/

/-- The header of an image is right, and so are its payload's digest and its signature (Table 14-3, R482, R483). -/
def imageGood (k : Nat) (l : List Byte) : Bool :=
  let cert := leAt l 48 2
  leAt l 0 2 == 0x4657 && leAt l 2 2 == 1 && leAt l 4 1 == k && leAt l 5 3 == 0 && leAt l 12 4 == l.length - 4096 &&
  decide (1 ≤ cert) && decide (cert ≤ 2048) && leAt l 50 14 == 0 && sliceB l (64 + cert) (2048 - cert) == zeros (2048 - cert) &&
  sliceB l 2112 1600 == zeros 1600 && sha256 (l.drop 4096) == sliceB l 16 32 &&
  Config.signed (sliceB l 0 3712) (sliceB l 64 cert) (sliceB l 3712 384) k

/-- One more than the highest store sequence of an item's slots. -/
def Dev.nextSeq (d : Dev) (k : Nat) : Nat :=
  let q (i : Nat) : Nat := match d.fwSlot k i with | some x => x.seq | none => 0
  max (q 0) (q 1) + 1

def Dev.handoverOf (d : Dev) (k : Nat) : Option Handover := d.fw.handovers.find? (·.comp == k)

/-- Whether what a store wrote is found again when it is read back (R480); flash wear is outside the model, so this is free. -/
def Dev.readsBack (d : Dev) : Bool := !bitAt (d.freeAt 0).toNat 0

/-- FW_STAGE (R480, R481, R466): the slot loses its commit record first, and gets the new one after a read-back that holds. -/
def execFwStage (cmd : Nat) (s : State) := s.act fun d => d.onCmd cmd 0x0800 fun d c =>
  let k := c.p 0 % 16; let len := c.p 2
  if 5 ≤ k then d.complete c BAD_FIELD
  else if len < 4097 ∨ 4096 + maxPayload k < len then d.complete c BAD_LENGTH
  else
    let l := d.hostRead (c.p 1) len
    let v := leAt l 8 4
    if !imageGood k l then d.complete c SIG_INVALID
    else if v < d.leastVersion k then d.complete c ROLLBACK_REFUSED
    else if (d.handoverOf k).isSome then d.complete c BUSY_RUNNING
    else if !d.gateOpen [16] then d.complete c TEMP_GATED
    else
      let i := 1 - d.fld (HF_FW_RUN_slot k)
      let x : FwSlot := ⟨v, len - 4096, some (sha256 l), d.nextSeq k, true⟩
      let d1 := d.draw 1
      if d.readsBack then ((d1.modFlash fun f => { f with fw := smSet f.fw (2 * k + i) x }).altRegs k).complete c OK v
      else ((d1.modFlash fun f => { f with fw := smDel f.fw (2 * k + i) }).altRegs k).complete c SIG_INVALID

/-! ### Handover (R486, R487) -/

/-- A held command carries at_frame in the window of a Sorarn handover at F. -/
def Dev.heldInWindow (d : Dev) (f : Nat) : Bool := d.cp.cmds.any fun c =>
  c.phase == .held && c.atFrame && decide (f ≤ c.frame + 16) && decide (c.frame ≤ f + 255)

/-- The checks of R486. -/
def Dev.handoverCheck (d : Dev) (k f : Nat) : Nat :=
  let i := 1 - d.fld (HF_FW_RUN_slot k)
  if (d.handoverOf k).isSome then CFG_CONFLICT
  else if f < d.frame + 128 ∨ d.frame + 2 ^ 28 < f then CFG_RANGE
  else if !d.slotSound k i then SIG_INVALID
  else if d.slotVersion k i < d.leastVersion k then ROLLBACK_REFUSED
  else if d.slotVersion k i = d.fld (HF_FW_RUN_version k) then CFG_CONFLICT
  else if k = 0 ∧ d.heldInWindow f then CFG_CONFLICT
  else OK

/-- FW_HANDOVER: accepted, it waits for its frame. -/
def execFwHandover (cmd : Nat) (s : State) := s.act fun d => d.onCmd cmd 0x0801 fun d c =>
  let k := c.p 0 % 16; let f := c.p 1
  if 5 ≤ k then d.complete c BAD_FIELD
  else
    let r := d.handoverCheck k f
    if r ≠ OK then d.complete c r
    else
      let h : Handover := ⟨k, c.id, f, false, d.fld (HF_FW_RUN_version k), d.fld (HF_FW_RUN_slot k), [], 0⟩
      (((d.keepCmd c [k]).modFw fun x => { x with handovers := x.handovers ++ [h] }).setFld (HF_FW_RUN_state k) 1).setReg (HF_FW_FRAME k)
        (BitVec.ofNat 64 f)

/-- Complete the command of a handover, which then is over. -/
def Dev.endHandover (d : Dev) (h : Handover) (reason w0 : Nat) : Dev :=
  let d := (d.modFw fun x => { x with handovers := x.handovers.filter (·.comp != h.comp) }).setFld (HF_FW_RUN_state h.comp) 0
  match d.findCmd h.cmd with
  | some c => d.complete c reason w0
  | none => d

/-- FW_HANDOVER_SWITCH: at F, the digest of the loaded copy checked. -/
def execFwHandoverSwitch (component : Nat) (digestOk : Bool) (s : State) := s.act fun d =>
  match d.handoverOf component with
  | some h =>
    if h.switched ∨ d.frame < h.frame then d
    else if !digestOk then (d.raise 0x04 1 0 SIG_INVALID).endHandover h SIG_INVALID 0
    else
      let i := 1 - h.oldSlot
      let old := if component = 4 then (List.range 960).filter fun k => d.coreState k == 1 || d.coreState k == 6 else []
      let d := d.bump
      let d := (d.runFrom component i (d.slotVersion component i)).modFw fun x => { x with handovers := x.handovers.map fun y =>
        if y.comp = component then { y with switched := true, oldCores := old, firstId := d.nextId } else y }
      let d := if component = 2 ∨ component = 4 then d.measure component i (d.slotVersion component i) h.frame else d
      d.setFld (HF_FW_RUN_state component) (if component = 0 then 2 else if component = 2 ∨ component = 4 then 3 else 0)
  | none => d

/-- Nothing depends on the old code any more (Table 14-5). -/
def Dev.oldCodeFree (d : Dev) (h : Handover) : Bool :=
  if h.comp = 0 then decide (h.frame + 4096 ≤ d.frame)
  else if h.comp = 2 then !(d.coll.held.any fun c => decide (c.start < h.frame))
  else if h.comp = 4 then h.oldCores.all fun k => d.coreState k != 1 && d.coreState k != 6
  else true

/-- FW_HANDOVER_COMPLETE: OK with the new version; the Legend's firmware bytes change. -/
def execFwHandoverComplete (component : Nat) (s : State) := s.actLegend fun d =>
  match d.handoverOf component with
  | some h =>
    if h.switched && d.oldCodeFree h then
      let i := d.fld (HF_FW_RUN_slot component); let v := d.fld (HF_FW_RUN_version component)
      let d := (d.measure component i v h.frame).modFw fun x => { x with done := x.done + 1, legend := smSet x.legend component (v, i) }
      d.endHandover h OK v
    else d
  | none => d

/-- The Sorarn watchdog fires while a handover is watched: back to the old bank (R488). -/
def Dev.revertSorarn (d : Dev) (h : Handover) : Dev :=
  let d := d.runFrom 0 h.oldSlot h.oldVersion
  let lost := d.cp.cmds.filter fun c => decide (h.firstId ≤ c.began) && c.hasBegun && c.id != h.cmd
  let d := lost.foldl (fun d c => d.complete c CFG_CONFLICT) d
  (d.raise 0x04 1 0 CFG_CONFLICT).endHandover h CFG_CONFLICT 0

/-! ### ROLLBACK_ADVANCE (R485) -/

def execRollbackAdvance (cmd : Nat) (s : State) := s.act fun d => d.onCmd cmd 0x0805 fun d c =>
  let k := c.p 0 % 16; let v := c.p 1 % 2 ^ 32
  if 5 ≤ k then d.complete c BAD_FIELD
  else if v < d.leastVersion k then d.complete c ROLLBACK_REFUSED
  else if v = d.leastVersion k then d.complete c OK
  else if d.fld (HF_FW_RUN_version k) < v then d.complete c CFG_CONFLICT
  else if 16 ≤ (d.fuses k).length then d.complete c CFG_RANGE
  else if !d.gateOpen [16] then d.complete c TEMP_GATED
  else (d.modFlash fun f => { f with fuses := smSet f.fuses k (d.fuses k ++ [v]) }).complete c OK

/-! ### Contour slots (R480, R481) -/

def Dev.contourSlot (d : Dev) (n i : Nat) : Option ContourSlot := smFind d.flash.contour (2 * n + i)
def Dev.contourSeq (d : Dev) (n i : Nat) : Nat := match d.contourSlot n i with | some x => x.seq | none => 0

/-- The slot with the higher sequence, none when neither stands. -/
def Dev.contourBest (d : Dev) (n : Nat) : Option ContourSlot :=
  if d.contourSeq n 0 < d.contourSeq n 1 then d.contourSlot n 1 else d.contourSlot n 0

/-- CONTOUR_PERSIST: the active table goes to the older slot, which stands only after a read-back that holds (R480). -/
def execContourPersist (cmd : Nat) (s : State) := s.act fun d => d.onCmd cmd 0x0700 fun d c =>
  let n := c.p 0 % 8
  if d.fld (DR_CONTOUR_CTRL_state n) ≠ 0 then d.complete c BUSY_RUNNING
  else if !d.gateOpen [16, 17 + n] then d.complete c TEMP_GATED
  else
    let i := if d.contourSeq n 0 ≤ d.contourSeq n 1 then 0 else 1
    let t := (windowShift d.regs (contourActive n) 0).map fun e => (e.1 / 8, e.2)
    let x : ContourSlot := ⟨t, max (d.contourSeq n 0) (d.contourSeq n 1) + 1⟩
    let d1 := d.draw 1
    if d.readsBack then (d1.modFlash fun f => { f with contour := smSet f.contour (2 * n + i) x }).complete c OK
    else (d1.modFlash fun f => { f with contour := smDel f.contour (2 * n + i) }).complete c SIG_INVALID

/-- A table in both banks of a drift. -/
def Dev.loadContour (d : Dev) (n : Nat) (t : List (Nat × Word64)) : Dev :=
  let at_ (lo : Nat) : List (Nat × Word64) := t.map fun e => (lo + 8 * e.1, e.2)
  ((d.setWindow (contourNext n) (at_ (contourNext n))).setWindow (contourActive n) (at_ (contourActive n))).modDrift n
    fun x => { x with loaded := true }

/-- The digest of a table's 229,376 bytes. -/
def tableDigest (t : List (Nat × Word64)) : List Byte :=
  sha256 ((List.range contourEntries).flatMap fun i => leBytes 8 (smGet (fun _ => (0 : Word64)) t i).toNat)

/-! ### Attestation and certificates (R490 to R492) -/

/-- An entry of a report. -/
def measureEntry (kind slot version since : Nat) (digest : List Byte) : List Byte :=
  leBytes 1 kind ++ leBytes 1 slot ++ zeros 2 ++ leBytes 4 version ++ leBytes 8 since ++ padTo 32 digest

/-- The entry of each kind (Table 14-7). -/
def Dev.reportEntry (d : Dev) (k : Nat) : List Byte :=
  if k < 5 then
    match smFind d.fw.measured k with
    | some m => measureEntry k m.slot m.version m.since (digestBytes k m.digest)
    | none => measureEntry k 0xFF 0 0 []
  else if k = 5 then measureEntry 5 0xFF 0 0 ((List.range 32).map Config.romDigest)
  else if k = 6 then measureEntry 6 0xFF 0 0 (sha256 ((List.range 6).flatMap fun n => match smFind d.fw.contours n with
    | some t => tableDigest t
    | none => zeros 32))
  else match d.fw.auth with
    | some (a, f) => measureEntry 7 0xFF 0 f (sha256 a)
    | none => measureEntry 7 0xFF 0 0 []

/-- The first 512 bytes of a report (Table 14-8). -/
def Dev.reportBody (d : Dev) (nonce : List Byte) : List Byte :=
  leBytes 2 0x4154 ++ leBytes 2 1 ++ leBytes 4 896 ++ leBytes 8 Config.serial.toNat ++ padTo 32 nonce ++ leBytes 8 d.frame ++
    leBytes 4 d.legendGen ++ leBytes 4 d.fw.done ++ (List.range 8).flatMap d.reportEntry ++
    ((List.range 5).flatMap fun k => leBytes 4 (d.leastVersion k)) ++ zeros 12 ++ sha256 (Config.certificate 0)

/-- ATTEST: the signature is a value the spec leaves to its salt. -/
def execAttest (cmd : Nat) (s : State) := s.act fun d => d.onCmd cmd 0x0802 fun d c =>
  if c.p 2 < 896 then d.complete c BAD_LENGTH
  else
    let sig := (List.range 48).flatMap fun i => leBytes 8 (d.freeAt i).toNat
    ((d.draw 48).hostWrite (c.p 1) (d.reportBody (d.hostRead (c.p 0) 32) ++ sig)).complete c OK

/-- CERT_READ: three certificates, each after its length. -/
def execCertRead (cmd : Nat) (s : State) := s.act fun d => d.onCmd cmd 0x0803 fun d c =>
  let l := (List.range 3).flatMap fun i => leBytes 4 (Config.certificate i).length ++ Config.certificate i
  if c.p 1 < l.length then d.complete c BAD_LENGTH else (d.hostWrite (c.p 0) l).complete c OK l.length

/-! ### Test authorisation (R493) -/

/-- A nonce of 32 bytes, drawn anew. -/
def Dev.drawNonce (d : Dev) : Dev := (d.draw 4).modFw fun f => { f with nonce := (List.range 4).map d.freeAt }

/-- The nonce's bytes. -/
def Dev.nonceBytes (d : Dev) : List Byte := (List.range 4).flatMap fun i => leBytes 8 (d.fw.nonce.getD i 0).toNat

/-- The authorisation's signer and signature verify, for this module and nonce. -/
def Dev.authGood (d : Dev) (l : List Byte) : Bool :=
  let cert := leAt l 52 2
  leAt l 8 8 == Config.serial.toNat && sliceB l 16 32 == d.nonceBytes && decide (1 ≤ cert) && decide (cert ≤ 2048) &&
    Config.signed (sliceB l 0 3712) (sliceB l 64 cert) (sliceB l 3712 384) 5

def execTestAuth (cmd : Nat) (s : State) := s.act fun d => d.onCmd cmd 0x0804 fun d c =>
  if c.p 1 ≠ 4096 then d.complete c BAD_LENGTH
  else
    let l := d.hostRead (c.p 0) 4096
    let dur := leAt l 48 4
    if leAt l 0 2 ≠ 0x5841 ∨ leAt l 2 2 ≠ 1 ∨ 1 < leAt l 4 4 ∨ dur = 0 ∨ 2 ^ 28 < dur then d.complete c BAD_FIELD
    else if !d.authGood l then d.complete c SIG_INVALID
    else
      let d := ((d.setFld HF_AUTH_active 1).setFld HF_AUTH_scope (leAt l 4 4)).setReg HF_AUTH_EXPIRY (BitVec.ofNat 64 (d.frame + dur))
      ((d.modFw fun f => { f with auth := some (l, d.frame) }).drawNonce).complete c OK

/-- TEST_AUTH_EXPIRY. -/
def execTestAuthExpiry (s : State) := s.act fun d =>
  if d.flag HF_AUTH_active ∧ d.fld HF_AUTH_EXPIRY_frame ≤ d.frame then
    ((d.setFld HF_AUTH_active 0).setFld HF_AUTH_scope 0).modFw fun f => { f with auth := none }
  else d

end Sys2Proof.Machine
end

