-- ==== Sys2Proof/Machine/Boot.lean ====
section
/-!
DEFINITION. Sys2Proof/Machine/Boot.lean: the boot stages (R472 to R477, R28 to R33, R223, R224) and the Sorarn watchdog (R477, R488).
-/

namespace Sys2Proof.Machine

def Dev.stage_ (d : Dev) : Nat := d.fld CP_STATUS_boot_stage
def Dev.toStage (d : Dev) (n : Nat) : Dev := d.setFld CP_STATUS_boot_stage n

/-- A stage is under way. -/
def Dev.booting (d : Dev) : Bool :=
  d.pw.phase == .on && decide (1 ≤ d.stage_) && decide (d.stage_ < 8) && !d.flag CP_STATUS_boot_failed

/-- A stage stops boot (R474). -/
def Dev.bootStop (d : Dev) (reason : Nat) : Dev :=
  ((d.setFld CP_STATUS_boot_failed 1).setFld HF_BOOT_STAT_stage d.stage_).setFld HF_BOOT_STAT_reason reason

/-- BOOT_START: the boot ROM stage begins. -/
def execBootStart (s : State) := s.act fun d =>
  if d.pw.phase = .on ∧ d.stage_ = 0 ∧ !d.flag CP_STATUS_boot_failed then d.toStage 1 else d

/-! ### Stage 2: firmware (R477, R481) -/

/-- The Sorarn slot that the ROM tries next: of those that stand at or above the least version and have not been tried, the
best in the order of R481. -/
def Dev.sorarnNext (d : Dev) (tried : List Nat) : Option Nat :=
  d.bestSlot 0 ([0, 1].filter fun i => !tried.contains i &&
    (match d.fwSlot 0 i with | some x => decide (d.leastVersion 0 ≤ x.version) | none => false))

/-- The attempts of R477 from those already made: the slot whose image verifies, and the slots tried, it among them. -/
def Dev.sorarnTry (d : Dev) (tried : List Nat) : Nat → Option Nat × List Nat
  | 0 => (none, tried)
  | n + 1 => match d.sorarnNext tried with
    | none => (none, tried)
    | some i => if d.slotUsable 0 i then (some i, tried ++ [i]) else d.sorarnTry (tried ++ [i]) n

/-- The Sorarn slot that boot takes, and those tried: at most two attempts (R477). -/
def Dev.sorarnPick (d : Dev) : Option Nat × List Nat := d.sorarnTry d.fw.tried (2 - d.fw.tried.length)

/-- Run component k from a slot from boot on. -/
def Dev.bootFrom (d : Dev) (k i : Nat) : Dev :=
  let v := d.slotVersion k i
  ((d.runFrom k i v).measure k i v 0).modFw fun f => { f with legend := smSet f.legend k (v, i) }

/-- The end of stage 2: every component runs its best usable image, or boot stops.  tried keeps the attempts that failed. -/
def Dev.stage2 (d : Dev) : Dev :=
  match d.sorarnPick with
  | (none, l) => (d.setFld HF_BOOT_STAT_attempts l.length).bootStop SIG_INVALID
  | (some i, l) =>
    let d := (d.setFld HF_BOOT_STAT_attempts l.length).modFw fun f => { f with tried := l.filter (· != i) }
    let d := (d.bootFrom 0 i).drawNonce
    let pick (k : Nat) : Option Nat := d.bestSlot k ([0, 1].filter (d.slotUsable k))
    if !([1, 2, 3, 4].all fun k => (pick k).isSome) then d.bootStop SIG_INVALID
    else ([1, 2, 3, 4].foldl (fun d k => match pick k with | some j => d.bootFrom k j | none => d) d).toStage 3

/-! ### Stage 3: straps -/

/-- The strap set at a position meets R29 (Table 1-4). -/
def strapOk (k : Nat) (x : StrapSet) : Bool :=
  x.present && x.parityOk &&
    (if k < 12 then x.kind == 0 && x.base == k / 3 && x.slot == k % 3
     else if k < 16 then x.kind == 1 && x.base == k - 12 && x.slot == 3
     else x.kind == 2 && x.base == 3 && x.slot == 3)

/-- Latch one position's straps. -/
def Dev.latchDie (d : Dev) (k : Nat) (x : StrapSet) : Dev :=
  let d := ((d.setFld (HF_DIE_STRAP_present k) (b2n x.present)).setFld (HF_DIE_STRAP_parity_ok k) (b2n x.parityOk)).setFld
    (HF_DIE_STRAP_accepted k) (b2n (strapOk k x))
  ((d.setFld (HF_DIE_STRAP_kind k) x.kind).setFld (HF_DIE_STRAP_base k) x.base).setFld (HF_DIE_STRAP_slot k) x.slot

/-- A compute die after latching: in service, or held in reset with the source that says why (R30, R32, R464). -/
def Dev.strapDie (d : Dev) (k : Nat) : Dev :=
  let ok := d.flag (HF_DIE_STRAP_accepted k)
  if !d.dieFitted k then
    (if d.flag (HF_DIE_STRAP_present k) then (d.raise 0x05 0 0 0).setActive 0x05 true else d)
  else if !ok then (d.raise 0x05 1 0 0).setActive 0x05 true
  else if d.pw.deadDies.contains k then (d.raise (0xF0 + k) 2 0 0).setActive (0xF0 + k) true
  else d.setFld (HF_DIE_STRAP_in_service k) 1

/-- What the standby domain reports at boot (Tables 13-6 and 12-1). -/
def Dev.bootReports (d : Dev) : Dev :=
  let d := if d.flag TM_SHUTDOWN_valid then d.raise 0xE4 1 0 0 else d
  if d.pw.railFault then (d.raise 0xFC 3 0 0).modPw fun p => { p with railFault := false } else d

/-- The end of stage 3.  The reason of a stop is one the spec does not state. -/
def Dev.stage3 (d : Dev) (r : StageReport) : Dev :=
  let d := ((d.setFld HF_PKG_STRAP_substrate_id r.substrateId).setFld HF_PKG_STRAP_variant r.variant).setFld HF_PKG_STRAP_valid
    (b2n r.variantValid)
  let d := d.modPw fun p => { p with strap := d.reg HF_PKG_STRAP }
  let none_ : StrapSet := ⟨false, false, 0, 0, 0⟩
  let d := ((List.range 17).foldl (fun d k => d.latchDie k (r.straps.getD k none_)) d).bootReports
  if !r.variantValid || r.variant == 0 || decide (3 < r.variant) || !([12, 13, 14, 15, 16].all fun k => d.flag (HF_DIE_STRAP_accepted k)) then
    (d.draw 1).bootStop (d.freeAt 0).toNat
  else
    let d := (List.range 12).foldl (fun d k => d.strapDie k) d
    let full := b2n (r.variant == 1)
    ((((List.range 5).map (· + 12)).foldl (fun d k => d.setFld (HF_DIE_STRAP_in_service k) 1) d).setFld CE_STATUS_apply_present full).setFld
      CE_STATUS_digest_present full |>.toStage 4

/-! ### Stages 4 to 6 -/

/-- The checkers that pass their self-test (R223), laid out as HF_VEIN_BIST bits [32:0]. -/
def veinPass (r : StageReport) : BitVec 33 :=
  (List.range 33).foldl (fun v k => if selfTest (checkerAnswer r.veinFaults k) then v ||| BitVec.ofNat 33 (2 ^ k) else v) 0

/-- The end of stage 4: what the checkers' self-tests found (R224). -/
def Dev.stage4 (d : Dev) (pass : BitVec 33) : Dev :=
  let d := d.setReg HF_VEIN_BIST (BitVec.ofNat 64 (pass.toNat + 2 ^ 33))
  if d.fld HF_VEIN_BIST_link ≠ 15 ∨ !d.flag HF_VEIN_BIST_hub then d.bootStop UNCORRECTABLE
  else ((List.range 12).foldl (fun d k => if bitAt (d.fld HF_VEIN_BIST_die) k then d else d.setFld (HF_DIE_STRAP_in_service k) 0) d).toStage 5

/-- The end of stage 5: links and bonds. -/
def Dev.stage5 (d : Dev) (links : BitVec 4) (bonds : BitVec 12) : Dev :=
  if links ≠ 15 then d.bootStop UNCORRECTABLE
  else ((List.range 12).foldl (fun d k =>
    if d.dieUp k && !bitAt bonds.toNat k then (d.setFld (HF_DIE_STRAP_in_service k) 0).raise (0x50 + k) 1 0 UNCORRECTABLE else d) d).toStage 6

/-- The end of stage 6: stacks in service, all zero, or failed. -/
def Dev.stage6 (d : Dev) (hbm : BitVec 16) : Dev :=
  let d := (List.range 16).foldl (fun d k =>
    if bitAt (d.fld HF_VEIN_BIST_mc) k && bitAt hbm.toNat k then (d.setFld (MC_STATUS_state k) 2).setFld (MC_CTRL_enable k) 1
    else d.setFld (MC_STATUS_state k) 5) d
  (d.zeroKeys 0 (16 * stackKey)).toStage 7

/-! ### Stage 7: cores and the Legend (R475) -/

/-- The cores, memories and seam of a die that comes into service. -/
def Dev.placeDie (d : Dev) (die : Nat) : Dev :=
  (((List.range 8).foldl (fun d c => d.placeCluster die c) d).clearSeam die).bistCause die

/-- A drift's banks from its better slot, or firmware's source when neither stands. -/
def Dev.bootContour (d : Dev) (n : Nat) : Dev :=
  match d.contourBest n with
  | some x => (d.loadContour n x.table).modFw fun f => { f with contours := smSet f.contours n x.table }
  | none => d.raise 0x04 1 0 0

/-- The end of stage 7: host-ready. -/
def Dev.stage7 (d : Dev) (failed : List Nat) (ms : Nat) : Dev :=
  let bad := failed.filter fun k => decide (k < 1056) && d.dieUp (k / 88)
  let d := d.modSvc fun v => { v with failed := bad }
  let d := (List.range 12).foldl (fun d k => if d.dieUp k then d.placeDie k else d) d
  let d := bad.foldl (fun d k => d.raise (0x98 + k / 88) 1 0 0) d
  let d := (List.range 6).foldl (fun d n => if d.driftFitted n then d.bootContour n else d) d
  ((d.setFld HF_BOOT_STAT_ready_ms ms).setFld CP_STATUS_ready 1).toStage 8 |>.legendFirst

/-- BOOT_STAGE_END. -/
def execBootStageEnd (report : StageReport) (s : State) := s.act fun d =>
  if !d.booting then d
  else match d.stage_ with
    | 1 => if report.flashHeaderOk then d.toStage 2 else d.bootStop BAD_FIELD
    | 2 => d.stage2
    | 3 => d.stage3 report
    | 4 => d.stage4 (veinPass report)
    | 5 => d.stage5 report.linkPass report.bondPass
    | 6 => d.stage6 report.hbmPass
    | _ => d.stage7 report.failedCores report.readyMs

/-! ### The Sorarn watchdog -/

/-- An attempt fails: stage 2 begins again with the next candidate, or boot stops after two (R477). -/
def Dev.attemptFails (d : Dev) : Dev :=
  let d := if d.stage_ = 2 then d.modFw fun f => { f with tried := d.sorarnPick.2 }
    else d.modFw fun f => { f with tried := f.tried ++ [d.fld (HF_FW_RUN_slot 0)] }
  let d := (d.setFld HF_BOOT_STAT_attempts d.fw.tried.length).toStage 2
  if 2 ≤ d.fw.tried.length then d.bootStop SIG_INVALID else d

/-- SORARN_WATCHDOG: whichever management core missed it. -/
def execSorarnWatchdog (_mgmtCore : Nat) (s : State) := s.actLegend fun d =>
  if d.pw.phase ≠ .on ∨ d.stage_ = 0 ∨ d.flag CP_STATUS_boot_failed then d
  else
    let d := d.raise 0x03 2 0 0
    if d.booting then (if 2 ≤ d.stage_ then d.attemptFails else d)
    else match d.handoverOf 0 with
      | some h => if h.switched && decide (d.frame < h.frame + 4096) then d.revertSorarn h else d
      | none => d

end Sys2Proof.Machine
end

