-- ==== Sys2Proof/Machine/Convert.lean ====
section
/-!
DEFINITION. Sys2Proof/Machine/Convert.lean: the convert instructions CVT, NARROW and WIDEN (R173, R91, R93, R95, R96, R98).
-/

namespace Sys2Proof.Machine

def cVd (w : Word64) : Nat := wget w 47 43
def cVa (w : Word64) : Nat := wget w 42 38
def cMask (w : Word64) : Nat := wget w 37 35
def cSrc (w : Word64) : Fmt := (fmtOf (wget w 34 31)).getD .fp32
def cDst (w : Word64) : Fmt := (fmtOf (wget w 30 27)).getD .fp32
def cOvf (w : Word64) : Bool := wbit w 26
def cRnd (w : Word64) : Bool := wbit w 25

/-- The head of the vector queue is the convert instruction op. -/
def Dev.vecCvt (d : Dev) (k op : Nat) (plan : Core → Word64 → VecPlan) : Dev :=
  match d.vecHead k with
  | some e =>
    let r := d.vecRead k e
    if grp e.word = 4 ∧ opc e.word = op then r.vecRun k e (plan (r.core k) e.word) else d
  | none => d

/-- The value of a lane that holds FP32 or INT32. -/
def laneNum (f : Fmt) (x : Word32) : Num := decodeNum f x.toNat

/-- CVT: each selected lane between FP32 and INT32. -/
def planCvt (c : Core) (w : Word64) : VecPlan :=
  let m := c.mask (cMask w); let a := c.vreg (cVa w)
  ⟨[(cVa w, m)], fun c => c.writeLanes (cVd w) m fun l =>
    BitVec.ofNat 32 (encodeNum (cDst w) (cOvf w) none (laneNum (cSrc w) (lane a l)))⟩

/-- The draw of stream l once stepped, when rnd is set. -/
def Core.drawOf (c : Core) (rnd : Bool) (l : Nat) : Option Nat :=
  if rnd then some (streamDraw (streamStep (c.stream l))) else none

/-- Step the streams of the listed lanes once each (R98). -/
def Core.stepStreams (c : Core) (ls : List Nat) : Core :=
  ls.foldl (fun c l => c.setStream l (streamStep (c.stream l))) c

/-- The packed codes of 256 elements, element i at element position i. -/
def narrowBits (c : Core) (w : Word64) (x : Nat → Num) : Nat :=
  let f := cDst w
  if f.isMx then
    let scale (b : Nat) : Nat := mxScale f (cOvf w) ((List.range 32).map fun j => x (32 * b + j))
    let scales := (List.range 8).map scale
    packN f.bits 256 (fun i => mxElem f (scales.getD (i / 32) 0) (c.drawOf (cRnd w) i) (x i)) +
      packN 8 8 (fun b => scales.getD b 0) * 2 ^ 4096
  else packN f.bits 256 fun i => encodeNum f (cOvf w) (c.drawOf (cRnd w) i) (x i)

/-- NARROW: all 256 lanes to a packed target; every other byte of vd is 0. -/
def planNarrow (c : Core) (w : Word64) : VecPlan :=
  let a := c.vreg (cVa w)
  ⟨[(cVa w, BitVec.allOnes 256)], fun c =>
    let c1 := c.setV (cVd w) (BitVec.ofNat 8192 (narrowBits c w fun i => laneNum (cSrc w) (lane a i))) 0
    if cRnd w then c1.stepStreams (List.range 256) else c1⟩

/-- The 32-bit lanes that the packed element i, and its scale byte, lie in. -/
def widenLanes (f : Fmt) (i : Nat) : List Nat :=
  let n := f.bits
  [i * n / 32, (i * n + n - 1) / 32] ++ (if f.isMx then [128 + i / 128] else [])

/-- WIDEN: each selected lane from the packed element at its position. -/
def planWiden (c : Core) (w : Word64) : VecPlan :=
  let m := c.mask (cMask w); let a := c.vreg (cVa w); let f := cSrc w
  let touched := ((List.range 256).filter (mbit m)).flatMap (widenLanes f)
  ⟨[(cVa w, ofBits fun l => touched.contains l)], fun c => c.writeLanes (cVd w) m fun l =>
    let code := digit f.bits a.toNat l
    if cDst w = .int32 then BitVec.ofNat 32 (wrap 32 (sext f.bits code))
    else fpWrite (cOvf w) (if f.isMx then mxValue f (digit 8 a.toNat (512 + l / 32)) code else decodeNum f code)⟩

def execCvt (k : Nat) (s : State) := s.act fun d => d.vecCvt k 0 planCvt
def execNarrow (k : Nat) (s : State) := s.act fun d => d.vecCvt k 1 planNarrow
def execWiden (k : Nat) (s : State) := s.act fun d => d.vecCvt k 2 planWiden

end Sys2Proof.Machine
end

