-- ==== Sys2Proof/Machine/MemCtl.lean ====
section
/-!
DEFINITION. Sys2Proof/Machine/MemCtl.lean: the interleave (R196, R197), stacks out of service (R198 to R200, R517), spare rows (R225,
R467) and error injection (R516).
-/

namespace Sys2Proof.Machine

/-! ### HF_HBM_MODE -/

/-- A write to HF_HBM_MODE. -/
def Dev.hbmModeW (d : Dev) (v : Word64) : WriteRes :=
  if d.flag HF_HBM_MODE_lock then d.refuse HF_HBM_MODE BUSY_RUNNING
  else if bitAt v.toNat 0 && !((List.range 16).all fun s => d.stackState s == 2) then d.refuse HF_HBM_MODE CFG_CONFLICT
  else (d.setFld HF_HBM_MODE_mode (wget v 0 0), OK)

def execHfHbmModeWrite (v : Word64) (s : State) := s.actLegend fun d => d.ownWrite HF_HBM_MODE v true fun d => d.hbmModeW v

/-! ### Stacks that leave and return -/

/-- The stacks of a base die. -/
def stacksOf (b : Nat) : List Nat := [4 * b, 4 * b + 1, 4 * b + 2, 4 * b + 3]

/-- The first reason of R517 to refuse a change of offline, OK when it is accepted. -/
def Dev.offlineCheck (d : Dev) (s : Nat) : Nat :=
  let st := d.stackState s
  if d.packageWide then CFG_CONFLICT
  else if st = 1 ∨ st = 3 ∨ (stacksOf (s / 4)).any fun t => t != s && d.stackState t == 3 then BUSY_RUNNING
  else if st = 0 ∨ st = 5 then CFG_CONFLICT
  else OK

/-- The change of R200 begins; it ends in a state. -/
def Dev.startChange (d : Dev) (s dst : Nat) : Dev :=
  ((d.setFld (MC_STATUS_state s) 3).modSvc fun v => { v with changeTo := smSet v.changeTo s dst }).failAbsent

/-- A write to MC_CTRL: enable is Sorarn's, and its check passes only on a stack in service. -/
def Dev.mcCtrlW (d : Dev) (s : Nat) (v : Word64) : WriteRes :=
  let off := bitAt v.toNat 1
  if bitAt v.toNat 0 && !d.flag (MC_CTRL_enable s) && d.stackState s != 2 then d.refuse (MC_CTRL s) CFG_CONFLICT
  else
    let d1 := d.setFld (MC_CTRL_enable s) (wget v 0 0)
    if off == d.flag (MC_CTRL_offline s) then (d1, OK)
    else
      let r := d.offlineCheck s
      if r ≠ OK then d.refuse (MC_CTRL s) r
      else if off then ((d1.setFld (MC_CTRL_offline s) 1).startChange s 4, OK)
      else ((d1.setFld (MC_CTRL_offline s) 0).setFld (MC_STATUS_state s) 1, OK)

def execMcCtrlOffline (stack : Nat) (v : Word64) (s : State) := s.actLegend fun d =>
  d.ownWrite (MC_CTRL stack) v (decide (stack < 16)) fun d => d.mcCtrlW stack v

/-- STACK_TRAINING_DONE: a returning stack changes into service, or fails. -/
def execStackTrainingDone (stack : Nat) (pass : Bool) (s : State) := s.actLegend fun d =>
  if 16 ≤ stack ∨ d.stackState stack ≠ 1 then d
  else if pass then d.startChange stack 2
  else ((d.setFld (MC_STATUS_state stack) 5).event 2 stack 5)

/-- Every mapped byte of a base die's range is written to zero with valid check bits. -/
def Dev.zeroBase (d : Dev) (b : Nat) : Dev := (d.stacksUp b).foldl (fun d s => d.zeroKeys (s * stackKey) (s * stackKey + stackSpan)) d

/-- STACK_CHANGE_DONE: the new mapping holds, its range reads zero, and the memory event is raised (R200). -/
def execStackChangeDone (stack : Nat) (s : State) := s.actLegend fun d =>
  match smFind d.svc.changeTo stack with
  | some dst =>
    if d.stackState stack ≠ 3 then d
    else
      let d := (d.setFld (MC_STATUS_state stack) dst).setFld (MC_CTRL_enable stack) (b2n (dst == 2))
      let d := (d.modSvc fun v => { v with changeTo := smDel v.changeTo stack }).zeroBase (stack / 4)
      d.event 2 stack dst
  | none => d

/-! ### Spare rows (R225, R467) -/

/-- The row that MC_REPAIR_ADDR names, and the bank it lies in. -/
def Dev.repairRow (d : Dev) (s : Nat) : Nat := (d.reg (MC_REPAIR_ADDR s)).toNat
def bankOf (row : Nat) : Nat := bitsOf row 31 18

/-- Spare rows of a bank programmed since manufacture. -/
def Dev.bankUsed (d : Dev) (s bank : Nat) : Nat := (d.svc.repairs.filter fun r => r.1 == s && bankOf r.2 == bank).length

/-- Whether a bank still has a spare. -/
def Dev.spareLeft (d : Dev) (s row : Nat) : Bool := decide (d.bankUsed s (bankOf row) < Config.bankSpares s (bankOf row))

/-- Whether a row has been replaced. -/
def Dev.isRepaired (d : Dev) (s row : Nat) : Bool := Config.rowRepaired s row || d.svc.repairs.contains (s, row)

/-- The checks of R225. -/
def Dev.repairCheck (d : Dev) (s : Nat) : Nat :=
  if !(d.flag HF_AUTH_active && bitAt (d.fld HF_AUTH_scope) 0) then SIG_INVALID
  else if d.stackState s ≠ 4 ∨ d.flag (MC_REPAIR_STATUS_busy s) then BUSY_RUNNING
  else if !d.gateOpen [24 + s, 12 + s / 4] then TEMP_GATED
  else if !d.spareLeft s (d.repairRow s) then CFG_RANGE
  else OK

/-- A write to MC_REPAIR_CTRL: query, then program. -/
def Dev.repairCtrlW (d : Dev) (s : Nat) (v : Word64) : WriteRes :=
  let d := if bitAt v.toNat 1 then d.setFld (MC_REPAIR_STATUS_repaired s) (b2n (d.isRepaired s (d.repairRow s))) else d
  if !bitAt v.toNat 0 then (d, OK)
  else
    let r := d.repairCheck s
    if r ≠ OK then ((d.setFld (MC_REPAIR_STATUS_reason s) r).recordReason (MC_REPAIR_CTRL s) r, r)
    else ((d.setFld (MC_REPAIR_STATUS_busy s) 1).modSvc fun x => { x with repairing := (s, d.repairRow s) :: x.repairing }, OK)

def execMcRepairProgram (stack : Nat) (v : Word64) (s : State) := s.act fun d =>
  d.ownWrite (MC_REPAIR_CTRL stack) v (decide (stack < 16) && bitAt v.toNat 0) fun d => d.repairCtrlW stack v
def execMcRepairQuery (stack : Nat) (v : Word64) (s : State) := s.act fun d =>
  d.ownWrite (MC_REPAIR_CTRL stack) v (decide (stack < 16) && bitAt v.toNat 1 && !bitAt v.toNat 0) fun d => d.repairCtrlW stack v

/-- REPAIR_PROGRAM_DONE: the row is replaced. -/
def execRepairProgramDone (stack : Nat) (s : State) := s.act fun d =>
  if d.flag (MC_REPAIR_STATUS_busy stack) then
    (d.setFld (MC_REPAIR_STATUS_busy stack) 0).modSvc fun x => { x with
      repairs := x.repairs ++ x.repairing.filter (·.1 == stack), repairing := x.repairing.filter (·.1 != stack) }
  else d

/-! ### Injection (R516) -/

/-- A symbol number that R516 reserves. -/
def symReserved (n : Nat) : Bool := decide (36 ≤ n) && decide (n ≤ 62)

/-- A write to MC_INJECT. -/
def Dev.injectW (d : Dev) (s : Nat) (v : Word64) : WriteRes :=
  if symReserved (wget v 23 18) || symReserved (wget v 17 12) then d.refuse (MC_INJECT s) CFG_RANGE
  else (d.store (MC_INJECT s) v, OK)

def execMcInjectWrite (stack : Nat) (v : Word64) (s : State) := s.act fun d =>
  d.ownWrite (MC_INJECT stack) v (decide (stack < 16)) fun d => d.injectW stack v

end Sys2Proof.Machine
end

