-- ==== Sys2Proof/Machine/Jobs.lean ====
section
/-!
DEFINITION. Sys2Proof/Machine/Jobs.lean: commands that reset, move and scrub memory, launch and stop cores, and take units out of
service and back (Table 11-8, R40, R150, R190, R220 to R222, R262, R402, R403).
-/

namespace Sys2Proof.Machine

/-! ### RESET -/

/-- A RESET of scope 0 completes; the module reset follows (R403). -/
def Dev.resetModuleCmd (d : Dev) (c : Cmd) : Dev :=
  let q := match c.origin with | .queue q => q | _ => 64
  (d.complete c OK).modCp fun x => { x with resetDue := some (q, c.tag) }

/-- A reset of cores, refused while one of them runs. -/
def Dev.resetUnlessRunning (d : Dev) (c : Cmd) (cores : List Nat) (f : Dev → Dev) : Dev :=
  if cores.any fun k => d.coreState k == 1 then d.complete c BUSY_RUNNING else (f d).complete c OK

/-- RESET: the domain that p0 names (Table 1-8). -/
def execReset (cmd : Nat) (s : State) := s.actLegend fun d => d.onCmd cmd 0x0104 fun d c =>
  let p := c.p 0
  let die := bitsOf p 11 8; let sub := bitsOf p 14 12; let core := bitsOf p 23 16
  match p % 8 with
  | 0 => d.resetModuleCmd c
  | 1 => d.resetUnlessRunning c (coresOfDie die) fun d => d.resetDie die
  | 2 => d.resetUnlessRunning c (coresOfCluster die sub) fun d => d.resetCluster die sub
  | 3 => if 80 ≤ core then d.complete c CFG_RANGE
    else d.resetUnlessRunning c [die * 80 + core] fun d => d.resetCore (die * 80 + core)
  | 4 => (d.driftReset sub).complete c OK
  | _ => d.complete c BAD_FIELD

/-- MODULE_RESET_DELAYED: once the completion has been posted. -/
def execModuleResetDelayed (s : State) := s.act fun d =>
  match d.cp.resetDue with
  | some (q, tag) => if d.cp.cpls.any fun x => x.q == q && x.tag == tag then d else d.moduleReset
  | none => d

/-! ### The end of an initialisation -/

/-- A SPARE_SWAP completes when its core is initialised, and raises its source (R190, Table 12-1); a core taken out of service
meanwhile ends it with ABSENT_UNIT. -/
def Dev.endSwaps (d : Dev) : Dev :=
  (d.cp.cmds.filter fun c => c.opcode == 0x0302 && c.phase == .running).foldl (fun d c =>
    match c.aux with
    | [k] => if d.coreState k = 6 then d
      else if d.coreState k = 5 then d.complete c ABSENT_UNIT
      else ((d.complete c OK).raise (0x98 + dieOf k) 1 0 0).bistCause (dieOf k)
    | _ => d) d

/-- MEMORY_INIT_DONE: a core (position 0 to 9 of its cluster) becomes idle, or the cluster's memory is ready (R150). -/
def execMemoryInitDone (die cluster core : Nat) (s : State) := s.actLegend fun d =>
  let k := die * 80 + cluster * 10 + core
  if 12 ≤ die ∨ 8 ≤ cluster then d
  else if core < 10 then
    if d.coreState k = 6 then ((d.setFld (SQ_STATUS_state k) 0).onNewCode k).endSwaps.submitWaiting else d
  else Dev.submitWaiting { d with ram := { d.ram with clusterInit := d.ram.clusterInit.filter (· != die * 8 + cluster) } }

/-- SEAM_INIT_DONE: held requests to the seam are served (R208). -/
def execSeamInitDone (die : Nat) (s : State) := s.act fun d =>
  Dev.submitWaiting { d with ram := { d.ram with seamInit := d.ram.seamInit.filter (· != die) } }

/-! ### COPY and FILL -/

/-- A buffer in host memory or at local addresses. -/
structure Buf where
  host : Bool
  addr : Nat
  deriving DecidableEq, Repr

/-- Whether n bytes of a buffer are there, and whether they are held. -/
def Dev.bufPresent (d : Dev) (b : Buf) (n : Nat) : Bool := b.host || d.present b.addr n
def Dev.bufHeld (d : Dev) (b : Buf) (n : Nat) : Bool := !b.host && d.held b.addr n

/-- The local range of a buffer. -/
def Buf.range (b : Buf) (n : Nat) : List (Nat × Nat) := if b.host then [] else [(b.addr, n)]

/-- Move bits from a buffer to another; the flag tells whether poisoned data moved (R83, R216). -/
def Dev.moveBuf (d : Dev) (src dst : Buf) (n : Nat) : Dev × Bool :=
  let d := if src.host then d else d.scrub src.addr n
  let bytes := if src.host then d.hostRead src.addr n else d.bytesAt src.addr n
  let marks := if src.host then [] else d.poisonsAt src.addr n
  let poison := marks.any id
  (if dst.host then d.hostWrite dst.addr bytes ((List.range n).filter fun i => marks.getD ((src.addr % 16 + i) / 16) false)
    else if src.host then d.writeClean dst.addr bytes
    else d.moveLocal src.addr dst.addr n, poison)

/-- The tally of a COPY rises, with the error flag on failure. -/
def Dev.copyTally (d : Dev) (c : Cmd) (failed : Bool) : Dev :=
  let t := bitsOf (c.p 3) 47 32
  if bitAt (c.p 3) 2 then (if failed then d.setFld (HF_TALLY_error t) 1 else d).bumpTally t 1 else d

/-- COPY. -/
def execCopy (cmd : Nat) (s : State) := s.act fun d => d.onCmd cmd 0x0200 fun d c =>
  let n := c.p 2
  let src : Buf := ⟨bitAt (c.p 3) 0, c.p 0⟩; let dst : Buf := ⟨bitAt (c.p 3) 1, c.p 1⟩
  let fail (r : Nat) : Dev := (d.copyTally c true).complete c r
  if n < 16 ∨ 2 ^ 34 < n ∨ n % 16 ≠ 0 then fail BAD_LENGTH
  else if !d.bufPresent src n || !d.bufPresent dst n then fail CFG_RANGE
  else if d.bufHeld src n || d.bufHeld dst n then d
  else d.viaNarrow c (src.range n ++ dst.range n) fun d => match d.moveBuf src dst n with
    | (d, poison) => (d.copyTally c false).complete c OK (n % 2 ^ 32) (n / 2 ^ 32) 0 poison

/-- FILL: every word with valid check bits. -/
def execFill (cmd : Nat) (s : State) := s.act fun d => d.onCmd cmd 0x0201 fun d c =>
  let a := c.p 0; let n := c.p 1
  if n < 16 ∨ 2 ^ 38 < n ∨ n % 16 ≠ 0 then d.complete c BAD_LENGTH
  else if a % 16 ≠ 0 ∨ !d.present a n then d.complete c CFG_RANGE
  else if d.held a n then d
  else d.viaNarrow c [(a, n)] fun d => (d.writeClean a ((List.replicate (n / 8) (leBytes 8 (c.p 2))).flatten)).complete c OK

/-! ### Assay -/

/-- What a pass has found (Table 6-5). -/
structure Found where
  read : Nat := 0
  corrected : Nat := 0
  marked : Nat := 0
  poisoned : Nat := 0
  first : Option Nat := none
  last : Option Nat := none
  lastFix : Option Nat := none
  deriving DecidableEq, Repr

/-- A bad word is found at an address. -/
def Found.bad (f : Found) (a : Nat) : Found := { f with first := match f.first with | some x => some x | none => some a, last := some a }

/-- One word of the pass (R221). -/
def Dev.assayWord (x : Dev × Found) (a : Nat) : Dev × Found :=
  let d := x.1; let f := { x.2 with read := x.2.read + 1 }
  match d.place a with
  | none => x
  | some p => (d.scrubWord a, match veinDecode (d.chkAt p.key) with
    | .clean => f
    | .poisoned => ({ f with poisoned := f.poisoned + 1 }).bad a
    | .data _ _ => { f with corrected := f.corrected + 1, lastFix := some a }
    | .check => { f with corrected := f.corrected + 1, lastFix := some a }
    | .bad => ({ f with marked := f.marked + 1 }).bad a)

/-- The stacks and seams that a range touches: HBM stack s as s, the seam of die n as 16 + n. -/
def Dev.assayUnits (d : Dev) (a n : Nat) : List Nat :=
  (rangePoints a n).filterMap fun x => match d.place x with
    | some ⟨.hbm s, _⟩ => some s
    | some ⟨.seam k, _⟩ => some (16 + k)
    | _ => none

/-- The Assays that run. -/
def Dev.assays (d : Dev) : List Cmd := d.cp.cmds.filter fun c => c.opcode == 0x0202 && c.phase == .running

/-- Whether a range lies in the HBM window or in one seam window. -/
def assayWindow (a n : Nat) : Bool :=
  decide (a + n ≤ hbmTop) ||
    (decide (seamBase ≤ a) && decide (a + n ≤ seamBase + 12 * 2 ^ 30) && (a - seamBase) / 2 ^ 30 == (a + n - 1 - seamBase) / 2 ^ 30)

/-- Where the summary goes. -/
def Cmd.summary (c : Cmd) : Buf := ⟨bitAt (c.p 2) 8, c.p 3⟩

/-- The first failure of R220. -/
def Dev.assayCheck (d : Dev) (c : Cmd) : Nat :=
  let a := c.p 0; let n := c.p 1
  let share := bitsOf (c.p 2) 4 0
  if a % 16 ≠ 0 ∨ n % 16 ≠ 0 ∨ n = 0 ∨ !assayWindow a n then CFG_RANGE
  else if !d.present a n then CFG_RANGE
  else if 16 < share then CFG_RANGE
  else if !d.bufPresent c.summary 64 then CFG_RANGE
  else if d.assays.any fun o => (d.assayUnits (o.p 0) (o.p 1)).any fun u => (d.assayUnits a n).contains u then BUSY_RUNNING
  else OK

/-- ASSAY: the pass begins. -/
def execAssay (cmd : Nat) (s : State) := s.act fun d => d.onCmd cmd 0x0202 fun d c =>
  let r := d.assayCheck c
  if r = OK then d.keepCmd c [] else d.complete c r

/-- The in-range word with the highest hot-location count and that count; the lowest address among equals. -/
def Dev.hotWord (d : Dev) (a n : Nat) : Option (Nat × Nat) :=
  ((List.range 16).flatMap fun s => (List.range 16).filterMap fun k =>
    let x := d.fld (MC_HOT_addr s k) * 16
    if d.flag (MC_HOT_valid s k) && decide (a ≤ x) && decide (x < a + n) then some (x, d.fld (MC_HOT_count s k)) else none).foldl
    (fun best e => match best with
      | none => some e
      | some b => if b.2 < e.2 || (b.2 == e.2 && decide (e.1 < b.1)) then some e else some b) none

/-- The summary (Table 6-5). -/
def Dev.summaryBytes (d : Dev) (a n : Nat) (f : Found) (reason : Nat) (stopped : Bool) : List Byte :=
  let addr (o : Option Nat) : List Byte := leBytes 8 (o.getD (2 ^ 64 - 1))
  let hot := if a < hbmTop then d.hotWord a n else f.lastFix.map fun x => (x, 1)
  leBytes 8 f.read ++ leBytes 8 f.corrected ++ leBytes 8 f.marked ++ leBytes 8 f.poisoned ++ addr f.first ++ addr f.last ++
    addr (hot.map (·.1)) ++ leBytes 4 ((hot.map (·.2)).getD 0) ++ leBytes 2 reason ++ leBytes 2 (b2n stopped)

/-- The pass over n bytes of its range ends: summary, then completion. -/
def Dev.endAssay (d : Dev) (c : Cmd) (n : Nat) (stopped : Bool) : Dev :=
  let a := c.p 0
  match (wordsOf a n).foldl Dev.assayWord (d, {}) with
  | (d, f) =>
    let reason := if f.marked + f.poisoned = 0 then OK else UNCORRECTABLE
    let bytes := d.summaryBytes a (c.p 1) f reason stopped
    let d := if c.summary.host then d.hostWrite c.summary.addr bytes else d.writeClean c.summary.addr bytes
    d.complete c reason (min f.marked (2 ^ 32 - 1))

/-- What an Assay needs to go on: neither its range nor its summary is being initialised. -/
def Dev.assayHeld (d : Dev) (c : Cmd) : Bool := d.held (c.p 0) (c.p 1) || d.bufHeld c.summary 64

/-- ASSAY_COMPLETE: the whole range has been read. -/
def execAssayComplete (cmd : Nat) (s : State) := s.act fun d =>
  match d.assays.find? (·.id == cmd) with
  | some c => if d.assayHeld c then d else d.viaNarrow c (c.summary.range 64) fun d => d.endAssay c (c.p 1) false
  | none => d

/-- ASSAY_STOP: the pass ends after its current block; how many blocks it has read the spec does not give. -/
def execAssayStop (cmd : Nat) (s : State) := s.act fun d => d.onCmd cmd 0x0203 fun d c =>
  match d.assays.find? fun x => x.tag == c.p 0 with
  | some x =>
    if d.assayHeld x then d
    else d.viaNarrow x (x.summary.range 64) fun d =>
      let stop := ((x.p 0) / 2048 + 1 + (d.freeAt 0).toNat % ((x.p 1) / 2048 + 1)) * 2048
      ((d.draw 1).endAssay x (min (x.p 1) (stop - x.p 0)) true).complete c OK 1
  | none => d.complete c OK 0

/-! ### LAUNCH and STOP -/

/-- The cores that a launch names. -/
def Cmd.cores (c : Cmd) : List Nat := (selCores (c.p 0)).getD []

/-- The cores that launches have reserved and not given back (R402). -/
def Dev.reservedCores (d : Dev) : List Nat := (d.cp.cmds.filter fun c => c.opcode == 0x0300 && !c.aux.isEmpty).flatMap Cmd.cores

/-- Step 1 of R402, and the checks of the image and the argument block. -/
def Dev.launchCheck (d : Dev) (c : Cmd) : Nat :=
  let cores := c.cores
  let len := bitsOf (c.p 4) 13 0
  if cores.any fun k => d.coreState k == 1 || d.coreState k == 6 || d.reservedCores.contains k then BUSY_RUNNING
  else if cores.any fun k => !d.coreUp k then ABSENT_UNIT
  else if 8191 < c.p 1 ∨ (selCores (c.p 0)).isNone then CFG_RANGE
  else if c.p 3 ≠ 0 ∧ (len < 1 ∨ 8192 < len) then BAD_LENGTH
  else if !d.present (c.p 2) 64 ∨ (c.p 3 ≠ 0 ∧ !d.present (c.p 3) (8 * len)) then CFG_RANGE
  else OK

/-- Store instruction i of core k, poisoned or not (R190, R402). -/
def Dev.storeInstr (d : Dev) (k i : Nat) (w : Word64) (bad : Bool) : Dev :=
  let d := d.setReg (istore k i) w
  { d with ram := { d.ram with istoreBad := smPut (fun _ => false) d.ram.istoreBad (istore k i) bad } }

/-- Step 2: the image goes into the stores of every core. -/
def Dev.loadImage (d : Dev) (cores : List Nat) (a len : Nat) : Dev :=
  let d := d.scrub a (8 * len)
  let words := (List.range len).map fun i => (i, BitVec.ofNat 64 (ofLe (d.bytesAt (a + 8 * i) 8)), d.poisonAt (a + 8 * i))
  cores.foldl (fun d k => words.foldl (fun d w => d.storeInstr k w.1 w.2.1 w.2.2) d) d

/-- Step 3: entry and argument words. -/
def Dev.loadArgs (d : Dev) (cores : List Nat) (pc : Nat) (args : List Word64) : Dev :=
  cores.foldl (fun d k => (d.setFld (SQ_ENTRY_pc k) pc).modCore k fun x => { x with args := args }) d

/-- The argument block and the image of a launch. -/
def Cmd.launchRanges (c : Cmd) : List (Nat × Nat) := (c.p 2, 64) :: if c.p 3 = 0 then [] else [(c.p 3, 8 * bitsOf (c.p 4) 13 0)]

/-- Steps 2 and 3 of a launch whose cores are reserved. -/
def Dev.launchRead (d : Dev) (c : Cmd) : Dev :=
  let len := bitsOf (c.p 4) 13 0
  if c.launchRanges.any fun x => !d.present x.1 x.2 then d.complete c CFG_RANGE
  else if c.launchRanges.any fun x => d.held x.1 x.2 then d
  else d.viaNarrow c c.launchRanges fun d =>
    let d := d.scrub (c.p 2) 64
    if (d.poisonsAt (c.p 2) 64).any id then d.complete c UNCORRECTABLE
    else
      let args := (List.range 8).map fun i => BitVec.ofNat 64 (ofLe (d.bytesAt (c.p 2 + 8 * i) 8))
      let d := if c.p 3 = 0 then d else d.loadImage c.cores (c.p 3) len
      (d.loadArgs c.cores (c.p 1) args).modCmd c.id fun x => { x with aux := [1] }

/-- Steps 1 to 3: the cores are reserved (aux [0]) and loaded (aux [1]); the command keeps its phase. -/
def Dev.launchLoad (d : Dev) (c : Cmd) : Dev :=
  if c.aux.isEmpty then
    let r := d.launchCheck c
    if r ≠ OK then d.complete c r else (d.modCmd c.id fun x => { x with aux := [0] }).launchRead c
  else d.launchRead c

/-- A launch whose cores are loaded. -/
def Cmd.loaded (c : Cmd) : Bool := c.aux == [1]

/-- Step 4: run is set on every named core. -/
def Dev.launchStart (d : Dev) (c : Cmd) : Dev := (c.cores.foldl (fun d k => (d.runCore k).1) d).keepCmd c [1]

/-- LAUNCH: steps 1 to 3 as soon as it has reached its queue's head or begun, step 4 once it has begun (R402). -/
def execLaunch (cmd : Nat) (s : State) := s.actLegend fun d =>
  match d.findCmd cmd with
  | some c =>
    if c.opcode ≠ 0x0300 then d
    else if !c.loaded ∧ (c.phase = .begun ∨ (c.phase = .held ∧ c.atFrame)) then
      let d := d.launchLoad c
      match d.findCmd cmd with
      | some c => if c.phase = .begun ∧ c.loaded then d.launchStart c else d
      | none => d
    else if c.phase = .begun then d.launchStart c
    else d
  | none => d

/-- LAUNCH_COMPLETE: every named core has left state 1 (R402 step 5). -/
def execLaunchComplete (cmd : Nat) (s : State) := s.act fun d =>
  match d.findCmd cmd with
  | some c =>
    if c.opcode ≠ 0x0300 ∨ c.phase ≠ .running ∨ c.cores.any fun k => d.coreState k == 1 then d
    else
      let halted := (c.cores.filter fun k => d.coreState k == 4).length
      let reason := if halted = c.cores.length then OK else CORE_TRAPPED
      match c.cores.find? fun k => d.coreState k == 2 || d.coreState k == 3 with
      | some k =>
        let code := if d.coreState k = 2 then d.fld (SQ_TRAP_code k) else 0
        d.complete c reason halted (k + code * 2 ^ 16) (d.fld (SQ_TRAP_pc k))
      | none => d.complete c reason halted 0xFFFF 0
  | none => d

/-- STOP: each named core in state 1. -/
def execStop (cmd : Nat) (s : State) := s.act fun d => d.onCmd cmd 0x0301 fun d c =>
  match selCores (c.p 0) with
  | none => d.complete c CFG_RANGE
  | some l =>
    let on := l.filter fun k => d.coreState k == 1
    (on.foldl Dev.stopCore d).complete c OK on.length

/-! ### Spares, BIST, OFFLINE and ONLINE -/

/-- SPARE_SWAP: the spare takes the core's number, page and store; its scratch is initialised (R190). -/
def execSpareSwap (cmd : Nat) (s : State) := s.actLegend fun d => d.onCmd cmd 0x0302 fun d c =>
  let die := bitsOf (c.p 0) 3 0; let core := bitsOf (c.p 0) 14 8
  let k := die * 80 + core; let cl := clusterOf k; let st := d.coreState k
  if 80 ≤ core then d.complete c CFG_RANGE
  else if d.spareActive die cl then d.complete c CFG_CONFLICT
  else if !d.spareGood die cl || d.svc.clustersOff.contains (die * 8 + cl) then d.complete c ABSENT_UNIT
  else if st ≠ 2 ∧ st ≠ 3 ∧ st ≠ 5 then d.complete c BUSY_RUNNING
  else ((d.useSpare die cl (posOf k)).blankCore k 6).keepCmd c [k]

/-- The logical core that a physical position of a cluster serves, if any. -/
def Dev.logicalOf (d : Dev) (die c pos : Nat) : Option Nat :=
  ((List.range 10).find? fun p => d.servedBy die c p == physOf die c pos).map fun p => die * 80 + c * 10 + p

/-- BIST of one physical core. -/
def execBist (cmd : Nat) (pass : Bool) (s : State) := s.actLegend fun d => d.onCmd cmd 0x0303 fun d c =>
  let die := bitsOf (c.p 0) 3 0; let cl := bitsOf (c.p 0) 6 4; let pos := bitsOf (c.p 0) 11 8
  let x := physOf die cl pos
  let busy := match d.logicalOf die cl pos with | some k => d.coreState k == 1 || d.coreState k == 6 | none => false
  if 10 < pos then d.complete c CFG_RANGE
  else if busy then d.complete c BUSY_RUNNING
  else
    let rest := d.svc.failed.filter (· != x)
    let d := d.modSvc fun v => { v with failed := if pass then rest else x :: rest }
    let d := if pass then d else d.raise (0x98 + die) 1 0 0
    (d.bistCause die).complete c OK (b2n pass)

/-- A cluster leaves service. -/
def Dev.clusterOut (d : Dev) (die cl : Nat) : Dev :=
  let d := ((coresOfCluster die cl).foldl (fun d k => d.blankCore k 5) d).clearCluster die cl
  let d := { d with ram := { d.ram with clusterInit := d.ram.clusterInit.filter (· != die * 8 + cl) } }
  d.modSvc fun v => { v with clustersOff := (die * 8 + cl) :: v.clustersOff }

/-- OFFLINE of a cluster or a compute die. -/
def execOffline (cmd : Nat) (s : State) := s.actLegend fun d => d.onCmd cmd 0x0304 fun d c =>
  let die := bitsOf (c.p 0) 11 8; let cl := bitsOf (c.p 0) 14 12
  if bitAt (c.p 0) 0 then
    if (coresOfDie die).any fun k => d.coreState k == 1 then d.complete c BUSY_RUNNING
    else ((((d.dieOut die).bistCause die).event 2 (0x100 + die) 0).endSwaps).complete c OK
  else if !d.clusterUp die cl then d.complete c ABSENT_UNIT
  else if (coresOfCluster die cl).any fun k => d.coreState k == 1 then d.complete c BUSY_RUNNING
  else (((d.clusterOut die cl).bistCause die).endSwaps).complete c OK

/-- The test of a unit replaces what is known of its physical cores, and each failure raises its source. -/
def Dev.retest (d : Dev) (die : Nat) (mine : Nat → Bool) (failedCores : List Nat) : Dev :=
  let bad := failedCores.filter mine
  let d := d.modSvc fun v => { v with failed := (v.failed.filter fun x => !mine x) ++ bad }
  bad.foldl (fun d _ => d.raise (0x98 + die) 1 0 0) d

/-- ONLINE: the unit is initialised and tested; one that fails stays out. -/
def execOnline (cmd : Nat) (failedCores : List Nat) (pass : Bool) (s : State) := s.actLegend fun d => d.onCmd cmd 0x0305 fun d c =>
  let die := bitsOf (c.p 0) 11 8; let cl := bitsOf (c.p 0) 14 12
  if bitAt (c.p 0) 0 then
    if d.dieUp die then d.complete c CFG_CONFLICT
    else if !pass then (d.raise (0x98 + die) 1 0 0).complete c OK 0
    else
      let d := (d.retest die (fun x => x / 88 == die) failedCores).setFld (HF_DIE_STRAP_in_service die) 1
      ((d.placeDie die).event 2 (0x100 + die) 1).complete c OK 1
  else if !d.dieUp die then d.complete c ABSENT_UNIT
  else if d.clusterUp die cl then d.complete c CFG_CONFLICT
  else if !pass then (d.raise (0x98 + die) 1 0 0).complete c OK 0
  else
    let d := (d.retest die (fun x => x / 11 == die * 8 + cl) failedCores).placeCluster die cl
    (d.bistCause die).complete c OK 1

/-! ### Drifts -/

/-- DRIFT_OFFLINE: as clearing DR_CTRL.enable. -/
def execDriftOffline (cmd : Nat) (s : State) := s.actLegend fun d => d.onCmd cmd 0x0701 fun d c =>
  (d.driftOff (c.p 0 % 8)).complete c OK

/-- DRIFT_RETEST: out of service, then CAL and loopback on every lane, whose end completes it (R262); a drift that R8 keeps
dark tests no lane. -/
def execDriftRetest (cmd : Nat) (s : State) := s.actLegend fun d => d.onCmd cmd 0x0702 fun d c =>
  let n := c.p 0 % 8
  let d := if d.flag (DR_CTRL_enable n) then d.driftOff n else d
  if !(d.drift n).loaded then d.complete c CFG_RANGE
  else if d.keepsDark n then (d.driftOn n).complete c OK 0
  else (d.driftOn n).keepCmd c [n]

end Sys2Proof.Machine
end

