-- ==== Sys2Proof/Machine/RegWrite.lean ====
section
/-!
DEFINITION. Sys2Proof/Machine/RegWrite.lean: a write or a read of any register (R4, R16 to R24, R68, R390, R406): what each register's
own rules do with a write, and the values that a read computes.  Host accesses name the local address of the register.
-/

namespace Sys2Proof.Machine

/-! ### Tallies and mailboxes (R328, R333) -/

/-- A write to HF_TALLY_t: the count is set, the error flag clears where bit 63 is 1, and waiting cores resume (R180, R328). -/
def Dev.tallyW (d : Dev) (t : Nat) (v : Word64) : WriteRes := ((d.store (HF_TALLY t) v).wakeTally t, OK)

/-- Whether a write would change a field. -/
def Dev.changes (d : Dev) (f : Fld) (v : Word64) : Bool := wget v f.hi f.lo != d.fld f

/-- A write to HF_MBOX_m_CTRL: base and size only while enable reads 0; setting enable checks the size. -/
def Dev.mboxCtrlW (d : Dev) (m : Nat) (v : Word64) : WriteRes :=
  let on := d.flag (HF_MBOX_CTRL_enable m)
  let size := wget v 4 0
  if on && (d.changes (HF_MBOX_CTRL_base m) v || d.changes (HF_MBOX_CTRL_log2_size m) v) then d.refuse (HF_MBOX_CTRL m) BUSY_RUNNING
  else if !on && bitAt v.toNat 63 && (decide (size < 16) || decide (30 < size)) then d.refuse (HF_MBOX_CTRL m) CFG_RANGE
  else (d.store (HF_MBOX_CTRL m) v, OK)

/-- A write to HF_MBOX_m_CONS: from the cons in force up to prod. -/
def Dev.mboxConsW (d : Dev) (m : Nat) (v : Word64) : WriteRes :=
  let cons := d.reg (HF_MBOX_CONS m)
  if (v - cons).toNat ≤ (d.reg (HF_MBOX_PROD m) - cons).toNat then (d.setReg (HF_MBOX_CONS m) v, OK)
  else d.refuse (HF_MBOX_CONS m) CFG_RANGE

/-- A write to HF_MBOX_m_TALLY: only while the mailbox's enable reads 0. -/
def Dev.mboxTallyW (d : Dev) (m : Nat) (v : Word64) : WriteRes :=
  if d.flag (HF_MBOX_CTRL_enable m) && (d.changes (HF_MBOX_TALLY_tally_en m) v || d.changes (HF_MBOX_TALLY_tally m) v) then
    d.refuse (HF_MBOX_TALLY m) BUSY_RUNNING
  else (d.store (HF_MBOX_TALLY m) v, OK)

def execHfTallyWrite (t : Nat) (v : Word64) (s : State) := s.act fun d =>
  d.ownWrite (HF_TALLY t) v (decide (t < 65536)) fun d => d.tallyW t v
def execHfMboxConsWrite (m : Nat) (v : Word64) (s : State) := s.act fun d =>
  d.ownWrite (HF_MBOX_CONS m) v (decide (m < 1024)) fun d => d.mboxConsW m v
def execHfMboxCtrlWrite (m : Nat) (v : Word64) (s : State) := s.act fun d =>
  d.ownWrite (HF_MBOX_CTRL m) v (decide (m < 1024)) fun d => d.mboxCtrlW m v

/-! ### Handlers by block -/

/-- Block HF. -/
def Dev.writeHF (d : Dev) (off : Nat) (v : Word64) : WriteRes :=
  if off = HF_HBM_MODE then d.hbmModeW v
  else if off = HF_ROW_TIMEOUT then
    (if wget v 15 0 < 64 ∨ wget v 47 32 < 256 then d.refuse off CFG_RANGE else (d.store off v, OK))
  else if off < 0x40000 then (d.store off v, OK)
  else if off < 0x50000 then
    let m := (off - 0x40000) / 0x40
    if off = HF_MBOX_CTRL m then d.mboxCtrlW m v
    else if off = HF_MBOX_CONS m then d.mboxConsW m v
    else if off = HF_MBOX_TALLY m then d.mboxTallyW m v
    else (d, OK)
  else if 0x80000 ≤ off then d.tallyW ((off - 0x80000) / 8) v
  else (d, OK)

/-- Block GD: the entries and the frame of a batch in progress refuse writes (Table 2-13). -/
def Dev.writeGD (d : Dev) (off : Nat) (v : Word64) : WriteRes :=
  if off = GD_CTRL then d.gdCtrlW v
  else if off = GD_BATCH_CTRL then d.batchCtrlW v
  else if (off = GD_BATCH_FRAME ∨ (0x102000 ≤ off ∧ off < 0x102400)) ∧ d.batchBusy then d.batchConflict
  else (d.store off v, OK)

/-- Block CP. -/
def Dev.writeCP (d : Dev) (off : Nat) (v : Word64) : WriteRes :=
  if off = CP_CTRL then d.cpCtrlW v
  else if off = CP_REMOTE_TIMEOUT then (if wget v 15 0 < 64 then d.refuse off CFG_RANGE else (d.store off v, OK))
  else if 0x200100 ≤ off ∧ off < 0x200180 then d.apertureW ((off - 0x200100) / 8) v
  else (d.store off v, OK)

/-- Block FT. -/
def Dev.writeFT (d : Dev) (off : Nat) (v : Word64) : WriteRes :=
  if off = FT_CLEAR then d.ftClearW v
  else if off = FT_CANARY_CTRL then d.canaryCtrlW v
  else (d.store off v, OK)

/-- Block TM. -/
def Dev.writeTM (d : Dev) (off : Nat) (v : Word64) : WriteRes :=
  if off = TM_CTRL then d.tmCtrlW v else (d.store off v, OK)

/-- Block CE: registers, group descriptors (R341), apply windows. -/
def Dev.writeCE (d : Dev) (off : Nat) (v : Word64) : WriteRes :=
  if off = CE_CTRL then d.ceCtrlW v
  else if off = CE_SUBMIT then d.ceSubmitW v
  else if 0x510000 ≤ off ∧ off < 0x530000 then d.ceGroupW ((off - 0x510000) / 0x20) off v
  else if applyBase 0 ≤ off ∧ off < applyBase 16 then (if off % 0x100 < 0x80 then d.ceApplyW off v else (d, OK))
  else (d.store off v, OK)

/-- Block FB: registers and the windows of the next plans. -/
def Dev.writeFB (d : Dev) (off : Nat) (v : Word64) : WriteRes :=
  if off = FB_CTRL then d.fbCtrlW v
  else if 0x600200 ≤ off ∧ off < 0x600260 then
    let p := (off - 0x600200) / 0x10
    if off = FB_PLAN_CTRL p then d.planCtrlW p v
    else if d.planState p = 1 ∨ d.planState p = 2 then d.refuse off BUSY_RUNNING
    else (d.store off v, OK)
  else if planNext 0 ≤ off ∧ off < planNext 6 then
    let p := (off - planNext 0) / 0x2000
    if 7680 ≤ (off - planNext 0) % 0x2000 then (d, OK)
    else if d.planState p = 1 ∨ d.planState p = 2 then d.refuse off BUSY_RUNNING
    else (d.setReg off v, OK)
  else (d.store off v, OK)

/-- Whether a write to an entry of the next contour bank must wait: a commit is armed or copying, or its lane is in RECAL (R244,
R245). -/
def Dev.contourBusy (d : Dev) (n off : Nat) : Bool :=
  d.fld (DR_CONTOUR_CTRL_state n) != 0 || d.laneState n ((off - contourNext n) / 7168) == 4

/-- A drift's block. -/
def Dev.writeDR (d : Dev) (off : Nat) (v : Word64) : WriteRes :=
  let n := offDrift off
  let o := off - DR_CTRL n
  if off = DR_CTRL n then d.drCtrlW n v
  else if off = DR_CONTOUR_CTRL n then d.contourCtrlW n v
  else if off = DR_CONTOUR_FRAME n then
    (if d.fld (DR_CONTOUR_CTRL_state n) = 1 then d.refuse off BUSY_RUNNING else (d.store off v, OK))
  else if off = DR_RECAL_PERIOD n then (if wget v 31 0 < 60 then d.refuse off CFG_RANGE else (d.store off v, OK))
  else if 0x1000 ≤ o ∧ o < 0x1800 then
    let l := (o - 0x1000) / 0x40
    if off = DR_LANE_CTRL n l then d.drLaneW n l v else (d, OK)
  else if contourNext n ≤ off ∧ off < contourNext n + 8 * contourEntries then
    (if d.contourBusy n off then d.refuse off BUSY_RUNNING else (d.setReg off v, OK))
  else (d.store off v, OK)

/-- A memory controller's block. -/
def Dev.writeMC (d : Dev) (off : Nat) (v : Word64) : WriteRes :=
  let s := offStack off
  if off = MC_CTRL s then d.mcCtrlW s v
  else if off = MC_REPAIR_CTRL s then d.repairCtrlW s v
  else if off = MC_INJECT s then d.injectW s v
  else (d.store off v, OK)

/-- A die's block: core pages and instruction stores (R152). -/
def Dev.writeSQ (d : Dev) (off : Nat) (v : Word64) : WriteRes :=
  let k := offCore off
  if !isCoreOff off then (d, OK)
  else if 0x800000 ≤ (off - 0x10000000) % 0x1000000 then
    (if d.flag (SQ_CTRL_run k) then (d, BUSY_RUNNING) else (d.storeInstr k ((off % 0x10000) / 8) v false, OK))
  else if off = SQ_CTRL k then d.sqCtrlW k v
  else if off = SQ_SR_SEED k then d.srSeedW k v
  else (d.store off v, OK)

/-- What a write does once the device has let it through. -/
def Dev.handleWrite (d : Dev) (off : Nat) (v : Word64) : WriteRes :=
  if off < 0x100000 then d.writeHF off v
  else if off < 0x200000 then d.writeGD off v
  else if off < 0x300000 then d.writeCP off v
  else if off < 0x400000 then d.writeFT off v
  else if off < 0x500000 then d.writeTM off v
  else if off < 0x600000 then d.writeCE off v
  else if off < 0x700000 then d.writeFB off v
  else if isDriftOff off then d.writeDR off v
  else if isStackOff off then d.writeMC off v
  else if isDieOff off then d.writeSQ off v
  else (d, OK)

/-- An access to a register: in register space, naturally aligned, of 8 bytes (R16). -/
def regAccessOk (addr size : Nat) : Bool := inRegSpace addr && addr % 8 == 0 && size == 8

/-- A register write at a local address, and the reason it records. -/
def Dev.regWrite (d : Dev) (addr size : Nat) (v : Word64) : WriteRes :=
  if regAccessOk addr size then d.guardWrite (addr - regSpaceBase) v fun d => d.handleWrite (addr - regSpaceBase) v
  else (d.badAccess addr, BAD_FIELD)

/-- REGISTER_WRITE: a host write through BAR4; in D3hot the device accepts none (R383). -/
def execRegisterWrite (addr size : Nat) (v : Word64) (s : State) := s.actLegend fun d =>
  if d.cp.d3hot then d else (d.regWrite addr size v).1

/-- REG_WRITE (R406). -/
def execRegWrite (cmd : Nat) (s : State) := s.actLegend fun d => d.onCmd cmd 0x0105 fun d c =>
  match d.regWrite (c.p 0) 8 (BitVec.ofNat 64 (c.p 1)) with
  | (d, r) => d.complete c r

/-! ### Reads -/

/-- The block of an offset, as GD_PENDING numbers them (Table 2-15); 63 for none. -/
def blockOf (off : Nat) : Nat :=
  if off < 0x700000 then off / 0x100000
  else if isDriftOff off then 7 + offDrift off
  else if isStackOff off then 13 + offStack off
  else if isDieOff off then 29 + offDie off
  else 63

/-- Whether the next copy of a block holds a write. -/
def Dev.blockPending (d : Dev) (b : Nat) : Bool := d.next.any fun e => blockOf e.1 == b

/-- SQ_CYCLE of a core, whose value only timing fixes. -/
def isCycleReg (off : Nat) : Bool :=
  isCoreOff off && decide ((off - 0x10000000) % 0x1000000 < 0x800000) && off % 0x1000 == 0x48

/-- SQ_SCR_EXTWAIT of a core: a read finds it risen, since the read before, by a free number of waiting cycles below 2^32 (R145). -/
def isExtWait (off : Nat) : Bool :=
  isCoreOff off && decide ((off - 0x10000000) % 0x1000000 < 0x800000) && off % 0x1000 == 0x868

/-- The value in use of a register as a read finds it; a free value has the number freeAt 0. -/
def Dev.valueInUse (d : Dev) (off : Nat) : Word64 :=
  if d.regAbsent off then 0
  else if off = GD_PENDING then BitVec.ofNat 64 (packN 1 41 fun b => b2n (d.blockPending b))
  else if 0x200200 ≤ off ∧ off < 0x200400 then
    let q := (off - 0x200200) / 8
    wput (d.reg off) 40 32 (d.begunCount q)
  else if 0x8A0 ≤ off ∧ off < 0x8C8 then
    let k := (off - 0x8A0) / 8
    BitVec.ofNat 64 ((d.fuses k).length * 2 ^ 32 + d.leastVersion k)
  else if 0x8E0 ≤ off ∧ off < 0x900 then d.fw.nonce.getD ((off - 0x8E0) / 8) 0
  else if isStackOff off ∧ off = MC_REPAIR_STATUS (offStack off) then
    let s := offStack off
    wput (wput (d.reg off) 31 16 (Config.spareTotal s).toNat) 15 0
      ((Config.spareUsed s).toNat + (d.svc.repairs.filter (·.1 == s)).length)
  else if isCycleReg off then d.freeAt 0
  else if isExtWait off then d.reg off + BitVec.ofNat 64 ((d.freeAt 0).toNat % 2 ^ 32)
  else if isDriftOff off ∧ 0x1000 ≤ off % 0x100000 ∧ off % 0x100000 < 0x1800 ∧ off % 0x40 = 0x18 then
    d.freeAt 0 &&& 0x000FFFFF0000FFFF
  else d.reg off

/-- The next-copy view of the register that GD_NEXT_ADDR names: the value in use but for staged fields (R68). -/
def Dev.nextView (d : Dev) : Word64 :=
  let a := d.fld GD_NEXT_ADDR_addr * 8
  let off := a - regSpaceBase
  if !inRegSpace a || d.regAbsent off then 0
  else
    let st := accMask (fieldsAt off) (·.acc == .st)
    let cur := (d.valueInUse off).toNat
    match smFind d.next off with
    | some x => BitVec.ofNat 64 ((cur - (cur &&& st)) + (x.toNat &&& st))
    | none => d.valueInUse off

/-- A register read. -/
def Dev.regView (d : Dev) (off : Nat) : Word64 := if off = GD_NEXT_DATA then d.nextView else d.valueInUse off

/-- A read clears the RC fields of the register (Table 0-3). -/
def Dev.clearRc (d : Dev) (off : Nat) : Dev :=
  let rc := accMask (fieldsAt off) (·.acc == .rc)
  if rc = 0 ∨ d.regAbsent off then d
  else
    let d := d.setReg off (BitVec.ofNat 64 ((d.reg off).toNat - ((d.reg off).toNat &&& rc)))
    if 0x400100 ≤ off ∧ off < 0x400240 then d.modZone ((off - 0x400100) / 8) fun x => { x with peak := none } else d

/-- A register read: the value, then the clearing; the free values it drew are used up, and a count that it found risen stays so. -/
def Dev.readReg (d : Dev) (off : Nat) : Dev × Word64 :=
  let t := d.clearRc off
  ((if isExtWait off && !d.regAbsent off then t.setReg off (d.valueInUse off) else t).draw 1, d.regView off)

/-- RC_READ: a host read through BAR4, of any register; the bytes go to the host. -/
def execRcRead (addr size : Nat) (s : State) := s.act fun d =>
  let give (d : Dev) (v : Word64) : Dev := d.modCp fun x => { x with lastRead := leBytes size v.toNat, lastEp := false }
  if d.cp.d3hot then d
  else if !regAccessOk addr size || (!d.ready && !servedEarly (addr - regSpaceBase)) then give (d.badAccess addr) 0
  else match d.readReg (addr - regSpaceBase) with
    | (d, v) => give d v

/-! ### Scalar loads and stores of a core (R161, R162, R174, R176, R189) -/

/-- Bytes of an SLD or SST, and its address. -/
def scalarSize (w : Word64) : Nat := 2 ^ wget w 37 36
def Dev.scalarAddr (d : Dev) (k : Nat) : Nat :=
  addrPlus ((d.core k).sreg (regField (d.instr k) 42)) 32 (wget (d.instr k) 31 0)

/-- SLD. -/
def execSld (k : Nat) (s : State) := s.act fun d =>
  if d.issues k 5 2 then
    let w := d.instr k
    let n := scalarSize w
    let a := d.scalarAddr k
    let give (d : Dev) (l : List Byte) : Dev := (d.modCore k fun c => c.setS (regField w 47) (loadValue w l)).advance k
    if a % n ≠ 0 then d.trap k trapAlign 0 (d.pc k) a
    else match coreAddr a with
      | .bad => d.trap k trapAddr 0 (d.pc k) a
      | .loc x =>
        if inRegSpace x ∧ n = 8 then
          match d.readReg (x - regSpaceBase) with
          | (d, v) => give d (leBytes 8 v.toNat)
        else if !d.present x n then d.trap k trapAddr 0 (d.pc k) a
        else if d.held x n then d.waits k 5
        else
          let d := d.scrub x n
          if d.poisonAt x then d.trap k trapPoison 0 (d.pc k) a else give d (d.bytesAt x n)
      | .row m x =>
        match d.rowAccess k .sld 0 (d.pc k) w a m n [mkReq (.access 0) m .read x n 0] with
        | .ok d1 => d1.awaitAccess k d.nextId
        | .error r => d.trapWith k trapRefused 0 (d.pc k) r a 0
  else d

/-- SST: posted, so the sequencer goes on. -/
def execSst (k : Nat) (s : State) := s.actLegend fun d =>
  if d.issues k 5 3 then
    let w := d.instr k
    let n := scalarSize w
    let a := d.scalarAddr k
    let v := (d.core k).sreg (regField w 47)
    if a % n ≠ 0 then d.trap k trapAlign 0 (d.pc k) a
    else match coreAddr a with
      | .bad => d.trap k trapAddr 0 (d.pc k) a
      | .loc x =>
        if inRegSpace x ∧ n = 8 then ((d.advance k).regWrite x 8 v).1
        else if !d.present x n then d.trap k trapAddr 0 (d.pc k) a
        else if d.held x n then d
        else (d.writeClean x (leBytes n v.toNat)).advance k
      | .row m x =>
        match d.rowAccess k .sst 0 (d.pc k) w a m n [{ mkReq (.access 0) m .write x n 0 with data := leBytes n v.toNat }] with
        | .ok d1 => d1.advance k
        | .error r => d.trapWith k trapRefused 0 (d.pc k) r a 0
  else d

end Sys2Proof.Machine
end

