-- ==== Sys2Proof/Machine/Frame.lean ====
section
/-!
DEFINITION. Sys2Proof/Machine/Frame.lean: the frame boundary (R44): grid time, the swap of staged registers and batches (R64 to R73),
and what is counted in frames.
-/

namespace Sys2Proof.Machine

/-! ### Consistency checks of the next copies -/

/-- lo ≤ x ≤ hi. -/
def within (x lo hi : Nat) : Bool := decide (lo ≤ x) && decide (x ≤ hi)

/-- CFG_RANGE unless a condition holds. -/
def rangeIf (b : Bool) : Nat := if b then OK else CFG_RANGE

/-- Advisory levels that a zone may take (Table 13-2). -/
def advisoryOk (z c : Nat) : Bool := if z < 23 then within c 60 105 else if z = 23 then within c 40 80 else within c 60 92

/-- The mask of a zone once the next copies are in use. -/
def Dev.nextMask (d : Dev) (z : Nat) : Nat :=
  wget (match smFind d.next (TM_MASK z) with | some x => x | none => d.reg (TM_MASK z)) 31 0

/-- Sensor j of zone z would be valid under the next masks. -/
def Dev.wouldBeValid (d : Dev) (z j : Nat) : Bool := !bitAt (d.nextMask z) j && !d.flag (TM_SENS_invalid z j)

/-- R448 for one zone. -/
def Dev.maskKeeps (d : Dev) (z : Nat) : Bool :=
  let n := ((List.range (zoneSensors z)).filter fun j => d.wouldBeValid z j).length
  if !d.zoneFitted z then true
  else if z < 12 then decide (16 ≤ n)
  else if z < 16 then decide (4 ≤ n)
  else if z = 16 then decide (8 ≤ n)
  else if z < 23 then (List.range 7).all fun j => d.wouldBeValid z j || d.wouldBeValid z (j + 1)
  else if z = 23 then decide (2 ≤ n)
  else !bitAt (d.nextMask z) 0

/-- R448 for every zone. -/
def Dev.masksOk (d : Dev) : Bool := (List.range 40).all d.maskKeeps

/-- Some active plan gives a live partner of its port fewer lane-slots than a share (Table 8-14). -/
def Dev.shareTooHigh (d : Dev) (share : Nat) : Bool :=
  (List.range 6).any fun p => !d.isZb p && (d.livePartners p).any fun y =>
    decide (planGives (d.planBytes (planActive p)) (d.coordOn p) y < share)

/-- Whether a mask of actions of FT_SRC_CFG names fence port (Table 12-2). -/
def fencesPort (v : Word64) : Bool := bitAt v.toNat 50 || bitAt v.toNat 54 || bitAt v.toNat 58 || bitAt v.toNat 62

/-- The check of one register whose next copy is v. -/
def Dev.nextCheck (d : Dev) (off : Nat) (v : Word64) : Nat :=
  if isStackOff off then rangeIf (within (wget v 28 16) 64 4096 && within (wget v 3 0) 1 8)
  else if isDriftOff off then
    rangeIf (within (wget v 31 24) 15 40 && decide (5 ≤ wget v 23 16) && decide (wget v 23 16 < wget v 31 24) &&
      decide (4 ≤ wget v 15 8) && decide (wget v 15 8 < wget v 7 0) && within (wget v 7 0) 8 40)
  else if off = FB_TRANSIT then
    (if !within (wget v 7 0) 1 32 then CFG_RANGE else if d.shareTooHigh (wget v 7 0) then CFG_CONFLICT else OK)
  else if off = FB_CAGE then rangeIf (within (wget v 31 16) 64 4096 && within (wget v 15 0) 1 64)
  else if off = FT_CANARY_TIMING then rangeIf (within (wget v 31 16) 256 4096 && within (wget v 7 0) 4 32)
  else if 0x301000 ≤ off ∧ off < 0x301800 then
    (if wget v 43 12 = 0 then CFG_RANGE
     else if fencesPort v && (srcPort ((off - 0x301000) / 8)).isNone then CFG_CONFLICT else OK)
  else if off = TM_GRACE then rangeIf (decide (wget v 31 0 ≤ 4882812))
  else if off = TM_THROTTLE then rangeIf (within (wget v 27 16) 800 2200 && within (wget v 11 0) 25 400)
  else if off = TM_PWR_LIMIT then rangeIf (within (wget v 28 16) 1000 4800)
  else if 0x400400 ≤ off ∧ off < 0x400540 then
    rangeIf (within (wget v 15 8) 1 10 && advisoryOk ((off - 0x400400) / 8) (wget v 7 0))
  else if 0x400600 ≤ off ∧ off < 0x400740 then (if v ≠ d.reg off ∧ !d.masksOk then CFG_CONFLICT else OK)
  else OK

/-- The entries of a block's next copy. -/
def Dev.pendingOf (d : Dev) (b : Nat) : List (Nat × Word64) := d.next.filter fun e => blockOf e.1 == b

/-- The first failure of a block's check; OK when it passes. -/
def Dev.blockCheck (d : Dev) (b : Nat) : Nat := ((d.pendingOf b).findSome? fun e =>
  if d.nextCheck e.1 e.2 = OK then none else some (d.nextCheck e.1 e.2)).getD OK

/-! ### The swap (R64, R71) -/

/-- Forget a block's next copy: it then reads as the values in use. -/
def Dev.dropNext (d : Dev) (b : Nat) : Dev := { d with next := d.next.filter fun e => blockOf e.1 != b }

/-- The staged fields of one entry come into use. -/
def Dev.useNext (d : Dev) (e : Nat × Word64) : Dev :=
  let st := accMask (fieldsAt e.1) (·.acc == .st)
  let cur := (d.reg e.1).toNat
  d.setReg e.1 (BitVec.ofNat 64 ((cur - (cur &&& st)) + (e.2.toNat &&& st)))

/-- A changed mask shows in the sensors' registers; a sensor unmasked is judged afresh (R445). -/
def Dev.applyMask (d : Dev) (z : Nat) : Dev :=
  (List.range (zoneSensors z)).foldl (fun d j =>
    let now := bitAt (d.fld (TM_MASK_mask z)) j
    if now == d.flag (TM_SENS_masked z j) then d
    else
      let d := d.setFld (TM_SENS_masked z j) (b2n now)
      if now then d
      else (d.setFld (TM_SENS_invalid z j) 0).modTm fun t => { t with runs := smDel t.runs (z * 32 + j) }) d

/-- What follows a swap of the thermal block (R456). -/
def Dev.afterThermal (d : Dev) (es : List (Nat × Word64)) : Dev :=
  let zs := (List.range 40).filter fun z => es.any fun e => e.1 == TM_MASK z || e.1 == TM_ZONE_CFG z
  (zs.foldl (fun d z => (d.applyMask z).modZone z fun x => { x with rejudge := true }) d).sensorCause

/-- A block swaps. -/
def Dev.swapBlock (d : Dev) (b : Nat) : Dev :=
  let es := d.pendingOf b
  let d := (es.foldl Dev.useNext d).dropNext b
  if b = 4 then d.afterThermal es else d

/-- A block keeps its old values: its reason, the log of failures, and the event (R64, Table 11-9). -/
def Dev.failBlock (d : Dev) (b reason : Nat) : Dev :=
  let off := match d.pendingOf b with | e :: _ => e.1 | [] => 0
  let d := (d.dropNext b).recordReason off reason
  let d := ((d.countSat GD_SWAP_FAIL_fail_count 1).setFld GD_SWAP_FAIL_block b).setFld GD_SWAP_FAIL_reason reason
  (d.setReg GD_SWAP_FAIL_FRAME (BitVec.ofNat 64 d.frame)).event 8 b reason

/-- A block whose next copy holds a write swaps or keeps its values. -/
def Dev.swapOne (d : Dev) (b : Nat) : Dev :=
  if (d.pendingOf b).isEmpty then d
  else if d.blockCheck b = OK then d.swapBlock b
  else d.failBlock b (d.blockCheck b)

/-- The blocks that a batch touches, in order. -/
def Dev.batchBlocks (d : Dev) : List Nat :=
  (List.range 41).filter fun b => (List.range (min 64 (d.fld GD_BATCH_CTRL_count))).any fun k => blockOf (d.batchOff k) == b

/-- The batch whose boundary has come: every block it touches swaps, or none does (R71). -/
def Dev.batchEnd (d : Dev) : Dev :=
  if d.fld GD_BATCH_STATUS_state = 2 ∧ d.fld GD_BATCH_FRAME_frame ≤ d.frame then
    let bs := d.batchBlocks
    match bs.find? fun b => d.blockCheck b != OK with
    | none => (bs.foldl Dev.swapOne d).setFld GD_BATCH_STATUS_state 3
    | some b =>
      let r := d.blockCheck b
      let d := bs.foldl (fun d x => if (d.pendingOf x).isEmpty then d
        else d.failBlock x (if d.blockCheck x = OK then r else d.blockCheck x)) d
      ((d.setFld GD_BATCH_STATUS_state 4).setFld GD_BATCH_STATUS_block b).setFld GD_BATCH_STATUS_reason r
  else d

/-- Every swap of a boundary. -/
def Dev.swapAll (d : Dev) : Dev := (List.range 41).foldl Dev.swapOne d.batchEnd

/-! ### What is counted in frames -/

/-- The grid block: frames without an announce (R48, R50), of holdover (R51), of the cold start, and without an echo (R57). -/
def Dev.gridTick (d : Dev) : Dev :=
  let st := d.gridState
  { d with grid := { d.grid with
    silent := if st = 0 ∨ st = 5 then d.grid.silent else d.grid.silent + 1
    holdover := if st = 4 ∨ (st = 2 ∧ d.grid.counting) then d.grid.holdover + 1 else d.grid.holdover
    listen := if st = 1 then d.grid.listen + 1 else d.grid.listen
    partners := d.grid.partners.map fun e => (e.1, { e.2 with since := e.2.since + 1 }) } }

/-- The token buckets of the narrow paths fill: rate tokens in 64 token times of 26.04 ps, so 786432 * rate / 6400 in a frame
(R204). -/
def Dev.refill (d : Dev) (s : Nat) : Dev :=
  let top := d.fld (MC_NARROW_depth s) * 6400
  let v := d.tokens s + 786432 * d.fld (MC_NARROW_rate s)
  if top ≤ v then { d with row := { d.row with tokens := smDel d.row.tokens s } } else d.setTokens s v

/-- What lasts one frame: the cells on the glass, the transit budgets, the notices sent. -/
def Dev.newFrame (d : Dev) : Dev := { d with net := { d.net with glass := [], budget := [], noticed := [] } }

/-- FRAME_BOUNDARY.  A batch armed for this boundary is in the next copies by then (R70). -/
def execFrameBoundary (s : State) := s.act fun d =>
  if d.pw.phase ≠ .on then d
  else
    let d := if d.fld GD_BATCH_STATUS_state = 1 ∧ d.fld GD_BATCH_FRAME_frame = d.frame + 1 then d.batchStage else d
    let d := d.setReg GD_FRAME (d.reg GD_FRAME + 1)
    let d := (d.gridTick.swapAll).reanchor.newFrame
    ((List.range 16).foldl Dev.refill d).sendCancels.repeatDead.minorityTick

end Sys2Proof.Machine
end

