-- ==== Sys2Proof/Machine/Matrix.lean ====
section
/-!
DEFINITION. Sys2Proof/Machine/Matrix.lean: the engines: MCFG, MFACE, MRUN, MDRAIN and the writing of drain rows (R114 to
R133, R149, R162, R164 to R170).  Operand, face, scale and drain addresses are byte offsets in the core's own scratch.
-/

namespace Sys2Proof.Machine

/-! ### Formats as the engine reads them (Table 4-1) -/

/-- Bytes of one beat in scratch. -/
def Fmt.beatBytes (f : Fmt) : Nat := if f = .fp6 then 24 else 32

/-- Scale bytes of one beat. -/
def Fmt.beatScales (f : Fmt) : Nat := if f = .fp6 then 1 else if f.isMx then 2 else 0

/-- Elements of one beat. -/
def Fmt.beatElems (f : Fmt) : Nat := if f.bits = 4 then 64 else if f.bits = 16 then 16 else 32

/-- Element i of a beat in scratch. -/
def opCode (f : Fmt) (beat i : Nat) : Nat := digit f.bits beat i

/-- Element i of a face entry; FP6 elements stand one to a byte. -/
def faceCode (f : Fmt) (entry i : Nat) : Nat := if f = .fp6 then digit 8 entry i % 64 else digit f.bits entry i

/-- The operand, face and output formats of a configured engine. -/
def EngCfg.op (c : EngCfg) : Fmt := (fmtOf c.opFmt).getD .fp32
def EngCfg.fc (c : EngCfg) : Fmt := (fmtOf c.faceFmt).getD .fp32
def EngCfg.out (c : EngCfg) : Fmt := (fmtOf c.outFmt).getD .fp32

/-- Face entries per group of 32 reduction indices (Table 5-8). -/
def EngCfg.perGroup (c : EngCfg) : Nat :=
  let wide := c.fc.bits == 16
  if c.mode = 0 then (if wide then 2 else 1) else if c.mode = 1 then 4
  else if c.mode = 2 then (if wide then 4 else 2) else if c.mode = 3 then (if wide then 6 else 3) else 2

/-- Source bytes per lane per group of 32 reduction indices, modes 1 to 4 (Table 5-8). -/
def EngCfg.groupBytes (c : EngCfg) : Nat :=
  if c.mode = 1 then 128 else if c.mode = 4 then 64 else if c.fc.bits = 16 then 128 else 64

/-- Accumulator rows that one row of a run uses (R131, R133). -/
def EngCfg.accRows (c : EngCfg) : Nat := if 2 ≤ c.mode then 2 else 1

/-- Operand bytes that one row of K face entries reads (R167). -/
def EngCfg.rowBytes (c : EngCfg) (K : Nat) : Nat :=
  if c.mode = 0 then K * c.op.beatBytes else K / c.perGroup * c.groupBytes

/-- Beats that reach stage A for one row of K face entries, one for each pass (Table 4-10). -/
def EngCfg.rowBeats (c : EngCfg) (K : Nat) : Nat :=
  if c.mode = 0 then K
  else K / c.perGroup * (if c.mode = 1 then 6 else if c.mode = 4 then 4
    else (if c.mode = 2 then 4 else 3) * (if c.fc.bits = 16 then 2 else 1))

/-! ### One lane of one row -/

/-- What a lane sees: its face entries and their scale bytes, by entry number. -/
structure LaneFace where
  entry : Nat → Nat
  scale : Nat → Nat

/-- The products of 32 indices starting at one element of one beat. -/
def beatPairs (o f : Fmt) (beat entry h : Nat) : List (Num × Num) :=
  (List.range 32).map fun i => (decodeNum o (opCode o beat (32 * h + i)), decodeNum f (faceCode f entry (32 * h + i)))

/-- Beat k of an operand row. -/
def beatOf (o : Fmt) (row k : Nat) : Nat := digit (8 * o.beatBytes) row k

/-- The groups of a single-pass row in order (R119): products with the scale bytes of both sides (R117). -/
def rowGroups (c : EngCfg) (lf : LaneFace) (row scales K f : Nat) : List (List (Num × Num) × Nat × Nat) :=
  let o := c.op; let w := c.fc
  let os (k h : Nat) : Nat := if o.isMx then digit 8 scales (k * o.beatScales + h) else 0x7F
  let ws (k h : Nat) : Nat := if w.isMx then digit 8 (lf.scale (f + k)) h else 0x7F
  if o.beatElems = 16 then
    (List.range ((K + 1) / 2)).map fun j =>
      ((List.range (if 2 * j + 1 < K then 32 else 16)).map fun i =>
        (decodeNum o (opCode o (beatOf o row (2 * j + i / 16)) (i % 16)),
          decodeNum w (faceCode w (lf.entry (f + 2 * j + i / 16)) (i % 16))), 0x7F, 0x7F)
  else
    (List.range K).flatMap fun k =>
      (List.range (o.beatElems / 32)).map fun h => (beatPairs o w (beatOf o row k) (lf.entry (f + k)) h, os k h, ws k h)

/-- Plane p of a group whose planes take n entries each: value i of 32. -/
def planeCode (lf : LaneFace) (w base n p i : Nat) : Nat :=
  let per := 32 / n
  digit w (lf.entry (base + p * n + i / per)) (i % per)

/-- Code of a rounded sum or difference of two codes of one format, saturated (R132). -/
def gaussSum (f : Fmt) (x y : Num) : Nat := encodeNum f false none (addNum x y)

/-- The group sums of one row of one lane in order: target accumulator (0 real, 1 imaginary) and value. -/
def laneSums (c : EngCfg) (lf : LaneFace) (row scales K f : Nat) : List (Nat × Num) :=
  let w := c.fc; let n := c.fc.bits / 8
  let ix := List.range 32
  if c.mode = 0 then (rowGroups c lf row scales K f).map fun g => (0, scaleSum (groupSum g.1) g.2.1 g.2.2)
  else if c.mode = 1 then
    (List.range (K / 4)).flatMap fun j =>
      let x (i : Nat) := bf16Split (BitVec.ofNat 32 (digit 32 row (32 * j + i)))
      let hi (i : Nat) := decodeF bf16F (planeCode lf 16 (f + 4 * j) 2 0 i)
      let lo (i : Nat) := decodeF bf16F (planeCode lf 16 (f + 4 * j) 2 1 i)
      [(0, groupSum (ix.map fun i => (decodeF bf16F (x i).1, lo i))),
       (0, groupSum (ix.map fun i => (decodeF bf16F (x i).2, hi i))),
       (0, groupSum (ix.map fun i => (decodeF bf16F (x i).1, hi i)))]
  else
    (List.range (K / c.perGroup)).flatMap fun j =>
      let p (i : Nat) := decodeNum w (digit w.bits row (64 * j + 2 * i))
      let q (i : Nat) := decodeNum w (digit w.bits row (64 * j + 2 * i + 1))
      let pl (m i : Nat) := decodeNum w (planeCode lf w.bits (f + c.perGroup * j) n m i)
      if c.mode = 2 then
        [(0, groupSum (ix.map fun i => (p i, pl 0 i))), (0, negNum (groupSum (ix.map fun i => (q i, pl 1 i)))),
         (1, groupSum (ix.map fun i => (p i, pl 1 i))), (1, groupSum (ix.map fun i => (q i, pl 0 i)))]
      else
        let k1 := groupSum (ix.map fun i => (decodeNum w (gaussSum w (p i) (q i)), pl 0 i))
        [(0, k1), (1, k1), (1, groupSum (ix.map fun i => (p i, pl 1 i))),
         (0, negNum (groupSum (ix.map fun i => (q i, pl 2 i))))]

/-- The exact integer sums of one row of one lane in order (R107, R133). -/
def laneInts (c : EngCfg) (lf : LaneFace) (row K f : Nat) : List Int :=
  if c.mode = 4 then
    (List.range (K / 2)).map fun j =>
      intSum ((List.range 32).map fun i => (sext 16 (digit 16 row (32 * j + i)),
        256 * sext 8 (planeCode lf 8 (f + 2 * j) 1 0 i) + (planeCode lf 8 (f + 2 * j) 1 1 i : Int)))
  else
    (List.range K).flatMap fun k =>
      (List.range (c.op.beatElems / 32)).map fun h =>
        intSum ((List.range 32).map fun i => (sext c.op.bits (opCode c.op (beatOf c.op row k) (32 * h + i)),
          sext c.op.bits (faceCode c.fc (lf.entry (f + k)) (32 * h + i))))

/-! ### Engine state -/

def Core.accRow (c : Core) (e r : Nat) : BitVec 2048 := smGet (fun _ => 0) c.acc (e * 128 + r)
def Core.accPois (c : Core) (e r : Nat) : BitVec 64 := smGet (fun _ => 0) c.accp (e * 128 + r)
def accLane (v : BitVec 2048) (l : Nat) : Word32 := BitVec.ofNat 32 (digit 32 v.toNat l)
def accLanes (f : Nat → Word32) : BitVec 2048 := BitVec.ofNat 2048 (packN 32 64 fun l => (f l).toNat)

def Core.setAcc (c : Core) (e r : Nat) (v : BitVec 2048) (p : BitVec 64) : Core :=
  { c with acc := smPut (fun _ => (0 : BitVec 2048)) c.acc (e * 128 + r) v,
           accp := smPut (fun _ => (0 : BitVec 64)) c.accp (e * 128 + r) p,
           rchk := smClear c.rchk (accWord e r) (accWord e (r + 1)) }

def Core.faceEntry (c : Core) (e j : Nat) : BitVec 16384 := smGet (fun _ => 0) c.face (e * 128 + j)
def Core.faceScale (c : Core) (e j : Nat) : BitVec 1024 := smGet (fun _ => 0) c.faceSc (e * 128 + j)
def Core.facePois (c : Core) (e j : Nat) : BitVec 64 := smGet (fun _ => 0) c.facep (e * 128 + j)

def Core.setFace (c : Core) (e j : Nat) (v : BitVec 16384) (sc : BitVec 1024) (p : BitVec 64) : Core :=
  { c with face := smPut (fun _ => (0 : BitVec 16384)) c.face (e * 128 + j) v,
           faceSc := smPut (fun _ => (0 : BitVec 1024)) c.faceSc (e * 128 + j) sc,
           facep := smPut (fun _ => (0 : BitVec 64)) c.facep (e * 128 + j) p,
           rchk := smClear (smClear c.rchk (faceWord e j) (faceWord e (j + 1))) (faceScWord e j) (faceScWord e (j + 1)) }

/-- The face of lane l of engine e. -/
def Core.laneFace (c : Core) (e l : Nat) : LaneFace :=
  ⟨fun j => digit 256 (c.faceEntry e j).toNat l, fun j => digit 16 (c.faceScale e j).toNat l⟩

def Core.cfg (c : Core) (e : Nat) : Option EngCfg := smFind c.eng e

/-- The operand register of an engine (R114). -/
def Core.operand (c : Core) (e : Nat) : BitVec 256 := smGet (fun _ => 0) c.opreg e
def Core.setOperand (c : Core) (e v : Nat) : Core :=
  { c with opreg := smPut (fun _ => (0 : BitVec 256)) c.opreg e (BitVec.ofNat 256 v) }

/-- Engines that a matrix instruction names, ascending. -/
def maskEngines (w : Word64) : List Nat := [0, 1, 2, 3].filter fun e => wbit w (44 + e)

/-! ### Fields of MRUN, MFACE and MDRAIN (Table 5-7) -/

def mrunM (w : Word64) : Nat := wget w 43 37 + 1
def mrunK (w : Word64) : Nat := wget w 36 30 + 1
def mrunF (w : Word64) : Nat := wget w 29 23
def mrunA (w : Word64) : Nat := wget w 22 16
def mrunZero (w : Word64) : Bool := wbit w 5
def mrunClose (w : Word64) : Bool := wbit w 4
def mfaceFirst (w : Word64) : Nat := wget w 43 37
def mfaceCount (w : Word64) : Nat := wget w 36 30 + 1
def mfaceMode (w : Word64) : Nat := wget w 29 27
def mdrainFirst (w : Word64) : Nat := wget w 43 37
def mdrainCount (w : Word64) : Nat := wget w 36 30 + 1
def mdrainVec (w : Word64) : Bool := wbit w 29
def mdrainVd (w : Word64) : Nat := wget w 28 24

/-! ### Scratch as the engines read it -/

/-- Scratch is 2 MiB (R144). -/
def scratchSize : Nat := 2 ^ 21

/-- The bytes of own scratch as a little-endian number, and whether a word of them is poisoned; read after a scrub. -/
def Dev.scrNum (d : Dev) (k off n : Nat) : Nat := ofLe (d.bytesAt (scratchWindow k + off) n)
def Dev.scrBad (d : Dev) (k off n : Nat) : Bool := (d.poisonsAt (scratchWindow k + off) n).any id

/-- Read own scratch through the decoder. -/
def Dev.scrScrub (d : Dev) (k off n : Nat) : Dev := d.scrub (scratchWindow k + off) n

/-! ### What must hold when an instruction starts -/

/-- A check that fails: trap code and the address it names. -/
abbrev Check := Option (Nat × Nat)

/-- The first failing check. -/
def firstBad (l : List Check) : Check := l.findSome? id

/-- A value must be a multiple of n. -/
def needMult (n v : Nat) : Check := if v % n = 0 then none else some (trapAlign, v)

/-- A range must lie in own scratch. -/
def needIn (off n : Nat) : Check := if off + n ≤ scratchSize then none else some (trapAddr, off)

/-- A condition whose failure is an illegal encoding. -/
def needLegal (b : Bool) : Check := if b then none else some (trapIllegal, 0)

/-- Drained bytes of a row of 64 lanes. -/
def EngCfg.drainBytes (c : EngCfg) : Nat := 64 * (c.out.bits / 8)

/-- The rows that a run or drain of n accumulator rows from row r hands to the drain: INT16 rows go in pairs (R133). -/
def EngCfg.drainRows (c : EngCfg) (r n : Nat) : List Nat :=
  if c.mode = 4 then (List.range ((n + 1) / 2)).map fun i => r + 2 * i else (List.range n).map (r + ·)

/-- Where a drain writes row r: drain base + r * drain stride + rank * 64 * width (R170). -/
def EngCfg.drainAt (c : EngCfg) (r rank : Nat) : Nat := c.drainBase + r * c.drainStride + rank * c.drainBytes

/-- Checks of a drain to scratch. -/
def drainChecks (c : EngCfg) (r n rank : Nat) : List Check :=
  [needMult 32 c.drainBase, needMult 32 c.drainStride] ++
    (c.drainRows r n).map fun x => needIn (c.drainAt x rank) c.drainBytes

/-- Checks of MRUN on one engine (R118, R162, R168). -/
def mrunChecks (w sa sb rank : Nat) (word : Word64) (c : EngCfg) : List Check :=
  let M := mrunM word; let K := mrunK word; let f := mrunF word; let a := mrunA word
  let mx := c.mode == 0 && c.op.isMx
  [needLegal (decide (f + K ≤ 128) && decide (a + M * c.accRows ≤ 128)),
   needLegal (c.mode == 0 || (K % c.perGroup == 0 && f % c.perGroup == 0)),
   needLegal (decide (c.mode < 2) || decide (M ≤ 64)),
   needMult (if mx then 64 else 32) sa, needMult (if c.mode = 0 ∧ c.op = .fp6 then 24 else 32) c.opStride] ++
  (if mx then [needMult 64 sb] else []) ++
  [needIn sa (w * c.opStride + c.rowBytes K)] ++
  (if mx then [needIn sb (w * c.scStride + K * c.op.beatScales)] else []) ++
  (if mrunClose word then drainChecks c a (M * c.accRows) rank else [])

/-- Bytes of the source of one engine of MFACE (R169). -/
def EngCfg.faceSource (c : EngCfg) (count : Nat) : Nat :=
  if c.mode = 0 then count * 2048 + (if c.fc.isMx then count * 128 else 0)
  else count / c.perGroup * c.groupBytes * 64

/-- Checks of MFACE on one engine. -/
def mfaceChecks (src : Nat) (word : Word64) (c : EngCfg) : List Check :=
  let n := mfaceCount word
  [needLegal (decide (mfaceFirst word + n ≤ 128) && n % c.perGroup == 0 && mfaceMode word == c.mode),
   needMult 32 src, needIn src (c.faceSource n)]

/-- Checks of MDRAIN on one engine (R170). -/
def mdrainChecks (rank : Nat) (word : Word64) (c : EngCfg) : List Check :=
  needLegal (decide (mdrainFirst word + mdrainCount word ≤ 128)) ::
  (if mdrainVec word then [] else drainChecks c (mdrainFirst word) (mdrainCount word) rank)

/-- Every check of an instruction: each named engine configured (R166), then the checks of each by rank. -/
def Core.checks (c : Core) (word : Word64) (f : Nat → Nat → EngCfg → List Check) : Check :=
  let es := maskEngines word
  firstBad ((es.map fun e => needLegal (c.cfg e).isSome) ++
    (es.zipIdx.flatMap fun x => match c.cfg x.1 with | some g => f x.1 x.2 g | none => []))

/-- The source of a named engine of MFACE: ssrc + rank * S, S the size of the engine's own source (R169). -/
def EngCfg.faceSrc (g : EngCfg) (word : Word64) (ssrc rank : Nat) : Nat := ssrc + rank * g.faceSource (mfaceCount word)

/-- What stops a matrix instruction when it starts. -/
def Core.matrixCheck (c : Core) (e : QEntry) : Check :=
  let w := e.word
  match opc w with
  | 0 => c.checks w fun _ rank g => mrunChecks (mrunM w - 1) (e.val 0).toNat (e.val 1).toNat rank w g
  | 2 => c.checks w fun _ rank g => mfaceChecks (g.faceSrc w (e.val 0).toNat rank) w g
  | 3 => c.checks w fun _ rank g => mdrainChecks rank w g
  | _ => none

/-! ### Order within the engines -/

def sharesEngine (a b : Word64) : Bool := (wget a 47 44 &&& wget b 47 44) != 0

/-- Matrix entries before an entry. -/
def before (l : List QEntry) (uid : Nat) : List QEntry := l.takeWhile (·.uid != uid)

/-- Halves of the face that entries from first to first + n - 1 touch. -/
def halvesOf (first n : Nat) : List Nat := [0, 1].filter fun h => decide (first < 64 * (h + 1)) && decide (64 * h < first + n)

/-- A run and a face load that touch different halves of the face (R122). -/
def halvesApart (run load : Word64) : Bool :=
  opc run == 0 && opc load == 2 &&
  !(halvesOf (mrunF run) (mrunK run)).any (halvesOf (mfaceFirst load) (mfaceCount load)).contains

/-- Whether an earlier unfinished entry keeps a later one waiting: its engines run in order, but a face load into one half and a run
that reads only the other go on at the same time (R122). -/
def blocks (earlier later : QEntry) : Bool :=
  sharesEngine earlier.word later.word && !earlier.finished &&
  !halvesApart earlier.word later.word && !halvesApart later.word earlier.word

/-- The scratch ranges that a run or a face load reads. -/
def Core.readRanges (c : Core) (e : QEntry) : List (Nat × Nat) :=
  let w := e.word
  (maskEngines w).zipIdx.flatMap fun x => match c.cfg x.1 with
    | none => []
    | some g =>
      if opc w = 0 then
        [((e.val 0).toNat, (mrunM w - 1) * g.opStride + g.rowBytes (mrunK w)),
         ((e.val 1).toNat, if g.op.isMx then (mrunM w - 1) * g.scStride + mrunK w * g.op.beatScales else 0)]
      else if opc w = 2 then [(g.faceSrc w (e.val 0).toNat x.2, g.faceSource (mfaceCount w))]
      else []

/-- The scratch ranges that a closing run or a drain writes. -/
def Core.writeRanges (c : Core) (e : QEntry) : List (Nat × Nat) :=
  let w := e.word
  let rows (g : EngCfg) : List Nat :=
    if opc w = 0 ∧ mrunClose w then g.drainRows (mrunA w) (mrunM w * g.accRows)
    else if opc w = 3 ∧ !mdrainVec w then g.drainRows (mdrainFirst w) (mdrainCount w) else []
  (maskEngines w).zipIdx.flatMap fun x => match c.cfg x.1 with
    | some g => (rows g).map fun r => (g.drainAt r x.2, g.drainBytes)
    | none => []

/-- Whether two lists of ranges meet. -/
def rangesMeet (a b : List (Nat × Nat)) : Bool :=
  a.any fun x => b.any fun y => decide (x.1 < y.1 + y.2) && decide (y.1 < x.1 + x.2)

/-- Whether an earlier instruction still has to write where this entry reads (R160). -/
def Core.awaitsDrain (c : Core) (e : QEntry) : Bool :=
  (before c.mq e.uid).any fun x =>
    !(x.finished && !(c.drains.any (·.uid == x.uid))) && rangesMeet (c.writeRanges x) (c.readRanges e)

/-- Whether an earlier instruction still has to read or write where a drained row goes (R160). -/
def Core.drainWaits (c : Core) (k : Nat) (r : DrainRow) : Bool :=
  let at' := [(r.addr - scratchWindow k, r.bytes.length)]
  (before c.mq r.uid).any fun x =>
    (!x.finished && rangesMeet (c.readRanges x) at') ||
    (!(x.finished && !(c.drains.any (·.uid == x.uid))) && rangesMeet (c.writeRanges x) at')

/-- Whether a started entry may work now. -/
def Core.mayWork (c : Core) (e : QEntry) : Bool :=
  e.started && !e.finished && !(before c.mq e.uid).any (blocks · e) && !c.awaitsDrain e

/-- Whether every named engine accepts one more instruction; MCFG starts only when every earlier one is complete (R165). -/
def Core.accepts (c : Core) (e : QEntry) : Bool :=
  let es := maskEngines e.word
  if opc e.word = 1 then !(before c.mq e.uid).any (fun x => sharesEngine x.word e.word)
  else es.all fun x => decide ((c.mq.filter fun y => y.started && wbit y.word (44 + x)).length < 4)

/-! ### Drains -/

/-- Free entries of an engine's drain buffer of 8 (R123). -/
def Core.drainFree (c : Core) (e : Nat) : Nat := 8 - (c.drains.filter (·.engine == e)).length

/-- The value of lane l of an accumulator row as the drain converts it (R106, R133). -/
def Core.accNum (c : Core) (g : EngCfg) (e r l : Nat) : Num :=
  let v := accLane (c.accRow e r) l
  if g.mode = 4 then numOfInt (sext 64 (v.toNat + (accLane (c.accRow e (r + 1)) l).toNat * 2 ^ 32))
  else if intAcc g.mode g.op then numOfInt v.toInt else fpRead v

/-- A row converted for scratch; with rnd set each lane steps its stream (R98). -/
def Core.drainRow (c : Core) (k : Nat) (g : EngCfg) (e rank r : Nat) (q : QEntry) : Core :=
  let n := g.out.bits / 8
  let draw (l : Nat) : Option Nat := if g.rnd then some (streamDraw (streamStep (c.stream (e * 64 + l)))) else none
  let bytes := (List.range 64).flatMap fun l => leBytes n (encodeNum g.out g.ovf (draw l) (c.accNum g e r l))
  let bad := (c.accPois e r ||| (if g.mode = 4 then c.accPois e (r + 1) else 0)) != 0
  let c1 := { c with drains := c.drains ++ [⟨e, q.uid, q.pc, scratchWindow k + g.drainAt r rank, bytes, bad⟩] }
  if g.rnd then (List.range 64).foldl (fun c l => c.setStream (e * 64 + l) (streamStep (c.stream (e * 64 + l)))) c1 else c1

/-- Read accumulator rows r to r + n - 1 of engine e through their decoder (R148). -/
def Dev.accRead (d : Dev) (k e r n : Nat) : Dev :=
  d.readRegs k fun i => decide (accWord e r ≤ i) && decide (i < accWord e (r + n))

/-- Hand accumulator row r of engine e to its drain buffer. -/
def Dev.drainRow (d : Dev) (k : Nat) (g : EngCfg) (e rank r : Nat) (q : QEntry) : Dev :=
  (d.accRead k e r (if g.mode = 4 then 2 else 1)).modCore k fun c => c.drainRow k g e rank r q

/-- How far an entry has come on an engine: rows handed over by a drain; by a run twice the rows issued, and one more where the earlier
beats of the next row are issued and its closing beat is held. -/
def QEntry.done (q : QEntry) (e : Nat) : Nat := smGet (fun _ => 0) q.progress e

/-- How far an entry has come on every engine, and whether that is as far as it goes. -/
def Dev.setProgress (d : Dev) (k : Nat) (q : QEntry) (total : Nat → Nat) (at' : List (Nat × Nat)) : Dev :=
  d.modEntry k 1 q.uid fun x => { x with
    progress := at'.foldl (fun m p => smPut (fun _ => 0) m p.1 p.2) x.progress,
    finished := at'.all fun p => decide (total p.1 ≤ p.2) }

/-! ### MRUN -/

/-- A counter of cycles rises by a free number of them, below 2^32 (R126, R128). -/
def Dev.countFree (d : Dev) (f : Fld) : Dev := (d.countWrap f ((d.freeAt 0).toNat % 2 ^ 32)).draw 1

/-- Which beats of a row are issued: all, those before the closing beat, or the closing beat (R128). -/
inductive RowPart where
  | whole | early | late
  deriving DecidableEq, Repr

/-- Bytes that the closing beat of a row reads. -/
def EngCfg.lastBytes (g : EngCfg) : Nat := if g.mode = 0 then g.op.beatBytes else 64

/-- Offset and length of what a part of a row of K entries reads, in the row of n bytes whose closing beat takes the last m; the earlier
passes of the multi-pass modes read every byte. -/
def RowPart.span (p : RowPart) (multi : Bool) (n m : Nat) : Nat × Nat :=
  match p with
  | .whole => (0, n)
  | .early => (0, if multi then n else n - m)
  | .late => (n - m, m)

/-- The face entries that a part of a row uses, counted from the first. -/
def RowPart.entries (p : RowPart) (multi : Bool) (K : Nat) : List Nat :=
  match p with
  | .whole => List.range K
  | .early => List.range (if multi then K else K - 1)
  | .late => if multi then List.range K else [K - 1]

/-- The group sums of a part of a row: those of the closing beat are the last n. -/
def RowPart.take {α : Type} (p : RowPart) (n : Nat) (l : List α) : List α :=
  match p with
  | .whole => l
  | .early => l.take (l.length - n)
  | .late => l.drop (l.length - n)

/-- Group sums of the closing beat (R119). -/
def EngCfg.lastGroups (g : EngCfg) : Nat := if g.mode = 0 ∧ g.op.beatElems = 64 then 2 else 1

/-- Whether the last pass of a group takes two beats, of 16 values each. -/
def EngCfg.wideBeat (g : EngCfg) : Bool := g.mode == 1 || g.fc.bits == 16

/-- Code of operand value i of the last group of a row of K entries, in its last pass (or the pass before it): the high part (R129), the
imaginary part (the real part) (R131, R132), the high byte (R133). -/
def EngCfg.lastCode (g : EngCfg) (row K i : Nat) (last : Bool) : Nat :=
  let j := K / g.perGroup - 1
  if g.mode = 1 then (bf16Split (BitVec.ofNat 32 (digit 32 row (32 * j + i)))).1
  else if g.mode = 4 then digit 16 row (32 * j + i) / 256
  else digit g.fc.bits row (64 * j + 2 * i + b2n last)

/-- The operand register once a row of K entries has been broadcast but for its last back beats (back 0 or 1). -/
def EngCfg.beatReg (g : EngCfg) (row K back : Nat) : Nat :=
  if g.mode = 0 then
    let b := beatOf g.op row (K - 1 - back)
    if g.op = .fp6 then packN 8 32 fun i => digit 6 b i else b
  else if g.wideBeat then packN 16 16 fun i => g.lastCode row K (16 * (1 - back) + i) true
  else packN 8 32 fun i => g.lastCode row K i (back == 0)

/-- The values of the operand register put where a row of K entries holds the first beat of its last group, when the closing beat is
the second of that group. -/
def EngCfg.heldBeat (g : EngCfg) (reg K : Nat) : Nat :=
  let v (i : Nat) := digit 16 reg i
  let j := K / g.perGroup - 1
  if g.mode = 0 then (if g.op.beatElems = 16 ∧ K % 2 = 0 then reg * 2 ^ (256 * (K - 2)) else 0)
  else if g.mode = 1 then packN 32 16 (fun i => v i * 2 ^ 16) * 2 ^ (1024 * j)
  else if g.mode = 4 ∨ g.fc.bits ≠ 16 then 0
  else packN 32 16 (fun i => v i * 2 ^ 16) * 2 ^ (1024 * j)

/-- The pair of accumulators of a lane after a part of one row (the second is 0 where a row uses one). -/
def lanePart (c : EngCfg) (p : RowPart) (lf : LaneFace) (row scales K f : Nat) (a0 a1 : Word32) : Word32 × Word32 :=
  if c.mode = 4 then
    let v := (p.take 1 (laneInts c lf row K f)).foldl
      (fun a i => wget (BitVec.ofNat 64 (narrowInt 64 c.ovf (sext 64 a + i))) 63 0) (a0.toNat + a1.toNat * 2 ^ 32)
    (BitVec.ofNat 32 v, BitVec.ofNat 32 (v / 2 ^ 32))
  else if intAcc c.mode c.op then
    ((p.take c.lastGroups (laneInts c lf row K f)).foldl (fun a i => BitVec.ofNat 32 (narrowInt 32 c.ovf (a.toInt + i))) a0, a1)
  else
    (p.take c.lastGroups (laneSums c lf row scales K f)).foldl
      (fun a g => if g.1 = 0 then (accAdd a.1 g.2, a.2) else (a.1, accAdd a.2 g.2)) (a0, a1)

/-- The device once part p of row m of a run on engine e has read its operands, scales, face entries and accumulators through their
decoders. -/
def Dev.rowRead (d : Dev) (k e : Nat) (g : EngCfg) (q : QEntry) (m : Nat) (p : RowPart) : Dev :=
  let w := q.word
  let K := mrunK w; let f := mrunF w; let r := mrunA w + m * g.accRows
  let mx := g.mode == 0 && g.op.isMx
  let os := p.span (g.mode != 0) (g.rowBytes K) g.lastBytes
  let ss := p.span false (if mx then K * g.op.beatScales else 0) (if mx then g.op.beatScales else 0)
  let es := p.entries (g.mode != 0) K
  let d := (d.scrScrub k ((q.val 0).toNat + m * g.opStride + os.1) os.2).scrScrub k ((q.val 1).toNat + m * g.scStride + ss.1) ss.2
  d.readRegs k fun i =>
    (!(mrunZero w && p != .late) && decide (accWord e r ≤ i) && decide (i < accWord e (r + g.accRows))) ||
    es.any fun j => (decide (faceWord e (f + j) ≤ i) && decide (i < faceWord e (f + j + 1))) ||
      (decide (faceScWord e (f + j) ≤ i) && decide (i < faceScWord e (f + j + 1)))

/-- Part p of row m of a run on engine e: every lane accumulated, poison carried (R149), beats and bubbles counted (R126). -/
def Dev.runRow (d : Dev) (k e : Nat) (g : EngCfg) (q : QEntry) (m : Nat) (p : RowPart) : Dev :=
  let w := q.word
  let K := mrunK w; let f := mrunF w; let r := mrunA w + m * g.accRows
  let mx := g.mode == 0 && g.op.isMx
  let os := p.span (g.mode != 0) (g.rowBytes K) g.lastBytes
  let ss := p.span false (if mx then K * g.op.beatScales else 0) (if mx then g.op.beatScales else 0)
  let oa := (q.val 0).toNat + m * g.opStride + os.1
  let sb := (q.val 1).toNat + m * g.scStride + ss.1
  let d := d.rowRead k e g q m p
  let c := d.core k
  let row := d.scrNum k oa os.2 * 2 ^ (8 * os.1) + (if p = .late then g.heldBeat (c.operand e).toNat K else 0)
  let sc := d.scrNum k sb ss.2 * 2 ^ (8 * ss.1)
  let bad := d.scrBad k oa os.2 || d.scrBad k sb ss.2
  let z := mrunZero w && p != .late
  let a0 := if z then 0 else c.accRow e r
  let a1 := if z then 0 else c.accRow e (r + 1)
  let faceBad := (p.entries (g.mode != 0) K).foldl (fun b j => b ||| c.facePois e (f + j)) (0 : BitVec 64)
  let pois (old : BitVec 64) : BitVec 64 :=
    (if z then 0 else old) ||| faceBad ||| (if bad then BitVec.allOnes 64 else 0)
  let out (l : Nat) := lanePart g p (c.laneFace e l) row sc K f (accLane a0 l) (accLane a1 l)
  let c1 := c.setAcc e r (accLanes fun l => (out l).1) (pois (c.accPois e r))
  let c2 := if g.accRows = 2 then c1.setAcc e (r + 1) (accLanes fun l => (out l).2) (pois (c.accPois e (r + 1))) else c1
  let n := g.rowBeats K
  ((d.setCore k (c2.setOperand e (g.beatReg row K (b2n (p == .early))))).countWrap (SQ_ENG_VALID_count k e)
    (match p with | .whole => n | .early => n - 1 | .late => 1)).countFree (SQ_ENG_BUBBLE_count k e)

/-- Free drain entries that the closing beat of a row reserves. -/
def EngCfg.closeNeeds (g : EngCfg) : Nat := if g.mode = 2 ∨ g.mode = 3 then 2 else 1

/-- Whether the closing beat of a row of engine e may be issued (R128). -/
def Core.rowFits (c : Core) (w : Word64) (g : EngCfg) (e : Nat) : Bool := !mrunClose w || decide (g.closeNeeds ≤ c.drainFree e)

/-- Row m on one engine to its end, then its drain when close is set. -/
def Dev.endRow (d : Dev) (k e rank : Nat) (g : EngCfg) (q : QEntry) (m : Nat) (p : RowPart) : Dev :=
  let d := d.runRow k e g q m p
  if mrunClose q.word then
    (g.drainRows (mrunA q.word + m * g.accRows) g.accRows).foldl (fun d r => d.drainRow k g e rank r q) d
  else d

/-- Issue up to n rows on one engine, from where it stands: twice the row, and one more where the earlier beats of the row are issued.
Where the drain buffer has no room, the beats before the closing beat are issued and the rest is held; answer where it stands. -/
def Dev.runRows (d : Dev) (k e rank : Nat) (g : EngCfg) (q : QEntry) (u : Nat) : Nat → Dev × Nat
  | 0 => (d, u)
  | n + 1 =>
    let m := u / 2
    if (d.core k).rowFits q.word g e then
      (d.endRow k e rank g q m (if u % 2 = 0 then .whole else .late)).runRows k e rank g q (2 * (m + 1)) n
    else
      let early := u % 2 == 0 && decide (1 < g.rowBeats (mrunK q.word))
      let d := if early then d.runRow k e g q m .early else d
      (d.countFree (SQ_ENG_HOLD_count k e), if early then u + 1 else u)

/-- A run on every engine it names, each going as far as its own drain buffer lets it. -/
def Dev.workRun (d : Dev) (k : Nat) (q : QEntry) : Dev :=
  let M := mrunM q.word
  let r := (maskEngines q.word).zipIdx.foldl (fun (a : Dev × List (Nat × Nat)) x => match (a.1.core k).cfg x.1 with
    | some g =>
      let t := a.1.runRows k x.1 x.2 g q (q.done x.1) (M - q.done x.1 / 2)
      (t.1, a.2 ++ [(x.1, t.2)])
    | none => a) (d, [])
  r.1.setProgress k q (fun _ => 2 * M) r.2

/-! ### MDRAIN -/

/-- Hand over up to n rows of one engine from row i, as long as its drain buffer takes them. -/
def Dev.drainMany (d : Dev) (k e rank : Nat) (g : EngCfg) (q : QEntry) (i : Nat) : Nat → Dev × Nat
  | 0 => (d, i)
  | n + 1 =>
    match (g.drainRows (mdrainFirst q.word) (mdrainCount q.word))[i]? with
    | some r => if 1 ≤ (d.core k).drainFree e then (d.drainRow k g e rank r q).drainMany k e rank g q (i + 1) n else (d, i)
    | none => (d, i)

/-- A drain into a vector register: no conversion, poisoned accumulators mark their lanes, no trap (R124, R149). -/
def Core.drainVector (c : Core) (w : Word64) : Core :=
  let r := mdrainFirst w
  c.putLanes (mdrainVd w) (ofBits fun l => (maskEngines w).contains (l / 64)) (fun l => accLane (c.accRow (l / 64) r) (l % 64))
    (ofBits fun l => bitAt (c.accPois (l / 64) r).toNat (l % 64))

/-- Work on a started drain: every engine hands over rows as long as its own drain buffer takes them. -/
def Dev.workDrain (d : Dev) (k : Nat) (q : QEntry) : Dev :=
  if mdrainVec q.word then
    (((maskEngines q.word).foldl (fun d e => d.accRead k e (mdrainFirst q.word) 1) d).modCore k fun c =>
      c.drainVector q.word).finishEntry k 1 q.uid
  else
    let total (e : Nat) : Nat := match (d.core k).cfg e with
      | some g => (g.drainRows (mdrainFirst q.word) (mdrainCount q.word)).length
      | none => 0
    let r := (maskEngines q.word).zipIdx.foldl (fun (a : Dev × List (Nat × Nat)) x => match (a.1.core k).cfg x.1 with
      | some g =>
        let t := a.1.drainMany k x.1 x.2 g q (q.done x.1) (total x.1 - q.done x.1)
        (t.1, a.2 ++ [(x.1, t.2)])
      | none => a) (d, [])
    r.1.setProgress k q total r.2

/-! ### MFACE -/

/-- One face entry of a lane from FP6 slots: six bits to a byte. -/
def widenFp6 (slot : Nat) : Nat := packN 8 32 fun i => digit 6 slot i

/-- Value i of 32 from a lane's group source. -/
def facePlane (g : EngCfg) (src p i : Nat) : Nat :=
  let w := g.fc
  if g.mode = 1 then
    let s := bf16Split (BitVec.ofNat 32 (digit 32 src i))
    if p = 0 then s.1 else s.2
  else if g.mode = 4 then
    let x := digit 16 src i
    if p = 0 then x / 256 else x % 256
  else
    let c := digit w.bits src (2 * i); let dd := digit w.bits src (2 * i + 1)
    if g.mode = 2 then (if p = 0 then c else dd)
    else if p = 0 then c
    else if p = 1 then gaussSum w (decodeNum w dd) (negNum (decodeNum w c))
    else gaussSum w (decodeNum w c) (decodeNum w dd)

/-- Entry j (counted from the first) of a lane in the multi-pass modes: plane after plane of each group. -/
def faceSplit (g : EngCfg) (src : Nat → Nat) (j : Nat) : Nat :=
  let w := if g.mode = 4 then 8 else if g.mode = 1 then 16 else g.fc.bits
  let n := w / 8; let per := 32 / n
  let t := j % g.perGroup
  packN w per fun i => facePlane g (src (j / g.perGroup)) (t / n) (t % n * per + i)

/-- Load the face of one engine from its source offset (R169). -/
def Dev.loadFace (d : Dev) (k e : Nat) (g : EngCfg) (word : Word64) (src : Nat) : Dev :=
  let n := mfaceCount word
  let d := d.scrScrub k src (g.faceSource n)
  let entry (j : Nat) : BitVec 16384 × BitVec 64 :=
    if g.mode = 0 then
      let at' (l : Nat) := src + (64 * j + l) * 32
      let used := g.fc.beatBytes
      (BitVec.ofNat 16384 (packN 256 64 fun l =>
          if g.fc = .fp6 then widenFp6 (d.scrNum k (at' l) 24) else d.scrNum k (at' l) 32),
        BitVec.ofNat 64 (packN 1 64 fun l => b2n (d.scrBad k (at' l) used)))
    else
      let at' (l gr : Nat) := src + (64 * gr + l) * g.groupBytes
      (BitVec.ofNat 16384 (packN 256 64 fun l => faceSplit g (fun gr => d.scrNum k (at' l gr) g.groupBytes) j),
        BitVec.ofNat 64 (packN 1 64 fun l => b2n (d.scrBad k (at' l (j / g.perGroup)) g.groupBytes)))
  let scale (j : Nat) : BitVec 1024 × BitVec 64 :=
    if g.mode = 0 ∧ g.fc.isMx then
      let at' (l : Nat) := src + n * 2048 + (64 * j + l) * 2
      (BitVec.ofNat 1024 (packN 16 64 fun l => d.scrNum k (at' l) 2),
        BitVec.ofNat 64 (packN 1 64 fun l => b2n (d.scrBad k (at' l) 2)))
    else (BitVec.ofNat 1024 (packN 16 64 fun _ => 0x7F7F), 0)
  d.modCore k fun c => (List.range n).foldl (fun c j =>
    c.setFace e (mfaceFirst word + j) (entry j).1 (scale j).1 ((entry j).2 ||| (scale j).2)) c

/-- Work on a started face load. -/
def Dev.workFace (d : Dev) (k : Nat) (q : QEntry) : Dev :=
  let c := d.core k
  let d := (maskEngines q.word).zipIdx.foldl (fun d x => match c.cfg x.1 with
    | some g => d.loadFace k x.1 g q.word (g.faceSrc q.word (q.val 0).toNat x.2)
    | none => d) d
  d.finishEntry k 1 q.uid

/-! ### MCFG -/

/-- The configuration that MCFG gives (Table 5-7, R165). -/
def cfgOf (q : QEntry) : EngCfg :=
  let w := q.word; let ss := (q.val 0); let sd := (q.val 1)
  { opFmt := wget w 43 40, faceFmt := wget w 39 36, mode := wget w 35 33, outFmt := wget w 32 29, ovf := wbit w 28,
    rnd := wbit w 27, opStride := wget ss 20 0, scStride := wget ss 52 32, drainBase := wget sd 20 0,
    drainStride := wget sd 52 32 }

/-- Put a configuration in an engine. -/
def smSetCfg (m : List (Nat × EngCfg)) (e : Nat) (g : EngCfg) : List (Nat × EngCfg) :=
  match m with
  | [] => [(e, g)]
  | (a, h) :: t => if e < a then (e, g) :: (a, h) :: t else if e = a then (e, g) :: t else (a, h) :: smSetCfg t e g

def Dev.workCfg (d : Dev) (k : Nat) (q : QEntry) : Dev :=
  (d.modCore k fun c => { c with eng := (maskEngines q.word).foldl (fun m e => smSetCfg m e (cfgOf q)) c.eng }).finishEntry
    k 1 q.uid

/-! ### Starting and working -/

/-- The first started entry of this operation that may work now. -/
def Core.working (c : Core) (op : Nat) : Option QEntry := c.mq.find? fun e => opc e.word == op && c.mayWork e

/-- Start the head of the matrix queue: a failing check traps and the entry has done its work (R162, R166). -/
def Dev.startMatrix (d : Dev) (k : Nat) (e : QEntry) : Dev :=
  let d := d.startEntry k 1 e
  match (d.core k).matrixCheck e with
  | some (code, a) =>
    (d.trap k code 1 e.pc (if code = trapIllegal then 0 else scratchWindow k + a)).finishEntry k 1 e.uid
  | none => d

/-- A step of the matrix queue for operation op: work on a started entry that may go on, or start the head. -/
def Dev.matrixStep (d : Dev) (k op : Nat) (work : Dev → Nat → QEntry → Dev) : Dev :=
  if 960 ≤ k then d
  else match (d.core k).working op with
    | some q => work d k q
    | none => match (d.core k).headOf 1 with
      | some e =>
        if opc e.word = op ∧ d.semReady k 1 e ∧ (d.core k).accepts e then
          let d := d.startMatrix k e
          match (d.core k).working op with
          | some q => if q.uid = e.uid then work d k q else d
          | none => d
        else d
      | none => d

def execMrun (k : Nat) (s : State) := s.act fun d => d.matrixStep k 0 Dev.workRun
def execMcfg (k : Nat) (s : State) := s.act fun d => d.matrixStep k 1 Dev.workCfg
def execMface (k : Nat) (s : State) := s.act fun d => d.matrixStep k 2 Dev.workFace
def execMdrain (k : Nat) (s : State) := s.act fun d => d.matrixStep k 3 Dev.workDrain

/-- The oldest row of an engine's drain buffer is written to core scratch and its entry released, once no earlier instruction has still to
read or write there (R160); a poisoned row is marked poisoned and takes the poisoned-data trap (R128, R149). -/
def execDrainRowWrite (k e : Nat) (s : State) := s.act fun d =>
  match (d.core k).drains.find? (·.engine == e) with
  | some r =>
    if (d.core k).drainWaits k r then d
    else
    let d := d.modCore k fun c => { c with drains := c.drains.erase r }
    let d := d.write r.addr r.bytes fun _ => r.poison
    if r.poison then d.trap k trapPoison 1 r.pc r.addr else d
  | none => d

end Sys2Proof.Machine
end

