-- ==== Sys2Proof/Machine/Dispatch.lean ====
section
/-!
DEFINITION. Sys2Proof/Machine/Dispatch.lean: the one match from a command to its meaning.
-/

namespace Sys2Proof.Machine

/-- A command's effect on everything but the queue. -/
def exec (i : Instr) (s : State) : Host.Outcome State Fault Refusal :=
  match i with
  | .registerWrite addr size value => Sys2Proof.Machine.execRegisterWrite addr size value s
  | .rcRead addr size => Sys2Proof.Machine.execRcRead addr size s
  | .moduleReset => Sys2Proof.Machine.execModuleReset s
  | .pwrEnAssert mainMv auxMv standbyMv => Sys2Proof.Machine.execPwrEnAssert mainMv auxMv standbyMv s
  | .railStepDone => Sys2Proof.Machine.execRailStepDone s
  | .railTimeout rail => Sys2Proof.Machine.execRailTimeout rail s
  | .pwrEnDeassert => Sys2Proof.Machine.execPwrEnDeassert s
  | .railDischargeStep => Sys2Proof.Machine.execRailDischargeStep s
  | .bootStart => Sys2Proof.Machine.execBootStart s
  | .bootStageEnd report => Sys2Proof.Machine.execBootStageEnd report s
  | .sorarnWatchdog mgmtCore => Sys2Proof.Machine.execSorarnWatchdog mgmtCore s
  | .hostInterfaceReset cause => Sys2Proof.Machine.execHostInterfaceReset cause s
  | .pcieLinkTrained gen width => Sys2Proof.Machine.execPcieLinkTrained gen width s
  | .bar2Read offset len => Sys2Proof.Machine.execBar2Read offset len s
  | .bar2Write offset data ep => Sys2Proof.Machine.execBar2Write offset data ep s
  | .sqTailDoorbell q size value hostStores => Sys2Proof.Machine.execSqTailDoorbell q size value hostStores s
  | .cqHeadDoorbell q size value => Sys2Proof.Machine.execCqHeadDoorbell q size value s
  | .commandBegin q => Sys2Proof.Machine.execCommandBegin q s
  | .atFrameBegin cmd => Sys2Proof.Machine.execAtFrameBegin cmd s
  | .completionPost q => Sys2Proof.Machine.execCompletionPost q s
  | .nop cmd => Sys2Proof.Machine.execNop cmd s
  | .legendRead cmd => Sys2Proof.Machine.execLegendRead cmd s
  | .qpCreate cmd => Sys2Proof.Machine.execQpCreate cmd s
  | .qpDelete cmd => Sys2Proof.Machine.execQpDelete cmd s
  | .reset cmd => Sys2Proof.Machine.execReset cmd s
  | .moduleResetDelayed => Sys2Proof.Machine.execModuleResetDelayed s
  | .memoryInitDone die cluster core => Sys2Proof.Machine.execMemoryInitDone die cluster core s
  | .seamInitDone die => Sys2Proof.Machine.execSeamInitDone die s
  | .regWrite cmd => Sys2Proof.Machine.execRegWrite cmd s
  | .awaitEvent cmd => Sys2Proof.Machine.execAwaitEvent cmd s
  | .copy cmd => Sys2Proof.Machine.execCopy cmd s
  | .fill cmd => Sys2Proof.Machine.execFill cmd s
  | .assay cmd => Sys2Proof.Machine.execAssay cmd s
  | .assayComplete cmd => Sys2Proof.Machine.execAssayComplete cmd s
  | .assayStop cmd => Sys2Proof.Machine.execAssayStop cmd s
  | .launch cmd => Sys2Proof.Machine.execLaunch cmd s
  | .launchComplete cmd => Sys2Proof.Machine.execLaunchComplete cmd s
  | .stop cmd => Sys2Proof.Machine.execStop cmd s
  | .spareSwap cmd => Sys2Proof.Machine.execSpareSwap cmd s
  | .bist cmd pass => Sys2Proof.Machine.execBist cmd pass s
  | .offline cmd => Sys2Proof.Machine.execOffline cmd s
  | .online cmd failedCores pass => Sys2Proof.Machine.execOnline cmd failedCores pass s
  | .mapLoad cmd => Sys2Proof.Machine.execMapLoad cmd s
  | .mapSwitch => Sys2Proof.Machine.execMapSwitch s
  | .evict cmd => Sys2Proof.Machine.execEvict cmd s
  | .readmit cmd => Sys2Proof.Machine.execReadmit cmd s
  | .routeQuery cmd => Sys2Proof.Machine.execRouteQuery cmd s
  | .collStart cmd => Sys2Proof.Machine.execCollStart cmd s
  | .collCancel cmd => Sys2Proof.Machine.execCollCancel cmd s
  | .digestCompare cmd => Sys2Proof.Machine.execDigestCompare cmd s
  | .faultClear cmd => Sys2Proof.Machine.execFaultClear cmd s
  | .faultLogRead cmd => Sys2Proof.Machine.execFaultLogRead cmd s
  | .telemetryRead cmd => Sys2Proof.Machine.execTelemetryRead cmd s
  | .contourPersist cmd => Sys2Proof.Machine.execContourPersist cmd s
  | .driftOffline cmd => Sys2Proof.Machine.execDriftOffline cmd s
  | .driftRetest cmd => Sys2Proof.Machine.execDriftRetest cmd s
  | .fwStage cmd => Sys2Proof.Machine.execFwStage cmd s
  | .fwHandover cmd => Sys2Proof.Machine.execFwHandover cmd s
  | .fwHandoverSwitch component digestOk => Sys2Proof.Machine.execFwHandoverSwitch component digestOk s
  | .fwHandoverComplete component => Sys2Proof.Machine.execFwHandoverComplete component s
  | .attest cmd => Sys2Proof.Machine.execAttest cmd s
  | .certRead cmd => Sys2Proof.Machine.execCertRead cmd s
  | .testAuth cmd => Sys2Proof.Machine.execTestAuth cmd s
  | .testAuthExpiry => Sys2Proof.Machine.execTestAuthExpiry s
  | .rollbackAdvance cmd => Sys2Proof.Machine.execRollbackAdvance cmd s
  | .thermalRead cmd => Sys2Proof.Machine.execThermalRead cmd s
  | .clockLimit cmd => Sys2Proof.Machine.execClockLimit cmd s
  | .remoteCmd rx => Sys2Proof.Machine.execRemoteCmd rx s
  | .remoteCpl rx => Sys2Proof.Machine.execRemoteCpl rx s
  | .remoteCmdTimeout cmd => Sys2Proof.Machine.execRemoteCmdTimeout cmd s
  | .cpCtrlEnable value => Sys2Proof.Machine.execCpCtrlEnable value s
  | .cpApertureWrite k value => Sys2Proof.Machine.execCpApertureWrite k value s
  | .frameBoundary => Sys2Proof.Machine.execFrameBoundary s
  | .batchWrite => Sys2Proof.Machine.execBatchWrite s
  | .gdBatchArm value => Sys2Proof.Machine.execGdBatchArm value s
  | .gdBatchCancel value => Sys2Proof.Machine.execGdBatchCancel value s
  | .gdCtrlEnable value => Sys2Proof.Machine.execGdCtrlEnable value s
  | .datumAnnounceSend => Sys2Proof.Machine.execDatumAnnounceSend s
  | .datumAnnounce rx => Sys2Proof.Machine.execDatumAnnounce rx s
  | .masterTakeover => Sys2Proof.Machine.execMasterTakeover s
  | .holdoverEntry => Sys2Proof.Machine.execHoldoverEntry s
  | .holdoverExpired => Sys2Proof.Machine.execHoldoverExpired s
  | .coldStartListenEnd => Sys2Proof.Machine.execColdStartListenEnd s
  | .rangingSend port => Sys2Proof.Machine.execRangingSend port s
  | .rangingCell rx arrivalError => Sys2Proof.Machine.execRangingCell rx arrivalError s
  | .alignmentLoss port colour => Sys2Proof.Machine.execAlignmentLoss port colour s
  | .syncSteer => Sys2Proof.Machine.execSyncSteer s
  | .gridWaitResume core => Sys2Proof.Machine.execGridWaitResume core s
  | .instructionIssue core => Sys2Proof.Machine.execInstructionIssue core s
  | .queuedInstructionComplete core queue index => Sys2Proof.Machine.execQueuedInstructionComplete core queue index s
  | .sAdd core => Sys2Proof.Machine.execSAdd core s
  | .sSub core => Sys2Proof.Machine.execSSub core s
  | .sMul core => Sys2Proof.Machine.execSMul core s
  | .sAnd core => Sys2Proof.Machine.execSAnd core s
  | .sOr core => Sys2Proof.Machine.execSOr core s
  | .sXor core => Sys2Proof.Machine.execSXor core s
  | .sShl core => Sys2Proof.Machine.execSShl core s
  | .sShr core => Sys2Proof.Machine.execSShr core s
  | .sSra core => Sys2Proof.Machine.execSSra core s
  | .slt core => Sys2Proof.Machine.execSlt core s
  | .sltu core => Sys2Proof.Machine.execSltu core s
  | .sMin core => Sys2Proof.Machine.execSMin core s
  | .sMax core => Sys2Proof.Machine.execSMax core s
  | .li core => Sys2Proof.Machine.execLi core s
  | .lih core => Sys2Proof.Machine.execLih core s
  | .rdspr core => Sys2Proof.Machine.execRdspr core s
  | .beq core => Sys2Proof.Machine.execBeq core s
  | .bne core => Sys2Proof.Machine.execBne core s
  | .blt core => Sys2Proof.Machine.execBlt core s
  | .bge core => Sys2Proof.Machine.execBge core s
  | .bltu core => Sys2Proof.Machine.execBltu core s
  | .bgeu core => Sys2Proof.Machine.execBgeu core s
  | .jmp core => Sys2Proof.Machine.execJmp core s
  | .jal core => Sys2Proof.Machine.execJal core s
  | .jr core => Sys2Proof.Machine.execJr core s
  | .mrun core => Sys2Proof.Machine.execMrun core s
  | .mcfg core => Sys2Proof.Machine.execMcfg core s
  | .mface core => Sys2Proof.Machine.execMface core s
  | .mdrain core => Sys2Proof.Machine.execMdrain core s
  | .drainRowWrite core engine => Sys2Proof.Machine.execDrainRowWrite core engine s
  | .fadd core => Sys2Proof.Machine.execFadd core s
  | .fsub core => Sys2Proof.Machine.execFsub core s
  | .fmul core => Sys2Proof.Machine.execFmul core s
  | .ffma core => Sys2Proof.Machine.execFfma core s
  | .fmin core => Sys2Proof.Machine.execFmin core s
  | .fmax core => Sys2Proof.Machine.execFmax core s
  | .fabs core => Sys2Proof.Machine.execFabs core s
  | .fneg core => Sys2Proof.Machine.execFneg core s
  | .fcmpeq core => Sys2Proof.Machine.execFcmpeq core s
  | .fcmpne core => Sys2Proof.Machine.execFcmpne core s
  | .fcmplt core => Sys2Proof.Machine.execFcmplt core s
  | .fcmple core => Sys2Proof.Machine.execFcmple core s
  | .select core => Sys2Proof.Machine.execSelect core s
  | .frecip core => Sys2Proof.Machine.execFrecip core s
  | .frsqrt core => Sys2Proof.Machine.execFrsqrt core s
  | .fsqrt core => Sys2Proof.Machine.execFsqrt core s
  | .fexp2 core => Sys2Proof.Machine.execFexp2 core s
  | .flog2 core => Sys2Proof.Machine.execFlog2 core s
  | .fredadd core => Sys2Proof.Machine.execFredadd core s
  | .fredmax core => Sys2Proof.Machine.execFredmax core s
  | .fredmin core => Sys2Proof.Machine.execFredmin core s
  | .rotate core => Sys2Proof.Machine.execRotate core s
  | .iadd core => Sys2Proof.Machine.execIadd core s
  | .isub core => Sys2Proof.Machine.execIsub core s
  | .imul core => Sys2Proof.Machine.execImul core s
  | .vAnd core => Sys2Proof.Machine.execVAnd core s
  | .vOr core => Sys2Proof.Machine.execVOr core s
  | .vXor core => Sys2Proof.Machine.execVXor core s
  | .vShl core => Sys2Proof.Machine.execVShl core s
  | .vShr core => Sys2Proof.Machine.execVShr core s
  | .vSra core => Sys2Proof.Machine.execVSra core s
  | .imin core => Sys2Proof.Machine.execImin core s
  | .imax core => Sys2Proof.Machine.execImax core s
  | .icmpeq core => Sys2Proof.Machine.execIcmpeq core s
  | .icmplt core => Sys2Proof.Machine.execIcmplt core s
  | .icmpltu core => Sys2Proof.Machine.execIcmpltu core s
  | .mand core => Sys2Proof.Machine.execMand core s
  | .mor core => Sys2Proof.Machine.execMor core s
  | .mxor core => Sys2Proof.Machine.execMxor core s
  | .mnot core => Sys2Proof.Machine.execMnot core s
  | .viAdd core => Sys2Proof.Machine.execViAdd core s
  | .viSub core => Sys2Proof.Machine.execViSub core s
  | .viRsub core => Sys2Proof.Machine.execViRsub core s
  | .viMul core => Sys2Proof.Machine.execViMul core s
  | .viMin core => Sys2Proof.Machine.execViMin core s
  | .viMax core => Sys2Proof.Machine.execViMax core s
  | .viCmpeq core => Sys2Proof.Machine.execViCmpeq core s
  | .viCmplt core => Sys2Proof.Machine.execViCmplt core s
  | .viCmple core => Sys2Proof.Machine.execViCmple core s
  | .viAnd core => Sys2Proof.Machine.execViAnd core s
  | .viOr core => Sys2Proof.Machine.execViOr core s
  | .viXor core => Sys2Proof.Machine.execViXor core s
  | .viShl core => Sys2Proof.Machine.execViShl core s
  | .viShr core => Sys2Proof.Machine.execViShr core s
  | .viSra core => Sys2Proof.Machine.execViSra core s
  | .viMov core => Sys2Proof.Machine.execViMov core s
  | .cvt core => Sys2Proof.Machine.execCvt core s
  | .narrow core => Sys2Proof.Machine.execNarrow core s
  | .widen core => Sys2Proof.Machine.execWiden core s
  | .vld core => Sys2Proof.Machine.execVld core s
  | .vst core => Sys2Proof.Machine.execVst core s
  | .sld core => Sys2Proof.Machine.execSld core s
  | .sst core => Sys2Proof.Machine.execSst core s
  | .atom core => Sys2Proof.Machine.execAtom core s
  | .dcopy core => Sys2Proof.Machine.execDcopy core s
  | .ddesc core => Sys2Proof.Machine.execDdesc core s
  | .dgather core => Sys2Proof.Machine.execDgather core s
  | .dmaCopyEnd copy => Sys2Proof.Machine.execDmaCopyEnd copy s
  | .narrowAccessStart stack => Sys2Proof.Machine.execNarrowAccessStart stack s
  | .twait core => Sys2Proof.Machine.execTwait core s
  | .tread core => Sys2Proof.Machine.execTread core s
  | .tset core => Sys2Proof.Machine.execTset core s
  | .tadd core => Sys2Proof.Machine.execTadd core s
  | .msend core => Sys2Proof.Machine.execMsend core s
  | .messageSend msg => Sys2Proof.Machine.execMessageSend msg s
  | .fence core => Sys2Proof.Machine.execFence core s
  | .swait core => Sys2Proof.Machine.execSwait core s
  | .ssig core => Sys2Proof.Machine.execSsig core s
  | .bar core => Sys2Proof.Machine.execBar core s
  | .gwait core => Sys2Proof.Machine.execGwait core s
  | .gread core => Sys2Proof.Machine.execGread core s
  | .trap core => Sys2Proof.Machine.execTrap core s
  | .halt core => Sys2Proof.Machine.execHalt core s
  | .waitLimitExpiry core => Sys2Proof.Machine.execWaitLimitExpiry core s
  | .sqCtrlRun core value => Sys2Proof.Machine.execSqCtrlRun core value s
  | .sqCtrlStop core value => Sys2Proof.Machine.execSqCtrlStop core value s
  | .sqCtrlResume core value => Sys2Proof.Machine.execSqCtrlResume core value s
  | .sqSrSeedWrite core value => Sys2Proof.Machine.execSqSrSeedWrite core value s
  | .hfHbmModeWrite value => Sys2Proof.Machine.execHfHbmModeWrite value s
  | .mcCtrlOffline stack value => Sys2Proof.Machine.execMcCtrlOffline stack value s
  | .stackTrainingDone stack pass => Sys2Proof.Machine.execStackTrainingDone stack pass s
  | .stackChangeDone stack => Sys2Proof.Machine.execStackChangeDone stack s
  | .mcRepairProgram stack value => Sys2Proof.Machine.execMcRepairProgram stack value s
  | .mcRepairQuery stack value => Sys2Proof.Machine.execMcRepairQuery stack value s
  | .repairProgramDone stack => Sys2Proof.Machine.execRepairProgramDone stack s
  | .mcInjectWrite stack value => Sys2Proof.Machine.execMcInjectWrite stack value s
  | .cellSend port lane slot freqError => Sys2Proof.Machine.execCellSend port lane slot freqError s
  | .cellReceive port lane slot bytes => Sys2Proof.Machine.execCellReceive port lane slot bytes s
  | .cellLifetimeExpiry waiting => Sys2Proof.Machine.execCellLifetimeExpiry waiting s
  | .cageEscape waiting => Sys2Proof.Machine.execCageEscape waiting s
  | .bellSend port slot => Sys2Proof.Machine.execBellSend port slot s
  | .credit rx => Sys2Proof.Machine.execCredit rx s
  | .contourUpdate drift => Sys2Proof.Machine.execContourUpdate drift s
  | .drContourArm drift value => Sys2Proof.Machine.execDrContourArm drift value s
  | .drContourCancel drift value => Sys2Proof.Machine.execDrContourCancel drift value s
  | .contourCommit drift => Sys2Proof.Machine.execContourCommit drift s
  | .contourCopyDone drift => Sys2Proof.Machine.execContourCopyDone drift s
  | .recalStart drift lane => Sys2Proof.Machine.execRecalStart drift lane s
  | .recalSweepEnd drift lane sweep => Sys2Proof.Machine.execRecalSweepEnd drift lane sweep s
  | .recalReturn drift lane => Sys2Proof.Machine.execRecalReturn drift lane s
  | .autoRecal drift lane => Sys2Proof.Machine.execAutoRecal drift lane s
  | .misdeliveryNoticeSend notice => Sys2Proof.Machine.execMisdeliveryNoticeSend notice s
  | .misdelivery rx => Sys2Proof.Machine.execMisdelivery rx s
  | .slopeCheck drift => Sys2Proof.Machine.execSlopeCheck drift s
  | .holdRelease drift => Sys2Proof.Machine.execHoldRelease drift s
  | .laneHoldRelease drift lane => Sys2Proof.Machine.execLaneHoldRelease drift lane s
  | .colourCheckEnd drift lane pass => Sys2Proof.Machine.execColourCheckEnd drift lane pass s
  | .drCtrlEnable drift value => Sys2Proof.Machine.execDrCtrlEnable drift value s
  | .laneCalDone drift lane pass => Sys2Proof.Machine.execLaneCalDone drift lane pass s
  | .loopbackStage port returned => Sys2Proof.Machine.execLoopbackStage port returned s
  | .drLaneRecal drift lane value => Sys2Proof.Machine.execDrLaneRecal drift lane value s
  | .drLaneUnquar drift lane value => Sys2Proof.Machine.execDrLaneUnquar drift lane value s
  | .drLaneDisable drift lane value => Sys2Proof.Machine.execDrLaneDisable drift lane value s
  | .fbCtrlEnable value => Sys2Proof.Machine.execFbCtrlEnable value s
  | .fbResurvey value => Sys2Proof.Machine.execFbResurvey value s
  | .surveyProbeSend port colour => Sys2Proof.Machine.execSurveyProbeSend port colour s
  | .surveyProbe rx => Sys2Proof.Machine.execSurveyProbe rx s
  | .surveyReply rx => Sys2Proof.Machine.execSurveyReply rx s
  | .laneProbe rx => Sys2Proof.Machine.execLaneProbe rx s
  | .surveyAbsentTimeout port y => Sys2Proof.Machine.execSurveyAbsentTimeout port y s
  | .portDegradedRecovery port => Sys2Proof.Machine.execPortDegradedRecovery port s
  | .fbPlanArm port value => Sys2Proof.Machine.execFbPlanArm port value s
  | .fbPlanCancel port value => Sys2Proof.Machine.execFbPlanCancel port value s
  | .planAnnounceSend port => Sys2Proof.Machine.execPlanAnnounceSend port s
  | .planAnnounce rx => Sys2Proof.Machine.execPlanAnnounce rx s
  | .planCancel rx => Sys2Proof.Machine.execPlanCancel rx s
  | .planAgreementCheck port => Sys2Proof.Machine.execPlanAgreementCheck port s
  | .planSwitch port => Sys2Proof.Machine.execPlanSwitch port s
  | .planFallback port => Sys2Proof.Machine.execPlanFallback port s
  | .epochAnnounce rx => Sys2Proof.Machine.execEpochAnnounce rx s
  | .routeBuild => Sys2Proof.Machine.execRouteBuild s
  | .epochSwitch => Sys2Proof.Machine.execEpochSwitch s
  | .rowRequestSend req => Sys2Proof.Machine.execRowRequestSend req s
  | .rowReadRequest rx => Sys2Proof.Machine.execRowReadRequest rx s
  | .rowWriteRequest rx => Sys2Proof.Machine.execRowWriteRequest rx s
  | .rowAtomicRequest rx => Sys2Proof.Machine.execRowAtomicRequest rx s
  | .atomicExecute slot => Sys2Proof.Machine.execAtomicExecute slot s
  | .readData rx => Sys2Proof.Machine.execReadData rx s
  | .writeAck rx => Sys2Proof.Machine.execWriteAck rx s
  | .atomicReply rx => Sys2Proof.Machine.execAtomicReply rx s
  | .rowRefusal rx => Sys2Proof.Machine.execRowRefusal rx s
  | .rowRequestTimeout req => Sys2Proof.Machine.execRowRequestTimeout req s
  | .messageData rx => Sys2Proof.Machine.execMessageData rx s
  | .messageAccepted rx => Sys2Proof.Machine.execMessageAccepted rx s
  | .messageRefused rx => Sys2Proof.Machine.execMessageRefused rx s
  | .messageTimeout msg => Sys2Proof.Machine.execMessageTimeout msg s
  | .messageAssemblyTimeout assembly => Sys2Proof.Machine.execMessageAssemblyTimeout assembly s
  | .hfTallyWrite tally value => Sys2Proof.Machine.execHfTallyWrite tally value s
  | .hfMboxConsWrite mailbox value => Sys2Proof.Machine.execHfMboxConsWrite mailbox value s
  | .hfMboxCtrlWrite mailbox value => Sys2Proof.Machine.execHfMboxCtrlWrite mailbox value s
  | .ceSubmit value => Sys2Proof.Machine.execCeSubmit value s
  | .ceCtrlEnable value => Sys2Proof.Machine.execCeCtrlEnable value s
  | .ceGroupValid group value => Sys2Proof.Machine.execCeGroupValid group value s
  | .collBegin coll => Sys2Proof.Machine.execCollBegin coll s
  | .collectiveCell rx => Sys2Proof.Machine.execCollectiveCell rx s
  | .collCellAccept rx => Sys2Proof.Machine.execCollCellAccept rx s
  | .collDeadline coll => Sys2Proof.Machine.execCollDeadline coll s
  | .collAbort rx => Sys2Proof.Machine.execCollAbort rx s
  | .collAbortRepeat abort => Sys2Proof.Machine.execCollAbortRepeat abort s
  | .collDone rx => Sys2Proof.Machine.execCollDone rx s
  | .collDoneRepeat coll => Sys2Proof.Machine.execCollDoneRepeat coll s
  | .digestReq rx => Sys2Proof.Machine.execDigestReq rx s
  | .digestRep rx => Sys2Proof.Machine.execDigestRep rx s
  | .faultEvent => Sys2Proof.Machine.execFaultEvent s
  | .ftClearWrite value => Sys2Proof.Machine.execFtClearWrite value s
  | .ftCanaryEnable value => Sys2Proof.Machine.execFtCanaryEnable value s
  | .ftCanaryRejoin value => Sys2Proof.Machine.execFtCanaryRejoin value s
  | .heartbeatSend => Sys2Proof.Machine.execHeartbeatSend s
  | .heartbeat rx => Sys2Proof.Machine.execHeartbeat rx s
  | .heartbeatMiss x => Sys2Proof.Machine.execHeartbeatMiss x s
  | .suspectSend x => Sys2Proof.Machine.execSuspectSend x s
  | .suspect rx => Sys2Proof.Machine.execSuspect rx s
  | .retract rx => Sys2Proof.Machine.execRetract rx s
  | .voteLapse suspect voter => Sys2Proof.Machine.execVoteLapse suspect voter s
  | .canaryVerdict x => Sys2Proof.Machine.execCanaryVerdict x s
  | .verdictAnnounceFallback x => Sys2Proof.Machine.execVerdictAnnounceFallback x s
  | .selfDead rx => Sys2Proof.Machine.execSelfDead rx s
  | .minorityFence => Sys2Proof.Machine.execMinorityFence s
  | .marginSample voltage timing => Sys2Proof.Machine.execMarginSample voltage timing s
  | .sensorSample readings => Sys2Proof.Machine.execSensorSample readings s
  | .graceExpiry zone => Sys2Proof.Machine.execGraceExpiry zone s
  | .thermalStepDown zone => Sys2Proof.Machine.execThermalStepDown zone s
  | .thermalStepUp zone => Sys2Proof.Machine.execThermalStepUp zone s
  | .criticalStretchEnd zone => Sys2Proof.Machine.execCriticalStretchEnd zone s
  | .powerSample mainMv mainMa auxMv standbyMv => Sys2Proof.Machine.execPowerSample mainMv mainMa auxMv standbyMv s
  | .powerStepDown => Sys2Proof.Machine.execPowerStepDown s
  | .powerStepUp => Sys2Proof.Machine.execPowerStepUp s
  | .powerStretchEnd => Sys2Proof.Machine.execPowerStretchEnd s
  | .tmCtrlEnable value => Sys2Proof.Machine.execTmCtrlEnable value s
  | .grefPresent => Sys2Proof.Machine.execGrefPresent s
  | .grefLost => Sys2Proof.Machine.execGrefLost s
  | .i3cRead index => Sys2Proof.Machine.execI3cRead index s
  | .i3cShutdownClear byte => Sys2Proof.Machine.execI3cShutdownClear byte s
  | .bypass code tdi => Sys2Proof.Machine.execBypass code tdi s
  | .idcode => Sys2Proof.Machine.execIdcode s
  | .samplePreload captured preload => Sys2Proof.Machine.execSamplePreload captured preload s
  | .extest captured preload => Sys2Proof.Machine.execExtest captured preload s
  | .powerStateChange d3hot => Sys2Proof.Machine.execPowerStateChange d3hot s
  | .coalescingTimeExpiry q => Sys2Proof.Machine.execCoalescingTimeExpiry q s
  | .mainInputApplied mainMv => Sys2Proof.Machine.execMainInputApplied mainMv s

end Sys2Proof.Machine
end

