-- ==== Sys2Proof/Safety.lean ====
section
/-!
DEFINITION. Sys2Proof/Safety.lean: the words that claims are stated in: what a command answers, what it leaves alone, and
the canonical form of a device's data.
-/

namespace Sys2Proof.Machine

/-! ### What a command does -/

/-- Command c, carried out at s, answers a next state: the same queue, and a device that satisfies post. -/
def Does (c : Instr) (s : State) (post : Dev → Prop) : Prop := ∃ d, exec c s = .next { s with dev := d } ∧ post d

/-- Command c, carried out at s, answers the next state whose device is d, with the same queue. -/
def Makes (c : Instr) (s : State) (d : Dev) : Prop := exec c s = .next { s with dev := d }

/-- Command c, carried out at s, answers a next state whose device is one that satisfies post, after the check that the Legend still shows
the device (R414). -/
def DoesLegend (c : Instr) (s : State) (post : Dev → Prop) : Prop := ∃ d : Dev, Makes c s d.legendCheck ∧ post d

/-! ### What a command leaves alone -/

/-- Every register but those listed reads as before. -/
def regsBut (offs : List Nat) (d e : Dev) : Prop := ∀ off, off ∉ offs → e.reg off = d.reg off

/-- Every core but k is as before. -/
def coresBut (k : Nat) (d e : Dev) : Prop := ∀ j, j ≠ k → e.core j = d.core j

/-- Only registers and cores may differ: every memory, queue, engine and other unit is as before. -/
def onlyCores (d e : Dev) : Prop := e = { d with regs := e.regs, cores := e.cores }

/-- Only registers may differ. -/
def onlyRegs (d e : Dev) : Prop := e = { d with regs := e.regs }

/-- What an instruction of core k that goes on at index n leaves alone outside its own core: every other core, every
register but SQ_STATUS_k, and everything else.  SQ_STATUS_k then shows n, no wait, and its other fields as before. -/
def goesOn (k n : Nat) (d e : Dev) : Prop :=
  onlyCores d e ∧ coresBut k d e ∧ regsBut [SQ_STATUS k] d e ∧ e.pc k = n ∧ e.fld (SQ_STATUS_wait k) = 0 ∧
    e.coreState k = d.coreState k ∧ e.fld (SQ_STATUS_reason k) = d.fld (SQ_STATUS_reason k)

/-- Scalar register sd of core k takes v, s0 excepted, and nothing else of the core changes. -/
def writesScalar (k sd : Nat) (v : Word64) (d e : Dev) : Prop :=
  e.core k = { d.core k with s := (e.core k).s } ∧
    ∀ i, (e.core k).sreg i = if i = sd ∧ i ≠ 0 then v else (d.core k).sreg i

/-- Every byte of every memory reads as before. -/
def memorySame (d e : Dev) : Prop := ∀ a, e.byteAt a = d.byteAt a

/-! ### The canonical form of a device's data -/

/-- Registers, memories, host memory and cores stand in canonical form: keys rising, no entry equal to what an unlisted key
reads as. -/
def Dev.Canonical (d : Dev) : Prop :=
  smWf regReset d.regs = true ∧ d.ram.wf = true ∧ smWf zeroByte d.host = true ∧
    smWf (fun _ => Core.fresh) d.cores = true

end Sys2Proof.Machine
end

