-- ==== Sys2Proof/Certificates/Slice0/Obligations.lean ====
section
/-!
DEFINITION. Sys2Proof/Certificates/Slice0/Obligations.lean: the statements for the provers.
-/

open Sys2Proof Sys2Proof.Machine

/-! ### The queue of commands -/

/-- A step takes the command at the front of the queue and carries it out with the rest of the queue. -/
def Obligations.StepRunsTheFrontCommand : Prop :=
  ∀ (c : Instr) (rest : List Instr) (d : Dev), step ⟨c :: rest, d⟩ = exec c ⟨rest, d⟩

/-- On an empty queue the block idles (the model's choice, log entry 1). -/
def Obligations.EmptyQueueIdles : Prop := ∀ d : Dev, step ⟨[], d⟩ = .next ⟨[], d⟩

/-- Every command of every state answers a next state, and leaves the queue as it was given: no command stops the device
(the model's reading of a step whose condition does not hold, log entry 2). -/
def Obligations.EveryCommandGoesOnWithTheSameQueue : Prop :=
  ∀ (c : Instr) (s : State), ∃ d : Dev, exec c s = .next ⟨s.pending, d⟩

/-! ### Scalar instructions (chapter 5) -/

/-- The scalar operations of Table 5-6 on sa and b: the command, the op field, the effect. -/
def scalarTable : List ((Nat → Instr) × Nat × (Word64 → Word64 → Word64)) :=
  [(.sAdd, 0x0, fun a b => BitVec.ofNat 64 (a.toNat + b.toNat)),
   (.sSub, 0x1, fun a b => BitVec.ofInt 64 (a.toInt - b.toInt)),
   (.sMul, 0x2, fun a b => BitVec.ofNat 64 (a.toNat * b.toNat)),
   (.sAnd, 0x3, fun a b => BitVec.ofNat 64 (a.toNat &&& b.toNat)),
   (.sOr, 0x4, fun a b => BitVec.ofNat 64 (a.toNat ||| b.toNat)),
   (.sXor, 0x5, fun a b => BitVec.ofNat 64 (a.toNat ^^^ b.toNat)),
   (.sShl, 0x6, fun a b => BitVec.ofNat 64 (a.toNat * 2 ^ (b.toNat % 64))),
   (.sShr, 0x7, fun a b => BitVec.ofNat 64 (a.toNat / 2 ^ (b.toNat % 64))),
   (.sSra, 0x8, fun a b => BitVec.ofInt 64 (a.toInt / 2 ^ (b.toNat % 64))),
   (.slt, 0x9, fun a b => if a.toInt < b.toInt then 1 else 0),
   (.sltu, 0xA, fun a b => if a.toNat < b.toNat then 1 else 0),
   (.sMin, 0xB, fun a b => if a.toInt < b.toInt then a else b),
   (.sMax, 0xC, fun a b => if a.toInt < b.toInt then b else a),
   (.li, 0xD, fun _ b => b)]

/-- Operand b of a scalar instruction word w of a core: the sign-extended immediate, or sb. -/
def scalarOperand (c : Core) (w : Word64) : Word64 :=
  if wget w 55 55 = 1 then BitVec.ofInt 64 (sext 32 (wget w 31 0)) else c.sreg (wget w 37 33)

/-- A scalar instruction that issues below the last index writes its result to sd and goes on at the next index (Table 5-6). -/
def scalarResults : Prop :=
  ∀ row ∈ scalarTable, ∀ (k : Nat) (s : State), s.dev.issues k 0 row.2.1 = true → s.dev.pc k < 8191 →
    Does (row.1 k) s fun e =>
      writesScalar k (wget (s.dev.instr k) 47 43)
        (row.2.2 ((s.dev.core k).sreg (wget (s.dev.instr k) 42 38)) (scalarOperand (s.dev.core k) (s.dev.instr k))) s.dev e ∧
      goesOn k (s.dev.pc k + 1) s.dev e

/-- A scalar instruction at index 8,191 writes its result, and the sequencer takes the address-fault trap that names index
8,191 and address 8,192. -/
def scalarAtTheLastIndexTraps : Prop :=
  ∀ row ∈ scalarTable, ∀ (k : Nat) (s : State), s.dev.issues k 0 row.2.1 = true → s.dev.pc k = 8191 →
    Does (row.1 k) s fun e =>
      (∀ i, (e.core k).sreg i = if i = wget (s.dev.instr k) 47 43 ∧ i ≠ 0 then
        row.2.2 ((s.dev.core k).sreg (wget (s.dev.instr k) 42 38)) (scalarOperand (s.dev.core k) (s.dev.instr k))
        else (s.dev.core k).sreg i) ∧
      e.coreState k = 2 ∧ wget (e.reg (SQ_TRAP k)) 7 0 = 0x04 ∧ wget (e.reg (SQ_TRAP k)) 28 16 = 8191 ∧
      e.reg (SQ_TRAP_ADDR k) = 8192

/-- lih and rdspr write sd and go on at the next index: the immediate to the high half of sd; the value that the immediate
names, number 5 (SQ_CYCLE) being a free value, drawn and also left in SQ_CYCLE (log entry 14). -/
def lihAndRdsprResults : Prop :=
  (∀ (k : Nat) (s : State), s.dev.issues k 0 0xE = true → s.dev.pc k < 8191 →
    Does (.lih k) s fun e =>
      writesScalar k (wget (s.dev.instr k) 47 43)
        (BitVec.ofNat 64 (((s.dev.core k).sreg (wget (s.dev.instr k) 47 43)).toNat % 2 ^ 32 +
          wget (s.dev.instr k) 31 0 * 2 ^ 32)) s.dev e ∧
      goesOn k (s.dev.pc k + 1) s.dev e) ∧
  (∀ (k : Nat) (s : State), s.dev.issues k 0 0xF = true → s.dev.pc k < 8191 → wget (s.dev.instr k) 31 0 < 5 →
    Does (.rdspr k) s fun e =>
      writesScalar k (wget (s.dev.instr k) 47 43)
        (BitVec.ofNat 64 (match wget (s.dev.instr k) 31 0 with
          | 0 => k % 80
          | 1 => k / 80
          | 2 => k
          | 3 => if s.dev.remapped k then 10 else k % 10
          | _ => s.dev.fld FB_ID_id)) s.dev e ∧
      goesOn k (s.dev.pc k + 1) s.dev e) ∧
  (∀ (k : Nat) (s : State), s.dev.issues k 0 0xF = true → s.dev.pc k < 8191 → wget (s.dev.instr k) 31 0 = 5 →
    Does (.rdspr k) s fun e =>
      e.freeCtr = s.dev.freeCtr + 1 ∧ e.reg (SQ_CYCLE k) = Config.freeWord s.dev.freeCtr ∧
      writesScalar k (wget (s.dev.instr k) 47 43) (Config.freeWord s.dev.freeCtr) s.dev e ∧
      coresBut k s.dev e ∧ regsBut [SQ_STATUS k, SQ_CYCLE k] s.dev e ∧ e.pc k = s.dev.pc k + 1)

/-- Where a branch, jmp or jal goes: pc + sext(offset). -/
def branchTarget (d : Dev) (k : Nat) : Int := (d.pc k : Int) + sext 24 (wget (d.instr k) 23 0)

/-- The conditional branches of Table 5-6: the command, the op field, the comparison of sa and sb. -/
def branchTable : List ((Nat → Instr) × Nat × (Word64 → Word64 → Prop)) :=
  [(.beq, 0x0, fun a b => a = b), (.bne, 0x1, fun a b => a ≠ b),
   (.blt, 0x2, fun a b => a.toInt < b.toInt), (.bge, 0x3, fun a b => b.toInt ≤ a.toInt),
   (.bltu, 0x4, fun a b => a.toNat < b.toNat), (.bgeu, 0x5, fun a b => b.toNat ≤ a.toNat)]

/-- A branch whose comparison holds goes to pc + sext(offset), one whose comparison fails goes on at the next index; jmp and
jal go to pc + sext(offset), jal with the return index in sd; jr goes to bits [12:0] of sa.  A target outside the store
takes the address-fault trap at the branch. -/
def branchesGoToTheirTargets : Prop :=
  (∀ row ∈ branchTable, ∀ (k : Nat) (s : State), s.dev.issues k 1 row.2.1 = true →
    let a := (s.dev.core k).sreg (wget (s.dev.instr k) 47 43)
    let b := (s.dev.core k).sreg (wget (s.dev.instr k) 42 38)
    (row.2.2 a b → 0 ≤ branchTarget s.dev k → branchTarget s.dev k ≤ 8191 →
      Does (row.1 k) s fun e => e.cores = s.dev.cores ∧ goesOn k (branchTarget s.dev k).toNat s.dev e) ∧
    (¬ row.2.2 a b → s.dev.pc k < 8191 →
      Does (row.1 k) s fun e => e.cores = s.dev.cores ∧ goesOn k (s.dev.pc k + 1) s.dev e) ∧
    (row.2.2 a b → (branchTarget s.dev k < 0 ∨ 8191 < branchTarget s.dev k) →
      Does (row.1 k) s fun e => e.coreState k = 2 ∧ wget (e.reg (SQ_TRAP k)) 7 0 = 0x04 ∧
        wget (e.reg (SQ_TRAP k)) 28 16 = s.dev.pc k)) ∧
  (∀ (k : Nat) (s : State), s.dev.issues k 1 0x6 = true → 0 ≤ branchTarget s.dev k → branchTarget s.dev k ≤ 8191 →
    Does (.jmp k) s fun e => e.cores = s.dev.cores ∧ goesOn k (branchTarget s.dev k).toNat s.dev e) ∧
  (∀ (k : Nat) (s : State), s.dev.issues k 1 0x7 = true → 0 ≤ branchTarget s.dev k → branchTarget s.dev k ≤ 8191 →
    Does (.jal k) s fun e =>
      writesScalar k (wget (s.dev.instr k) 47 43) (BitVec.ofNat 64 (s.dev.pc k + 1)) s.dev e ∧
      goesOn k (branchTarget s.dev k).toNat s.dev e) ∧
  (∀ (k : Nat) (s : State), s.dev.issues k 1 0x8 = true →
    Does (.jr k) s fun e => e.cores = s.dev.cores ∧
      goesOn k (((s.dev.core k).sreg (wget (s.dev.instr k) 47 43)).toNat % 2 ^ 13) s.dev e)

/-- The scalar operations of Table 5-6: results, and what happens at the last index.
Completes here: sAdd, sSub, sMul, sAnd, sOr, sXor, sShl, sShr, sSra, slt, sltu, sMin, sMax, li. -/
def Obligations.ScalarOperationsWriteTheirResults : Prop := scalarResults ∧ scalarAtTheLastIndexTraps

/-- lih, rdspr and the branches (the model's choices of log entries 14 and 17 are in them).
Completes here: lih, rdspr, beq, bne, blt, bge, bltu, bgeu, jmp, jal, jr. -/
def Obligations.WideMovesAndBranchesResults : Prop := lihAndRdsprResults ∧ branchesGoToTheirTargets

/-! ### Vector instructions (chapters 4 and 5) -/

/-- An instruction of queue q that has started and done its work, with f done to its core between. -/
def queueWork (q k : Nat) (e : QEntry) (f : Core → Core) (d : Dev) : Dev :=
  ((d.startEntry k q e).modCore k f).finishEntry k q e.uid

/-- An instruction of the vector queue that reads a poisoned lane starts, takes the poisoned-data trap and writes nothing. -/
def vectorPoisonTrap (k : Nat) (e : QEntry) (d : Dev) : Dev :=
  ((d.startEntry k 2 e).trap k 0x03 2 e.pc 0).finishEntry k 2 e.uid

/-- Sources va, vb and vc of a register-form word, and its ovf bit. -/
def srcA (c : Core) (w : Word64) (l : Nat) : Word32 := lane (c.vreg (wget w 36 32)) l
def srcB (c : Core) (w : Word64) (l : Nat) : Word32 := lane (c.vreg (wget w 31 27)) l
def srcC (c : Core) (w : Word64) (l : Nat) : Word32 := lane (c.vreg (wget w 26 22)) l
def ovfBit (w : Word64) : Bool := wbit w 18

/-- Registers that a word reads: va; va and vb; va, vb and vc. -/
def reads1 (w : Word64) : List Nat := [wget w 36 32]
def reads2 (w : Word64) : List Nat := [wget w 36 32, wget w 31 27]
def reads3 (w : Word64) : List Nat := [wget w 36 32, wget w 31 27, wget w 26 22]

/-- One stage of a reduction: partial results 2i and 2i + 1 combine (R141). -/
def reduceStage (f : Word32 → Word32 → Word32) (x : Nat → Word32) : Nat → Word32 := fun i => f (x (2 * i)) (x (2 * i + 1))

/-- Eight stages over the lanes that the mask selects; the others contribute unit. -/
def reduced (f : Word32 → Word32 → Word32) (unit : Word32) (m : BitVec 256) (x : Nat → Word32) : Word32 :=
  ((List.range 8).foldl (fun y _ => reduceStage f y) fun l => if mbit m l then x l else unit) 0

/-- The lanewise operations, reductions and rotation of the register form: command, vop, registers read in the lanes of the mask,
and the value of lane l. -/
def laneTable : List ((Nat → Instr) × Nat × (Word64 → List Nat) × (Core → Word64 → Nat → Word32)) :=
  [(.fadd, 0x00, reads2, fun c w l => fpWrite (ovfBit w) (addNum (fpRead (srcA c w l)) (fpRead (srcB c w l)))),
   (.fsub, 0x01, reads2, fun c w l => fpWrite (ovfBit w) (addNum (fpRead (srcA c w l)) (negNum (fpRead (srcB c w l))))),
   (.fmul, 0x02, reads2, fun c w l => fpWrite (ovfBit w) (mulNum (fpRead (srcA c w l)) (fpRead (srcB c w l)))),
   (.ffma, 0x03, reads3, fun c w l =>
      fpWrite (ovfBit w) (addNum (mulNum (fpRead (srcA c w l)) (fpRead (srcB c w l))) (fpRead (srcC c w l)))),
   (.fmin, 0x04, reads2, fun c w l => fpWrite true (minNum (fpRead (srcA c w l)) (fpRead (srcB c w l)))),
   (.fmax, 0x05, reads2, fun c w l => fpWrite true (maxNum (fpRead (srcA c w l)) (fpRead (srcB c w l)))),
   (.fabs, 0x06, reads1, fun c w l => fpWrite true (absNum (fpRead (srcA c w l)))),
   (.fneg, 0x07, reads1, fun c w l => fpWrite true (negNum (fpRead (srcA c w l)))),
   (.iadd, 0x20, reads2, fun c w l => int32 (ovfBit w) ((srcA c w l).toInt + (srcB c w l).toInt)),
   (.isub, 0x21, reads2, fun c w l => int32 (ovfBit w) ((srcA c w l).toInt - (srcB c w l).toInt)),
   (.imul, 0x22, reads2, fun c w l => int32 (ovfBit w) ((srcA c w l).toInt * (srcB c w l).toInt)),
   (.vAnd, 0x23, reads2, fun c w l => srcA c w l &&& srcB c w l),
   (.vOr, 0x24, reads2, fun c w l => srcA c w l ||| srcB c w l),
   (.vXor, 0x25, reads2, fun c w l => srcA c w l ^^^ srcB c w l),
   (.vShl, 0x26, reads2, fun c w l => BitVec.ofNat 32 ((srcA c w l).toNat * 2 ^ ((srcB c w l).toNat % 32))),
   (.vShr, 0x27, reads2, fun c w l => BitVec.ofNat 32 ((srcA c w l).toNat / 2 ^ ((srcB c w l).toNat % 32))),
   (.vSra, 0x28, reads2, fun c w l => BitVec.ofInt 32 ((srcA c w l).toInt / 2 ^ ((srcB c w l).toNat % 32))),
   (.imin, 0x29, reads2, fun c w l => if (srcA c w l).toInt < (srcB c w l).toInt then srcA c w l else srcB c w l),
   (.imax, 0x2A, reads2, fun c w l => if (srcA c w l).toInt < (srcB c w l).toInt then srcB c w l else srcA c w l),
   (.fredadd, 0x18, reads1, fun c w _ => reduced (fun x y => fpWrite (ovfBit w) (addNum (fpRead x) (fpRead y))) 0x80000000
      (c.mask (wget w 21 19)) (srcA c w)),
   (.fredmax, 0x19, reads1, fun c w _ => reduced (fun x y => fpWrite true (maxNum (fpRead x) (fpRead y))) 0x7FC00000
      (c.mask (wget w 21 19)) (srcA c w)),
   (.fredmin, 0x1A, reads1, fun c w _ => reduced (fun x y => fpWrite true (minNum (fpRead x) (fpRead y))) 0x7FC00000
      (c.mask (wget w 21 19)) (srcA c w))]

/-- A lanewise operation or a reduction at the head of the vector queue writes its value to the lanes of vd that its mask
selects, unless a lane it reads is poisoned: then it traps and writes nothing. -/
def vectorLaneResults : Prop :=
  ∀ row ∈ laneTable, ∀ (k : Nat) (s : State) (e : QEntry), s.dev.vecHead k = some e →
    grp e.word = 3 → wget e.word 47 42 = row.2.1 →
    let c := (s.dev.vecRead k e).core k
    let m := c.mask (wget e.word 21 19)
    ((∀ r ∈ row.2.2.1 e.word, c.vpois r &&& m = 0) → c.maskBad e.word = false →
      Makes (row.1 k) s
        (queueWork 2 k e (fun x => x.writeLanes (wget e.word 41 37) m (row.2.2.2 c e.word)) (s.dev.vecRead k e))) ∧
    ((∃ r ∈ row.2.2.1 e.word, c.vpois r &&& m ≠ 0) ∨ c.maskBad e.word = true →
      Makes (row.1 k) s (vectorPoisonTrap k e (s.dev.vecRead k e)))

/-- select writes every lane, from va where the mask bit is set and from vb elsewhere; rotate writes lane i from lane (i + n)
mod 256 of va. -/
def selectAndRotateResults : Prop :=
  (∀ (k : Nat) (s : State) (e : QEntry), s.dev.vecHead k = some e → grp e.word = 3 → wget e.word 47 42 = 0x0C →
    let c := (s.dev.vecRead k e).core k
    let m := c.mask (wget e.word 21 19)
    c.vpois (wget e.word 36 32) &&& m = 0 → c.vpois (wget e.word 31 27) &&& ~~~m = 0 → c.maskBad e.word = false →
    Makes (.select k) s (queueWork 2 k e (fun x => x.writeLanes (wget e.word 41 37) (BitVec.allOnes 256) fun l =>
      if mbit m l then srcA c e.word l else srcB c e.word l) (s.dev.vecRead k e))) ∧
  (∀ (k : Nat) (s : State) (e : QEntry), s.dev.vecHead k = some e → grp e.word = 3 → wget e.word 47 42 = 0x1B →
    let c := (s.dev.vecRead k e).core k
    let m := c.mask (wget e.word 21 19)
    (∀ l < 256, mbit m l = true → mbit (c.vpois (wget e.word 36 32)) ((l + wget e.word 31 24) % 256) = false) → c.maskBad e.word = false →
    Makes (.rotate k) s (queueWork 2 k e (fun x => x.writeLanes (wget e.word 41 37) m fun l =>
      srcA c e.word ((l + wget e.word 31 24) % 256)) (s.dev.vecRead k e)))

/-- The special operations: within its bound of R140 the result of each lane is a free choice, drawn lane by lane. -/
def specialTable : List ((Nat → Instr) × Nat × (Nat → Machine.Num → Machine.Num)) :=
  [(.frecip, 0x10, recipNum), (.frsqrt, 0x11, rsqrtNum), (.fsqrt, 0x12, sqrtNum), (.fexp2, 0x13, exp2Num),
   (.flog2, 0x14, log2Num)]

/-- A special operation writes, in each selected lane, the result that the free value of that lane chooses, and draws 256 free
values (log entry 15). -/
def specialFunctionResults : Prop :=
  ∀ row ∈ specialTable, ∀ (k : Nat) (s : State) (e : QEntry), s.dev.vecHead k = some e →
    grp e.word = 3 → wget e.word 47 42 = row.2.1 →
    let c := (s.dev.vecRead k e).core k
    let m := c.mask (wget e.word 21 19)
    c.vpois (wget e.word 36 32) &&& m = 0 → c.maskBad e.word = false →
    Makes (row.1 k) s ((queueWork 2 k e (fun x => x.writeLanes (wget e.word 41 37) m fun l =>
      fpWrite (ovfBit e.word) (row.2.2 (Config.freeWord ((s.dev.vecRead k e).freeCtr + l)).toNat (fpRead (srcA c e.word l)))) (s.dev.vecRead k e)).draw 256)

/-- The compares of the register form, and the operations on mask registers. -/
def compareTable : List ((Nat → Instr) × Nat × (Word32 → Word32 → Bool)) :=
  [(.fcmpeq, 0x08, fun a b => cmpEq (fpRead a) (fpRead b)), (.fcmpne, 0x09, fun a b => !cmpEq (fpRead a) (fpRead b)),
   (.fcmplt, 0x0A, fun a b => cmpLt (fpRead a) (fpRead b)), (.fcmple, 0x0B, fun a b => cmpLe (fpRead a) (fpRead b)),
   (.icmpeq, 0x2B, fun a b => decide (a = b)), (.icmplt, 0x2C, fun a b => decide (a.toInt < b.toInt)),
   (.icmpltu, 0x2D, fun a b => decide (a.toNat < b.toNat))]

/-- The operations on two mask registers. -/
def maskTable : List ((Nat → Instr) × Nat × (Bool → Bool → Bool)) :=
  [(.mand, 0x30, fun a b => a && b), (.mor, 0x31, fun a b => a || b), (.mxor, 0x32, fun a b => a ^^ b),
   (.mnot, 0x33, fun a _ => !a)]

/-- A compare writes the bits of its destination mask register that its mask selects; so does an operation on two mask
registers. -/
def compareAndMaskResults : Prop :=
  (∀ row ∈ compareTable, ∀ (k : Nat) (s : State) (e : QEntry), s.dev.vecHead k = some e →
    grp e.word = 3 → wget e.word 47 42 = row.2.1 →
    let c := (s.dev.vecRead k e).core k
    let m := c.mask (wget e.word 21 19)
    (∀ r ∈ reads2 e.word, c.vpois r &&& m = 0) → c.maskBad e.word = false →
    Makes (row.1 k) s (queueWork 2 k e (fun x => x.writeMask (wget e.word 41 37 % 8) m fun l =>
      row.2.2 (srcA c e.word l) (srcB c e.word l)) (s.dev.vecRead k e))) ∧
  (∀ row ∈ maskTable, ∀ (k : Nat) (s : State) (e : QEntry), s.dev.vecHead k = some e →
    grp e.word = 3 → wget e.word 47 42 = row.2.1 →
    let c := (s.dev.vecRead k e).core k
    c.maskBad e.word = false →
    Makes (row.1 k) s (queueWork 2 k e (fun x => x.writeMask (wget e.word 41 37 % 8) (x.mask (wget e.word 21 19)) fun l =>
      row.2.2 (mbit (c.mask (wget e.word 36 32 % 8)) l) (mbit (c.mask (wget e.word 31 27 % 8)) l)) (s.dev.vecRead k e)))

/-- The immediate form by op: command, op, value for FP32 and for INT32, of a lane and the immediate. -/
def immTable : List ((Nat → Instr) × Nat × (Bool → Word32 → Word32 → Word32) × (Bool → Word32 → Word32 → Word32)) :=
  [(.viAdd, 0x0, fun o a b => fpWrite o (addNum (fpRead a) (fpRead b)), fun o a b => int32 o (a.toInt + b.toInt)),
   (.viSub, 0x1, fun o a b => fpWrite o (addNum (fpRead a) (negNum (fpRead b))), fun o a b => int32 o (a.toInt - b.toInt)),
   (.viRsub, 0x2, fun o a b => fpWrite o (addNum (fpRead b) (negNum (fpRead a))), fun o a b => int32 o (b.toInt - a.toInt)),
   (.viMul, 0x3, fun o a b => fpWrite o (mulNum (fpRead a) (fpRead b)), fun o a b => int32 o (a.toInt * b.toInt)),
   (.viMin, 0x4, fun _ a b => fpWrite true (minNum (fpRead a) (fpRead b)), fun _ a b => if a.toInt < b.toInt then a else b),
   (.viMax, 0x5, fun _ a b => fpWrite true (maxNum (fpRead a) (fpRead b)), fun _ a b => if a.toInt < b.toInt then b else a),
   (.viAnd, 0x9, fun _ a b => a &&& b, fun _ a b => a &&& b), (.viOr, 0xA, fun _ a b => a ||| b, fun _ a b => a ||| b),
   (.viXor, 0xB, fun _ a b => a ^^^ b, fun _ a b => a ^^^ b),
   (.viShl, 0xC, fun _ a b => a <<< (b.toNat % 32), fun _ a b => a <<< (b.toNat % 32)),
   (.viShr, 0xD, fun _ a b => a >>> (b.toNat % 32), fun _ a b => a >>> (b.toNat % 32)),
   (.viSra, 0xE, fun _ a b => a.sshiftRight (b.toNat % 32), fun _ a b => a.sshiftRight (b.toNat % 32))]

/-- The compares of the immediate form by op, for FP32 and for INT32. -/
def immCompareTable : List ((Nat → Instr) × Nat × (Word32 → Word32 → Bool) × (Word32 → Word32 → Bool)) :=
  [(.viCmpeq, 0x6, fun a b => cmpEq (fpRead a) (fpRead b), fun a b => decide (a = b)),
   (.viCmplt, 0x7, fun a b => cmpLt (fpRead a) (fpRead b), fun a b => decide (a.toInt < b.toInt)),
   (.viCmple, 0x8, fun a b => cmpLe (fpRead a) (fpRead b), fun a b => decide (a.toInt ≤ b.toInt))]

/-- The immediate form writes each selected lane from the lane and the immediate, by its type; its compares write mask bits;
mov writes the immediate, an FP32 subnormal immediate as a zero of its sign and an FP32 NaN immediate as the canonical NaN (R84,
R86; log entry 86). -/
def immediateFormResults : Prop :=
  (∀ row ∈ immTable, ∀ (k : Nat) (s : State) (e : QEntry), s.dev.vecHead k = some e → grp e.word = 12 → opc e.word = row.2.1 →
    let c := (s.dev.vecRead k e).core k
    let m := c.mask (wget e.word 37 35)
    c.vpois (wget e.word 42 38) &&& m = 0 → c.maskBad e.word = false →
    Makes (row.1 k) s (queueWork 2 k e (fun x => x.writeLanes (wget e.word 47 43) m fun l =>
      (if wget e.word 33 32 = 1 then row.2.2.2 else row.2.2.1) (wbit e.word 34) (lane (c.vreg (wget e.word 42 38)) l)
        (BitVec.ofNat 32 (wget e.word 31 0))) (s.dev.vecRead k e))) ∧
  (∀ row ∈ immCompareTable, ∀ (k : Nat) (s : State) (e : QEntry), s.dev.vecHead k = some e → grp e.word = 12 →
    opc e.word = row.2.1 →
    let c := (s.dev.vecRead k e).core k
    let m := c.mask (wget e.word 37 35)
    c.vpois (wget e.word 42 38) &&& m = 0 → c.maskBad e.word = false →
    Makes (row.1 k) s (queueWork 2 k e (fun x => x.writeMask (wget e.word 47 43 % 8) m fun l =>
      (if wget e.word 33 32 = 1 then row.2.2.2 else row.2.2.1) (lane (c.vreg (wget e.word 42 38)) l)
        (BitVec.ofNat 32 (wget e.word 31 0))) (s.dev.vecRead k e))) ∧
  (∀ (k : Nat) (s : State) (e : QEntry), s.dev.vecHead k = some e → grp e.word = 12 → opc e.word = 0xF →
    let c := (s.dev.vecRead k e).core k
    c.maskBad e.word = false →
    Makes (.viMov k) s (queueWork 2 k e (fun x => x.writeLanes (wget e.word 47 43) (c.mask (wget e.word 37 35)) fun _ =>
      BitVec.ofNat 32 (if wget e.word 33 32 = 1 then wget e.word 31 0
        else if wget e.word 30 23 = 0 then wget e.word 31 31 * 2 ^ 31
        else if wget e.word 30 23 = 255 ∧ wget e.word 22 0 ≠ 0 then 0x7FC00000
        else wget e.word 31 0)) (s.dev.vecRead k e)))

/-- CVT converts each selected lane; NARROW packs 256 elements and clears the rest of vd, stepping the 256 streams when rnd is set;
WIDEN reads the element at each selected lane's position.
Completes here: cvt, narrow, widen. -/
def Obligations.ConvertResults : Prop :=
  (∀ (k : Nat) (s : State) (e : QEntry), s.dev.vecHead k = some e → grp e.word = 4 → opc e.word = 0 →
    let c := (s.dev.vecRead k e).core k
    let m := c.mask (wget e.word 37 35)
    c.vpois (wget e.word 42 38) &&& m = 0 → c.maskBad e.word = false →
    Makes (.cvt k) s (queueWork 2 k e (fun x => x.writeLanes (wget e.word 47 43) m fun l =>
      BitVec.ofNat 32 (encodeNum (cDst e.word) (wbit e.word 26) none
        (decodeNum (cSrc e.word) (lane (c.vreg (wget e.word 42 38)) l).toNat))) (s.dev.vecRead k e))) ∧
  (∀ (k : Nat) (s : State) (e : QEntry), s.dev.vecHead k = some e → grp e.word = 4 → opc e.word = 1 →
    let c := (s.dev.vecRead k e).core k
    c.vpois (wget e.word 42 38) = 0 → c.maskBad e.word = false →
    Makes (.narrow k) s (queueWork 2 k e (fun x =>
      let y := x.setV (wget e.word 47 43) (BitVec.ofNat 8192 (narrowBits x e.word fun i =>
        decodeNum (cSrc e.word) (lane (c.vreg (wget e.word 42 38)) i).toNat)) 0
      if wbit e.word 25 then (List.range 256).foldl (fun z l => z.setStream l (streamStep (z.stream l))) y else y) (s.dev.vecRead k e))) ∧
  (∀ (k : Nat) (s : State) (e : QEntry), s.dev.vecHead k = some e → grp e.word = 4 → opc e.word = 2 →
    let c := (s.dev.vecRead k e).core k
    let f := cSrc e.word
    let m := c.mask (wget e.word 37 35)
    let v := (c.vreg (wget e.word 42 38)).toNat
    (∀ l < 256, mbit m l = true → ∀ j ∈ widenLanes f l, mbit (c.vpois (wget e.word 42 38)) j = false) → c.maskBad e.word = false →
    Makes (.widen k) s (queueWork 2 k e (fun x => x.writeLanes (wget e.word 47 43) m fun l =>
      let code := digit f.bits v l
      if cDst e.word = .int32 then BitVec.ofInt 32 (sext f.bits code)
      else fpWrite (wbit e.word 26) (if f.isMx then mxValue f (digit 8 v (512 + l / 32)) code else decodeNum f code)) (s.dev.vecRead k e)))

/-- A compare, an immediate-form operation, a conversion or a special operation that reads a poisoned lane takes the poisoned-data
trap and writes nothing, and so does one that reads a mask register whose word is poisoned; the special operation has drawn its free
values. -/
def poisonedLanesTrapBeforeAnyWrite : Prop :=
  ∀ (k : Nat) (s : State) (e : QEntry), s.dev.vecHead k = some e →
    let c := (s.dev.vecRead k e).core k
    (∀ row ∈ compareTable, grp e.word = 3 → wget e.word 47 42 = row.2.1 →
      (∃ r ∈ reads2 e.word, c.vpois r &&& c.mask (wget e.word 21 19) ≠ 0) ∨ c.maskBad e.word = true →
      Makes (row.1 k) s (vectorPoisonTrap k e (s.dev.vecRead k e))) ∧
    (∀ row ∈ specialTable, grp e.word = 3 → wget e.word 47 42 = row.2.1 →
      c.vpois (wget e.word 36 32) &&& c.mask (wget e.word 21 19) ≠ 0 ∨ c.maskBad e.word = true →
      Makes (row.1 k) s ((vectorPoisonTrap k e (s.dev.vecRead k e)).draw 256)) ∧
    (∀ row ∈ immTable, grp e.word = 12 → opc e.word = row.2.1 →
      c.vpois (wget e.word 42 38) &&& c.mask (wget e.word 37 35) ≠ 0 ∨ c.maskBad e.word = true →
      Makes (row.1 k) s (vectorPoisonTrap k e (s.dev.vecRead k e))) ∧
    (∀ row ∈ immCompareTable, grp e.word = 12 → opc e.word = row.2.1 →
      c.vpois (wget e.word 42 38) &&& c.mask (wget e.word 37 35) ≠ 0 ∨ c.maskBad e.word = true →
      Makes (row.1 k) s (vectorPoisonTrap k e (s.dev.vecRead k e))) ∧
    (grp e.word = 4 → opc e.word = 0 → c.vpois (wget e.word 42 38) &&& c.mask (wget e.word 37 35) ≠ 0 ∨ c.maskBad e.word = true →
      Makes (.cvt k) s (vectorPoisonTrap k e (s.dev.vecRead k e))) ∧
    (grp e.word = 4 → opc e.word = 1 → c.vpois (wget e.word 42 38) ≠ 0 ∨ c.maskBad e.word = true →
      Makes (.narrow k) s (vectorPoisonTrap k e (s.dev.vecRead k e))) ∧
    (grp e.word = 4 → opc e.word = 2 →
      (∃ l < 256, mbit (c.mask (wget e.word 37 35)) l = true ∧
        ∃ j ∈ widenLanes (cSrc e.word) l, j < 256 ∧ mbit (c.vpois (wget e.word 42 38)) j = true) ∨ c.maskBad e.word = true →
      Makes (.widen k) s (vectorPoisonTrap k e (s.dev.vecRead k e))) ∧
    (grp e.word = 3 → wget e.word 47 42 = 0x0C →
      c.vpois (wget e.word 36 32) &&& c.mask (wget e.word 21 19) ≠ 0 ∨
        c.vpois (wget e.word 31 27) &&& ~~~ c.mask (wget e.word 21 19) ≠ 0 ∨ c.maskBad e.word = true →
      Makes (.select k) s (vectorPoisonTrap k e (s.dev.vecRead k e))) ∧
    (grp e.word = 3 → wget e.word 47 42 = 0x1B →
      (∃ l < 256, mbit (c.mask (wget e.word 21 19)) l = true ∧
        mbit (c.vpois (wget e.word 36 32)) ((l + wget e.word 31 24) % 256) = true) ∨ c.maskBad e.word = true →
      Makes (.rotate k) s (vectorPoisonTrap k e (s.dev.vecRead k e))) ∧
    (∀ row ∈ maskTable, grp e.word = 3 → wget e.word 47 42 = row.2.1 → c.maskBad e.word = true →
      Makes (row.1 k) s (vectorPoisonTrap k e (s.dev.vecRead k e))) ∧
    (grp e.word = 12 → opc e.word = 0xF → c.maskBad e.word = true → Makes (.viMov k) s (vectorPoisonTrap k e (s.dev.vecRead k e)))

/-- A mask register is bad for a word of the vector queue when one that the word reads, m0 apart, has a word marked poisoned: the
mask that selects its lanes, the sources of an operation on masks, and a destination mask of which only part is written
(R148, R149). -/
def masksReadPoisoned : Prop :=
  ∀ (c : Core) (w : Word64), c.maskBad w = true ↔
    ∃ j ∈ maskSources w, j ≠ 0 ∧ (c.wordDiff (2048 + 2 * j) = poisonMark ∨ c.wordDiff (2048 + 2 * j + 1) = poisonMark)

/-- Registers whose words are all clean read as they are: the reads of a vector instruction then change nothing (R148). -/
def cleanRegistersReadAsTheyAre : Prop :=
  ∀ (d : Dev) (k : Nat) (e : QEntry), (d.core k).rchk = [] → d.vecRead k e = d

/-- A masked write: lanes whose bit is set take the new value and are clean, all other lanes and registers keep theirs; m0 reads
as all ones and takes no write (R135, R136). -/
def maskedWritesTouchSelectedLanesOnly : Prop :=
  (∀ (c : Core) (vd r : Nat) (sel : BitVec 256) (f : Nat → Word32) (l : Nat), l < 256 →
    lane ((c.writeLanes vd sel f).vreg r) l = (if r = vd ∧ mbit sel l = true then f l else lane (c.vreg r) l) ∧
    mbit ((c.writeLanes vd sel f).vpois r) l = (mbit (c.vpois r) l && !(decide (r = vd) && mbit sel l))) ∧
  (∀ (c : Core) (j i : Nat) (sel : BitVec 256) (f : Nat → Bool) (l : Nat), l < 256 →
    mbit ((c.writeMask j sel f).mask i) l = (if i = j ∧ i ≠ 0 ∧ mbit sel l = true then f l else mbit (c.mask i) l)) ∧
  (∀ (c : Core) (l : Nat), l < 256 → mbit (c.mask 0) l = true) ∧
  (∀ (c : Core) (vd : Nat) (sel : BitVec 256) (f : Nat → Word32),
    c.writeLanes vd sel f =
      { c with v := (c.writeLanes vd sel f).v, vp := (c.writeLanes vd sel f).vp, rchk := (c.writeLanes vd sel f).rchk }) ∧
  (∀ (c : Core) (j : Nat) (sel : BitVec 256) (f : Nat → Bool),
    c.writeMask j sel f = { c with m := (c.writeMask j sel f).m, rchk := (c.writeMask j sel f).rchk })

/-- select, rotate and the five special operations. -/
def selectRotateAndSpecialResults : Prop := selectAndRotateResults ∧ specialFunctionResults

/-- Compares, mask operations and the immediate form.
Completes here: fcmpeq, fcmpne, fcmplt, fcmple, icmpeq, icmplt, icmpltu, mand, mor, mxor, mnot, viAdd, viSub, viRsub, viMul, viMin, viMax, viCmpeq,
viCmplt, viCmple, viAnd, viOr, viXor, viShl, viShr, viSra, viMov. -/
def Obligations.MaskCompareAndImmediateResults : Prop := compareAndMaskResults ∧ immediateFormResults

/-- Poisoned sources trap before any write, and a write touches the lanes of its mask only. -/
def Obligations.PoisonTrapsAndMasksGuardEveryWrite : Prop :=
  poisonedLanesTrapBeforeAnyWrite ∧ maskedWritesTouchSelectedLanesOnly ∧ masksReadPoisoned ∧ cleanRegistersReadAsTheyAre

/-- The lanewise operations, reductions, select, rotate and the special functions.
Completes here: fadd, fsub, fmul, ffma, fmin, fmax, fabs, fneg, select, frecip, frsqrt, fsqrt, fexp2, flog2, fredadd, fredmax, fredmin, rotate, iadd,
isub, imul, vAnd, vOr, vXor, vShl, vShr, vSra, imin, imax. -/
def Obligations.VectorOperationsWriteTheirResults : Prop := vectorLaneResults ∧ selectRotateAndSpecialResults

/-! ### Matrix instructions and drains (chapters 4 and 5) -/

/-- Entry q of the matrix queue has done its work, and core k is changed by f; everything else is as before. -/
def matrixWork (k : Nat) (q : QEntry) (f : Core → Core) (d : Dev) : Dev := (d.modCore k f).finishEntry k 1 q.uid

/-- MCFG gives every engine it names its formats, mode, ovf, rnd, strides and drain base, from the word and the two scalar values
copied at issue, and leaves the others as they were (R165).
Completes here: mcfg. -/
def Obligations.McfgConfiguresTheNamedEngines : Prop :=
  ∀ (k : Nat) (s : State) (q : QEntry), k < 960 → (s.dev.core k).working 1 = some q →
    Does (.mcfg k) s fun d =>
      onlyCores s.dev d ∧ coresBut k s.dev d ∧ regsBut [] s.dev d ∧
      (∀ x < 4, (d.core k).cfg x =
        if wget q.word (44 + x) (44 + x) = 1 then
          some { opFmt := wget q.word 43 40, faceFmt := wget q.word 39 36, mode := wget q.word 35 33,
                 outFmt := wget q.word 32 29, ovf := wbit q.word 28, rnd := wbit q.word 27,
                 opStride := (q.val 0).toNat % 2 ^ 21, scStride := (q.val 0).toNat / 2 ^ 32 % 2 ^ 21,
                 drainBase := (q.val 1).toNat % 2 ^ 21, drainStride := (q.val 1).toNat / 2 ^ 32 % 2 ^ 21 }
        else (s.dev.core k).cfg x) ∧
      (d.core k).mq = (s.dev.core k).mq.map (fun x => if x.uid = q.uid then { x with finished := true } else x)

/-- MFACE loads the engines it names in rising order, the engine of rank r from source + r * S with S the size of its own source, and has
then done its work (R169). -/
def mfaceLoadsTheNamedEnginesInOrder : Prop :=
  ∀ (k : Nat) (s : State) (q : QEntry), k < 960 → (s.dev.core k).working 2 = some q →
    Makes (.mface k) s
      ((((maskEngines q.word).zipIdx.foldl (fun d x => match (s.dev.core k).cfg x.1 with
        | some g => d.loadFace k x.1 g q.word ((q.val 0).toNat + x.2 * g.faceSource (mfaceCount q.word))
        | none => d) s.dev)).finishEntry k 1 q.uid)

/-- A face load of a single-pass engine: entry j of lane l is the 32 bytes (24 for FP6, six bits to a byte) at source + (64 j + l) * 32,
its scale bytes follow all entries, and a lane whose source or scale is poisoned is poisoned (R169). -/
def faceEntriesComeFromScratch : Prop :=
  ∀ (d : Dev) (k x : Nat) (g : EngCfg) (w : Word64) (src : Nat), g.mode = 0 → x < 4 → mfaceFirst w + mfaceCount w ≤ 128 →
    let t := d.scrScrub k src (g.faceSource (mfaceCount w))
    let e := d.loadFace k x g w src
    ∀ j < mfaceCount w, ∀ l < 64,
      digit 256 ((e.core k).faceEntry x (mfaceFirst w + j)).toNat l =
        (if g.fc = .fp6 then widenFp6 (t.scrNum k (src + (64 * j + l) * 32) 24)
         else t.scrNum k (src + (64 * j + l) * 32) 32) ∧
      digit 16 ((e.core k).faceScale x (mfaceFirst w + j)).toNat l =
        (if g.fc.isMx then t.scrNum k (src + mfaceCount w * 2048 + (64 * j + l) * 2) 2 else 0x7F7F) ∧
      bitAt ((e.core k).facePois x (mfaceFirst w + j)).toNat l =
        (t.scrBad k (src + (64 * j + l) * 32) g.fc.beatBytes ||
          (g.fc.isMx && t.scrBad k (src + mfaceCount w * 2048 + (64 * j + l) * 2) 2))

/-- Work on each engine that a matrix instruction names, in rising order: the device, and how far each engine has come. -/
def onEveryEngine (k : Nat) (w : Word64) (d : Dev) (work : Dev → Nat → Nat → EngCfg → Dev × Nat) : Dev × List (Nat × Nat) :=
  (maskEngines w).zipIdx.foldl (fun a x => match (d.core k).cfg x.1 with
    | some g => ((work a.1 x.1 x.2 g).1, a.2 ++ [(x.1, (work a.1 x.1 x.2 g).2)])
    | none => a) (d, [])

/-- A run that does not close issues its remaining rows in order on every engine it names, and has then done its work; a run that closes
issues rows on each engine as long as that engine's own drain buffer takes them, and goes on later where each stopped (R118, R128). -/
def mrunIssuesItsRowsInOrder : Prop :=
  (∀ (k : Nat) (s : State) (q : QEntry), k < 960 → (s.dev.core k).working 0 = some q → mrunClose q.word = false →
    (∀ x ∈ maskEngines q.word, q.done x ≤ 2 * mrunM q.word ∧ ((s.dev.core k).cfg x).isSome = true) →
    Makes (.mrun k) s
      ((onEveryEngine k q.word s.dev fun d x _ g =>
        ((List.range (mrunM q.word - q.done x / 2)).foldl (fun d i =>
          d.runRow k x g q (q.done x / 2 + i) (if i = 0 ∧ q.done x % 2 = 1 then .late else .whole)) d, 0)).1.modEntry k 1 q.uid
        fun y => { y with
          progress := (maskEngines q.word).foldl (fun m x => smPut (fun _ => 0) m x (2 * mrunM q.word)) y.progress,
          finished := true })) ∧
  (∀ (k : Nat) (s : State) (q : QEntry), k < 960 → (s.dev.core k).working 0 = some q →
    let r := onEveryEngine k q.word s.dev fun d x rank g => d.runRows k x rank g q (q.done x) (mrunM q.word - q.done x / 2)
    Makes (.mrun k) s (r.1.modEntry k 1 q.uid fun y => { y with
      progress := r.2.foldl (fun m x => smPut (fun _ => 0) m x.1 x.2) y.progress,
      finished := r.2.all fun x => decide (2 * mrunM q.word ≤ x.2) }))

/-- Rows of a run on one engine, from where it stands: whole rows as long as the drain buffer has room for what closes them; where it has
none, the beats before the closing beat are issued, the closing beat is held, and the hold is counted (R128). -/
def heldClosingBeats : Prop :=
  ∀ (d : Dev) (k x rank : Nat) (g : EngCfg) (q : QEntry) (u n : Nat), ∃ m, m ≤ n ∧
    let e := (List.range m).foldl (fun d i =>
      d.endRow k x rank g q (u / 2 + i) (if i = 0 ∧ u % 2 = 1 then .late else .whole)) d
    let v := if m = 0 then u else 2 * (u / 2 + m)
    (m = n → d.runRows k x rank g q u n = (e, v)) ∧
    (m < n → mrunClose q.word = true ∧ (e.core k).drainFree x < g.closeNeeds ∧
      d.runRows k x rank g q u n =
        if v % 2 = 0 ∧ 1 < g.rowBeats (mrunK q.word)
        then ((e.runRow k x g q (v / 2) .early).countFree (SQ_ENG_HOLD_count k x), v + 1)
        else (e.countFree (SQ_ENG_HOLD_count k x), v))

/-- A row whose closing beat is held gives the lane the same accumulators as the row issued whole (R126, R128). -/
def heldRowsGiveTheSameSums : Prop :=
  ∀ (g : EngCfg) (lf : LaneFace) (row scales K f : Nat) (a0 a1 : Word32),
    let early := lanePart g .early lf row scales K f a0 a1
    lanePart g .late lf row scales K f early.1 early.2 = lanePart g .whole lf row scales K f a0 a1

/-- Row m of a run on one engine: each lane of its accumulator row takes the lane's group sums in order, starting from 0 where the
zero bit is set; a poisoned operand, face or scale poisons it; SQ_ENG_VALID counts its beats, and SQ_ENG_BUBBLE rises by a free number
of cycles (R119, R126, R133, R149; log entry 149). -/
def runRowAccumulatesEachLane : Prop :=
  ∀ (d : Dev) (k x : Nat) (g : EngCfg) (q : QEntry) (m : Nat), x < 4 → mrunA q.word + (m + 1) * g.accRows ≤ 128 →
    let w := q.word
    let r := mrunA w + m * g.accRows
    let mx := g.mode == 0 && g.op.isMx
    let oa := (q.val 0).toNat + m * g.opStride
    let sb := (q.val 1).toNat + m * g.scStride
    let sn := if mx then mrunK w * g.op.beatScales else 0
    let t := d.rowRead k x g q m .whole
    let a (i l : Nat) : Word32 := if mrunZero w then 0 else accLane ((t.core k).accRow x (r + i)) l
    let e := d.runRow k x g q m .whole
    (∀ l < 64,
      let out := lanePart g .whole ((t.core k).laneFace x l) (t.scrNum k oa (g.rowBytes (mrunK w))) (t.scrNum k sb sn) (mrunK w)
        (mrunF w) (a 0 l) (a 1 l)
      accLane ((e.core k).accRow x r) l = out.1 ∧ (g.accRows = 2 → accLane ((e.core k).accRow x (r + 1)) l = out.2)) ∧
    (t.scrBad k oa (g.rowBytes (mrunK w)) = true → (e.core k).accPois x r = BitVec.allOnes 64) ∧
    (∀ l < 64, ∀ j < mrunK w, bitAt ((t.core k).facePois x (mrunF w + j)).toNat l = true →
      bitAt ((e.core k).accPois x r).toNat l = true) ∧
    e.fld (SQ_ENG_VALID_count k x) = (t.fld (SQ_ENG_VALID_count k x) + g.rowBeats (mrunK w)) % 2 ^ 64 ∧
    e.fld (SQ_ENG_BUBBLE_count k x) =
      (t.fld (SQ_ENG_BUBBLE_count k x) + (Config.freeWord t.freeCtr).toNat % 2 ^ 32) % 2 ^ 64 ∧
    e.freeCtr = t.freeCtr + 1

/-- The operand register of an engine holds the beat of the single-pass row that it took last, FP6 elements one to a byte (R114). -/
def operandRegisterHoldsTheLastBeat : Prop :=
  ∀ (d : Dev) (k x : Nat) (g : EngCfg) (q : QEntry) (m : Nat), x < 4 → g.mode = 0 → g.op ≠ .fp6 →
    let t := d.rowRead k x g q m .whole
    ((d.runRow k x g q m .whole).core k).operand x = BitVec.ofNat 256
      (t.scrNum k ((q.val 0).toNat + m * g.opStride + (mrunK q.word - 1) * 32) 32)

/-- MDRAIN into a vector register: lanes 64 x to 64 x + 63 take the accumulator row of engine x where the mask names it, read through
its check bits, with its poison, without conversion and without a trap (R124, R148, R149). -/
def mdrainToVectorCopiesLanes : Prop :=
  ∀ (k : Nat) (s : State) (q : QEntry), k < 960 → (s.dev.core k).working 3 = some q → mdrainVec q.word = true →
    let t := (maskEngines q.word).foldl (fun d x => d.accRead k x (mdrainFirst q.word) 1) s.dev
    Does (.mdrain k) s fun d =>
      onlyCores t d ∧ coresBut k t d ∧ regsBut [] t d ∧
      (∀ l < 256, lane ((d.core k).vreg (mdrainVd q.word)) l =
        if wbit q.word (44 + l / 64) then accLane ((t.core k).accRow (l / 64) (mdrainFirst q.word)) (l % 64)
        else lane ((t.core k).vreg (mdrainVd q.word)) l) ∧
      (∀ l < 256, mbit ((d.core k).vpois (mdrainVd q.word)) l =
        if wbit q.word (44 + l / 64) then bitAt ((t.core k).accPois (l / 64) (mdrainFirst q.word)).toNat (l % 64)
        else mbit ((t.core k).vpois (mdrainVd q.word)) l) ∧
      (∀ r, r ≠ mdrainVd q.word → (d.core k).vreg r = (t.core k).vreg r)

/-- MDRAIN to scratch hands the rows of each engine to that engine's drain buffer, one at a time and in order, as long as it has a free
entry of its eight, and goes on later where each stopped (R123, R128, R170). -/
def mdrainToScratchFillsTheDrainBuffers : Prop :=
  (∀ (k : Nat) (s : State) (q : QEntry), k < 960 → (s.dev.core k).working 3 = some q → mdrainVec q.word = false →
    let total (x : Nat) : Nat := match (s.dev.core k).cfg x with
      | some g => (g.drainRows (mdrainFirst q.word) (mdrainCount q.word)).length
      | none => 0
    let r := onEveryEngine k q.word s.dev fun d x rank g => d.drainMany k x rank g q (q.done x) (total x - q.done x)
    Makes (.mdrain k) s (r.1.modEntry k 1 q.uid fun y => { y with
      progress := r.2.foldl (fun m x => smPut (fun _ => 0) m x.1 x.2) y.progress,
      finished := r.2.all fun x => decide (total x.1 ≤ x.2) })) ∧
  (∀ (d : Dev) (k x rank : Nat) (g : EngCfg) (q : QEntry) (i n : Nat),
    let rows := g.drainRows (mdrainFirst q.word) (mdrainCount q.word)
    i + n ≤ rows.length → ∃ m, m ≤ n ∧
      let e := ((rows.drop i).take m).foldl (fun d r => d.drainRow k g x rank r q) d
      (m < n → 8 ≤ ((e.core k).drains.filter (·.engine == x)).length) ∧ d.drainMany k x rank g q i n = (e, i + m))

/-- A row handed to a drain buffer: lane l converted to the output format with ovf, at drain base + r * stride + rank * 64 * width of core
scratch, in lane order; with rnd set the lane's stream steps and gives the draw (R98, R106, R123, R170). -/
def drainedRowsAreConverted : Prop :=
  ∀ (d : Dev) (k x rank r : Nat) (g : EngCfg) (q : QEntry), x < 4 →
    let t := d.accRead k x r (if g.mode = 4 then 2 else 1)
    let c := t.core k
    let n := g.out.bits / 8
    let e := (d.drainRow k g x rank r q).core k
    ∃ row : DrainRow, e.drains = c.drains ++ [row] ∧ row.engine = x ∧ row.uid = q.uid ∧ row.pc = q.pc ∧
      row.addr = scratchWindow k + (g.drainBase + r * g.drainStride + rank * (64 * n)) ∧ row.bytes.length = 64 * n ∧
      (∀ l < 64, (row.bytes.drop (l * n)).take n = leBytes n (encodeNum g.out g.ovf
        (if g.rnd then some (streamDraw (streamStep (c.stream (x * 64 + l)))) else none) (c.accNum g x r l))) ∧
      (row.poison = true ↔ c.accPois x r ≠ 0 ∨ (g.mode = 4 ∧ c.accPois x (r + 1) ≠ 0)) ∧
      (∀ l < 64, e.stream (x * 64 + l) = if g.rnd then streamStep (c.stream (x * 64 + l)) else c.stream (x * 64 + l))

/-- The oldest row of an engine's drain buffer is written to core scratch, poisoned where the row is, and leaves the buffer; a poisoned
row takes the poisoned-data trap after it.  It waits while an earlier instruction has still to read or write there (R128, R149, R160). -/
def drainRowWriteStoresTheOldestRow : Prop :=
  ∀ (k x : Nat) (s : State) (r : DrainRow), (s.dev.core k).drains.find? (·.engine == x) = some r →
    let d := (s.dev.modCore k fun c => { c with drains := c.drains.erase r }).write r.addr r.bytes fun _ => r.poison
    ((s.dev.core k).drainWaits k r = true → Makes (.drainRowWrite k x) s s.dev) ∧
    ((s.dev.core k).drainWaits k r = false → r.poison = false → Makes (.drainRowWrite k x) s d) ∧
    ((s.dev.core k).drainWaits k r = false → r.poison = true → Makes (.drainRowWrite k x) s (d.trap k 0x03 1 r.pc r.addr))

/-- MFACE: the engines in order, and each entry from scratch.
Completes here: mface. -/
def Obligations.MfaceLoadsFacesFromScratch : Prop := mfaceLoadsTheNamedEnginesInOrder ∧ faceEntriesComeFromScratch

/-- MDRAIN to a vector register and to scratch, and the writing of the drained rows.
Completes here: mdrain, drainRowWrite. -/
def Obligations.DrainsReachTheirDestination : Prop :=
  mdrainToVectorCopiesLanes ∧ mdrainToScratchFillsTheDrainBuffers ∧ drainedRowsAreConverted ∧ drainRowWriteStoresTheOldestRow

/-- Rows of an MRUN: their order, what holds them, and what one adds.
Completes here: mrun. -/
def Obligations.MrunRowsIssueInOrderAndAccumulate : Prop :=
  mrunIssuesItsRowsInOrder ∧ heldClosingBeats ∧ heldRowsGiveTheSameSums ∧ runRowAccumulatesEachLane ∧ operandRegisterHoldsTheLastBeat

/-! ### Queued instructions, waits, synchronisation and stops (chapter 5) -/

/-- A queued instruction issues into a free entry of its queue with the values of the scalar registers it names, and the program goes
on; a vector instruction counts in SQ_VEC_ISSUE.  A full queue makes the sequencer wait with code 7 (R156, R157). -/
def instructionIssueFillsItsQueue : Prop :=
  (∀ (k q : Nat) (s : State), s.dev.sequencing k = true → s.dev.instrBad k = false → legal (s.dev.instr k) = true →
    queueOf (s.dev.instr k) = q → q ≠ 0 → ((s.dev.core k).queue q).length < queueDepth q → s.dev.pc k < 8191 →
    Does (.instructionIssue k) s fun d =>
      (d.core k).queue q = (s.dev.core k).queue q ++
        [⟨(s.dev.core k).uid, s.dev.pc k, s.dev.instr k,
          (namedRegs (s.dev.instr k)).map fun hi => (s.dev.core k).sreg (wget (s.dev.instr k) hi (hi - 4)), false, false, []⟩] ∧
      (∀ r, r = 1 ∨ r = 2 ∨ r = 3 → r ≠ q → (d.core k).queue r = (s.dev.core k).queue r) ∧
      (∀ i, (d.core k).sreg i = (s.dev.core k).sreg i) ∧
      onlyCores s.dev d ∧ coresBut k s.dev d ∧ regsBut [SQ_STATUS k, SQ_VEC_ISSUE k] s.dev d ∧ d.pc k = s.dev.pc k + 1 ∧
      d.reg (SQ_VEC_ISSUE k) = s.dev.reg (SQ_VEC_ISSUE k) + (if q = 2 then 1 else 0)) ∧
  (∀ (k q : Nat) (s : State), s.dev.sequencing k = true → s.dev.instrBad k = false → legal (s.dev.instr k) = true →
    queueOf (s.dev.instr k) = q → q ≠ 0 → queueDepth q ≤ ((s.dev.core k).queue q).length →
    Does (.instructionIssue k) s fun d => d.fld (SQ_STATUS_wait k) = 7 ∧ d.pc k = s.dev.pc k ∧ regsBut [SQ_STATUS k] s.dev d ∧
      (∀ r, (d.core k).queue r = (s.dev.core k).queue r))

/-- An instruction with a reserved group, op or field takes the illegal-encoding trap when it is issued, in its queue; a word that reads
poisoned takes the poisoned-data trap of the sequencer (R155, R189). -/
def illegalAndPoisonedWordsTrapAtIssue : Prop :=
  (∀ (k : Nat) (s : State), s.dev.sequencing k = true → s.dev.instrBad k = false → legal (s.dev.instr k) = false →
    Does (.instructionIssue k) s fun d => d.coreState k = 2 ∧ d.reg (SQ_TRAP_ADDR k) = 0 ∧
      d.reg (SQ_TRAP k) = BitVec.ofNat 64 (0x01 + s.dev.pc k * 2 ^ 16 + queueOf (s.dev.instr k) * 2 ^ 30)) ∧
  (∀ (k : Nat) (s : State), s.dev.sequencing k = true → s.dev.instrBad k = true →
    Does (.instructionIssue k) s fun d => d.coreState k = 2 ∧
      d.reg (SQ_TRAP k) = BitVec.ofNat 64 (0x03 + s.dev.pc k * 2 ^ 16))

/-- A queue entry whose work is done leaves its queue and, with sig enabled, raises its semaphore by 1; a raise above 255 takes the
semaphore-overflow trap in its queue and leaves the semaphore at 255 (R158, R159).
Completes here: queuedInstructionComplete. -/
def Obligations.QueuedInstructionCompletionFreesItsEntry : Prop :=
  ∀ (k i : Nat) (queue : QueueName) (s : State) (e : QEntry), k < 960 → queue ≠ .sequencer →
    ((s.dev.core k).queue (queueNum queue))[i]? = some e → (s.dev.core k).entryDone e = true →
    let j := wget e.word 50 48
    Does (.queuedInstructionComplete k queue i) s fun d =>
      (wbit e.word 51 = false ∨ s.dev.sem k j < 255 → (d.core k).queue (queueNum queue) =
        ((s.dev.core k).queue (queueNum queue)).filter (fun x => x.uid != e.uid)) ∧
      (wbit e.word 51 = false → d.regs = s.dev.regs) ∧
      (wbit e.word 51 = true → s.dev.sem k j < 255 →
        d.sem k j = s.dev.sem k j + 1 ∧ (∀ i < 8, i ≠ j → d.sem k i = s.dev.sem k i) ∧ regsBut [SQ_SEM k] s.dev d) ∧
      (wbit e.word 51 = true → s.dev.sem k j = 255 → s.dev.coreState k = 1 →
        d.sem k j = 255 ∧ d.coreState k = 2 ∧
        d.reg (SQ_TRAP k) = BitVec.ofNat 64 (0x0A + e.pc % 2 ^ 13 * 2 ^ 16 + queueNum queue * 2 ^ 30))

/-- FENCE whose selected work is done, GWAIT whose frame has come, GRID_WAIT_RESUME of a core whose frame has come (with every plan, table and Map due by then switched,
R76) and TWAIT whose tally
has reached sv go on at the next index and change nothing else (R76, R180, R183, R185). -/
def satisfiedWaitsGoOn : Prop :=
  (∀ (k : Nat) (s : State), s.dev.issues k 8 0 = true → s.dev.pc k < 8191 →
    s.dev.fenceReady k (wbit (s.dev.instr k) 47) (wbit (s.dev.instr k) 46) (wbit (s.dev.instr k) 45) (wbit (s.dev.instr k) 44) = true →
    (wbit (s.dev.instr k) 45 = true → (s.dev.core k).dmaFailed = false) →
    Does (.fence k) s fun d => d.cores = s.dev.cores ∧ goesOn k (s.dev.pc k + 1) s.dev d) ∧
  (∀ (k : Nat) (s : State), s.dev.issues k 10 0 = true → s.dev.pc k < 8191 →
    ((s.dev.core k).sreg (wget (s.dev.instr k) 47 43)).toNat ≤ (s.dev.reg GD_FRAME).toNat →
    s.dev.switchDue = false →
    Does (.gwait k) s fun d => d.cores = s.dev.cores ∧ goesOn k (s.dev.pc k + 1) s.dev d) ∧
  (∀ (k : Nat) (s : State), s.dev.issues k 10 0 = true → s.dev.pc k < 8191 → s.dev.fld (SQ_STATUS_wait k) = 3 →
    ((s.dev.core k).sreg (wget (s.dev.instr k) 47 43)).toNat ≤ (s.dev.reg GD_FRAME).toNat →
    s.dev.switchDue = false →
    Does (.gridWaitResume k) s fun d => d.cores = s.dev.cores ∧ goesOn k (s.dev.pc k + 1) s.dev d) ∧
  (∀ (k : Nat) (s : State), s.dev.issues k 7 0 = true → s.dev.pc k < 8191 →
    let t := wget (s.dev.instr k) 47 32
    (s.dev.fld (HF_TALLY_count t) + 2 ^ 32 - ((s.dev.core k).sreg (wget (s.dev.instr k) 31 27)).toNat % 2 ^ 32) % 2 ^ 32 < 2 ^ 31 →
    s.dev.fld (HF_TALLY_error t) = 0 →
    Does (.twait k) s fun d => d.cores = s.dev.cores ∧ goesOn k (s.dev.pc k + 1) s.dev d)

/-- Where those instructions wait or trap: an unsatisfied FENCE, GWAIT, TWAIT or SWAIT waits with the code of Table 5-17 and keeps its
place; a GWAIT more than 2^28 frames ahead takes the wait-limit trap; a TWAIT whose tally carries an error and a FENCE after a failed
copy take the DMA-error trap with the copy's reason (R180, R183, R185). -/
def unsatisfiedWaitsWaitOrTrap : Prop :=
  (∀ (k : Nat) (s : State), s.dev.issues k 8 0 = true →
    s.dev.fenceReady k (wbit (s.dev.instr k) 47) (wbit (s.dev.instr k) 46) (wbit (s.dev.instr k) 45) (wbit (s.dev.instr k) 44) = false →
    Does (.fence k) s fun d => d.fld (SQ_STATUS_wait k) = 6 ∧ d.pc k = s.dev.pc k ∧ regsBut [SQ_STATUS k] s.dev d) ∧
  (∀ (k : Nat) (s : State), s.dev.issues k 8 0 = true → wbit (s.dev.instr k) 45 = true → (s.dev.core k).dmaFailed = true →
    s.dev.fenceReady k (wbit (s.dev.instr k) 47) (wbit (s.dev.instr k) 46) true (wbit (s.dev.instr k) 44) = true →
    Does (.fence k) s fun d => d.coreState k = 2 ∧
      d.reg (SQ_TRAP k) = BitVec.ofNat 64 (0x07 + s.dev.pc k * 2 ^ 16 + (s.dev.core k).dmaReason % 2 ^ 16 * 2 ^ 48)) ∧
  (∀ (k : Nat) (s : State), s.dev.issues k 10 0 = true → s.dev.fld (SQ_STATUS_wait k) ≠ 3 →
    (s.dev.reg GD_FRAME).toNat + 2 ^ 28 < ((s.dev.core k).sreg (wget (s.dev.instr k) 47 43)).toNat →
    Does (.gwait k) s fun d => d.coreState k = 2 ∧ d.reg (SQ_TRAP k) = BitVec.ofNat 64 (0x08 + s.dev.pc k * 2 ^ 16)) ∧
  (∀ (k : Nat) (s : State), s.dev.issues k 10 0 = true →
    ((s.dev.reg GD_FRAME).toNat < ((s.dev.core k).sreg (wget (s.dev.instr k) 47 43)).toNat ∨ s.dev.switchDue = true) →
    ((s.dev.core k).sreg (wget (s.dev.instr k) 47 43)).toNat ≤ (s.dev.reg GD_FRAME).toNat + 2 ^ 28 →
    Does (.gwait k) s fun d => d.fld (SQ_STATUS_wait k) = 3 ∧ d.pc k = s.dev.pc k ∧ regsBut [SQ_STATUS k] s.dev d) ∧
  (∀ (k : Nat) (s : State), s.dev.issues k 7 0 = true →
    let t := wget (s.dev.instr k) 47 32
    let ready := s.dev.tallyReady t ((s.dev.core k).sreg (wget (s.dev.instr k) 31 27))
    (ready = false → Does (.twait k) s fun d => d.fld (SQ_STATUS_wait k) = 1 ∧ d.pc k = s.dev.pc k ∧ regsBut [SQ_STATUS k] s.dev d) ∧
    (ready = true → s.dev.fld (HF_TALLY_error t) = 1 → Does (.twait k) s fun d => d.coreState k = 2 ∧
      d.reg (SQ_TRAP k) = BitVec.ofNat 64 (0x07 + s.dev.pc k * 2 ^ 16 + (s.dev.core k).dmaReason % 2 ^ 16 * 2 ^ 48)))

/-- SWAIT with a unit left after the queues before it lowers its semaphore by 1 and goes on, and waits otherwise; SSIG raises its
semaphore by 1 and goes on, and above 255 takes the semaphore-overflow trap (R158, R159). -/
def semaphoreInstructions : Prop :=
  (∀ (k : Nat) (s : State), s.dev.issues k 8 1 = true → s.dev.pc k < 8191 →
    let j := wget (s.dev.instr k) 47 45
    (s.dev.core k).aheadOn 4 j < s.dev.sem k j →
    Does (.swait k) s fun d => d.cores = s.dev.cores ∧ d.sem k j = s.dev.sem k j - 1 ∧ d.pc k = s.dev.pc k + 1 ∧
      (∀ i < 8, i ≠ j → d.sem k i = s.dev.sem k i) ∧ onlyRegs s.dev d ∧ regsBut [SQ_STATUS k, SQ_SEM k] s.dev d) ∧
  (∀ (k : Nat) (s : State), s.dev.issues k 8 1 = true →
    s.dev.sem k (wget (s.dev.instr k) 47 45) ≤ (s.dev.core k).aheadOn 4 (wget (s.dev.instr k) 47 45) →
    Does (.swait k) s fun d => d.fld (SQ_STATUS_wait k) = 4 ∧ d.pc k = s.dev.pc k ∧ regsBut [SQ_STATUS k] s.dev d) ∧
  (∀ (k : Nat) (s : State), s.dev.issues k 8 2 = true → s.dev.pc k < 8191 →
    let j := wget (s.dev.instr k) 47 45
    s.dev.sem k j < 255 →
    Does (.ssig k) s fun d => d.cores = s.dev.cores ∧ d.sem k j = s.dev.sem k j + 1 ∧ d.pc k = s.dev.pc k + 1 ∧
      (∀ i < 8, i ≠ j → d.sem k i = s.dev.sem k i) ∧ onlyRegs s.dev d ∧ regsBut [SQ_STATUS k, SQ_SEM k] s.dev d) ∧
  (∀ (k : Nat) (s : State), s.dev.issues k 8 2 = true → s.dev.sem k (wget (s.dev.instr k) 47 45) = 255 →
    Does (.ssig k) s fun d => d.sem k (wget (s.dev.instr k) 47 45) = 255 ∧ d.coreState k = 2 ∧
      d.reg (SQ_TRAP k) = BitVec.ofNat 64 (0x0A + s.dev.pc k * 2 ^ 16))

/-- The barrier of a BAR: its scope, its number and the unit the core belongs to. -/
def barrierOf (w : Word64) (k : Nat) (b : Barrier) : Bool :=
  b.scope == wget w 47 46 && b.id == wget w 45 42 &&
    b.unit == (if wget w 47 46 = 0 then k / 10 else if wget w 47 46 = 1 then k / 80 else 0)

/-- BAR: an arrival that is not the last waits with code 2 and stands in the barrier; the last of count arrivals releases every core of
the barrier, which is then gone; a count that differs takes the barrier trap (R184). -/
def barrierCountsArrivals : Prop :=
  ∀ (k : Nat) (s : State), s.dev.issues k 9 0 = true → s.dev.fld (SQ_STATUS_wait k) ≠ 2 →
    let w := s.dev.instr k
    let n := wget w 41 32 + 1
    (s.dev.row.barriers.find? (barrierOf w k) = none → 1 < n →
      Does (.bar k) s fun d => d.fld (SQ_STATUS_wait k) = 2 ∧ d.pc k = s.dev.pc k ∧ d.row.barriers = s.dev.row.barriers ++
        [⟨wget w 47 46, if wget w 47 46 = 0 then k / 10 else if wget w 47 46 = 1 then k / 80 else 0, wget w 45 42, n, [k]⟩]) ∧
    (s.dev.row.barriers.find? (barrierOf w k) = none → n = 1 → s.dev.pc k < 8191 →
      Does (.bar k) s fun d => goesOn k (s.dev.pc k + 1) s.dev d) ∧
    (∀ b, s.dev.row.barriers.find? (barrierOf w k) = some b → b.count = n → b.cores.length + 1 < n →
      Does (.bar k) s fun d => d.fld (SQ_STATUS_wait k) = 2 ∧ d.pc k = s.dev.pc k ∧ d.row.barriers = s.dev.row.barriers.map
        fun x => if barrierOf w k x then { x with cores := x.cores ++ [k] } else x) ∧
    (∀ b, s.dev.row.barriers.find? (barrierOf w k) = some b → b.count = n → b.cores.length + 1 = n →
      Makes (.bar k) s ((b.cores ++ [k]).foldl (fun d j => d.advance j)
        { s.dev with row := { s.dev.row with barriers := s.dev.row.barriers.filter fun x => !barrierOf w k x } })) ∧
    (∀ b, s.dev.row.barriers.find? (barrierOf w k) = some b → b.count ≠ n →
      Does (.bar k) s fun d => d.coreState k = 2 ∧ d.reg (SQ_TRAP k) = BitVec.ofNat 64 (0x09 + s.dev.pc k * 2 ^ 16))

/-- TREAD and GREAD write a tally's value and the frame count to sd; TSET sets a tally and clears its error flag; TADD adds to a tally,
wrapping.  Each goes on at the next index (R181, R185).
Completes here: tread, tset, tadd, gread. -/
def Obligations.TallyAndFrameInstructions : Prop :=
  (∀ (k : Nat) (s : State), s.dev.issues k 7 1 = true → s.dev.pc k < 8191 →
    Does (.tread k) s fun d => goesOn k (s.dev.pc k + 1) s.dev d ∧
      writesScalar k (wget (s.dev.instr k) 31 27) (BitVec.ofNat 64 (s.dev.fld (HF_TALLY_count (wget (s.dev.instr k) 47 32)))) s.dev d) ∧
  (∀ (k : Nat) (s : State), s.dev.issues k 10 1 = true → s.dev.pc k < 8191 →
    Does (.gread k) s fun d => goesOn k (s.dev.pc k + 1) s.dev d ∧
      writesScalar k (wget (s.dev.instr k) 47 43) (s.dev.reg GD_FRAME) s.dev d) ∧
  (∀ (k : Nat) (s : State), s.dev.issues k 7 2 = true → s.dev.pc k < 8191 →
    let t := wget (s.dev.instr k) 47 32
    Does (.tset k) s fun d => d.fld (HF_TALLY_error t) = 0 ∧ d.pc k = s.dev.pc k + 1 ∧
      d.fld (HF_TALLY_count t) = ((s.dev.core k).sreg (wget (s.dev.instr k) 31 27)).toNat % 2 ^ 32 ∧
      (∀ u < 65536, u ≠ t → d.reg (HF_TALLY u) = s.dev.reg (HF_TALLY u))) ∧
  (∀ (k : Nat) (s : State), s.dev.issues k 7 3 = true → s.dev.pc k < 8191 →
    let t := wget (s.dev.instr k) 47 32
    Does (.tadd k) s fun d => d.pc k = s.dev.pc k + 1 ∧ d.fld (HF_TALLY_error t) = s.dev.fld (HF_TALLY_error t) ∧
      d.fld (HF_TALLY_count t) = (s.dev.fld (HF_TALLY_count t) + wget (s.dev.instr k) 15 0) % 2 ^ 32 ∧
      (∀ u < 65536, u ≠ t → d.reg (HF_TALLY u) = s.dev.reg (HF_TALLY u)))

/-- TRAP and HALT, once all earlier work is done and no copy has failed, stop the core: TRAP in state 2 with code 0x0B and its own code,
HALT in state 4, run clear and the program counter at the next index (at the last instruction, which has no next one, it stays: log entry
146); a TWAIT, SWAIT or BAR that has waited SQ_WAIT_LIMIT frames takes
the wait-limit trap; a full fence not yet satisfied waits with code 6 (R186, R188).
Completes here: trap, halt, waitLimitExpiry. -/
def Obligations.TrapHaltAndWaitLimitStopTheCore : Prop :=
  (∀ (k : Nat) (s : State), s.dev.issues k 11 0 = true → s.dev.fenceReady k true true true true = true →
    (s.dev.core k).dmaFailed = false →
    Does (.trap k) s fun d => d.coreState k = 2 ∧ d.pc k = min (s.dev.pc k + 1) 8191 ∧ d.fld (SQ_CTRL_run k) = 0 ∧ (d.core k).swTrap = true ∧
      d.reg (SQ_TRAP k) = BitVec.ofNat 64 (0x0B + s.dev.pc k * 2 ^ 16 + wget (s.dev.instr k) 15 0 * 2 ^ 32)) ∧
  (∀ (k : Nat) (s : State), s.dev.issues k 11 1 = true → s.dev.fenceReady k true true true true = true →
    (s.dev.core k).dmaFailed = false →
    Does (.halt k) s fun d => d.coreState k = 4 ∧ d.pc k = min (s.dev.pc k + 1) 8191 ∧ d.fld (SQ_CTRL_run k) = 0 ∧
      regsBut [SQ_STATUS k, SQ_CTRL k] s.dev d ∧ coresBut k s.dev d ∧ ∀ i, (d.core k).sreg i = (s.dev.core k).sreg i) ∧
  (∀ row ∈ [((.trap : Nat → Instr), 0), (.halt, 1)], ∀ (k : Nat) (s : State), s.dev.issues k 11 row.2 = true →
    s.dev.fenceReady k true true true true = false →
    Does (row.1 k) s fun d => d.fld (SQ_STATUS_wait k) = 6 ∧ d.coreState k = 1 ∧ d.pc k = s.dev.pc k) ∧
  (∀ (k : Nat) (s : State), s.dev.sequencing k = true →
    (s.dev.fld (SQ_STATUS_wait k) = 1 ∨ s.dev.fld (SQ_STATUS_wait k) = 2 ∨ s.dev.fld (SQ_STATUS_wait k) = 4) →
    s.dev.fld (SQ_WAIT_LIMIT_limit k) ≠ 0 →
    (s.dev.core k).waitFrom + s.dev.fld (SQ_WAIT_LIMIT_limit k) ≤ (s.dev.reg GD_FRAME).toNat →
    Does (.waitLimitExpiry k) s fun d => d.coreState k = 2 ∧ d.reg (SQ_TRAP k) = BitVec.ofNat 64 (0x08 + s.dev.pc k * 2 ^ 16))

/-- INSTRUCTION_ISSUE: into the queue, waiting for a full one, and the traps taken at issue.
Completes here: instructionIssue. -/
def Obligations.InstructionIssueQueuesWaitsOrTraps : Prop := instructionIssueFillsItsQueue ∧ illegalAndPoisonedWordsTrapAtIssue

/-- TWAIT, SWAIT, FENCE and the other waits of the sequencer.
Completes here: gridWaitResume, twait, fence, gwait. -/
def Obligations.SequencerWaitsGoOnWaitOrTrap : Prop := satisfiedWaitsGoOn ∧ unsatisfiedWaitsWaitOrTrap

/-- Semaphore instructions and barriers.
Completes here: swait, ssig, bar. -/
def Obligations.SemaphoresAndBarriersCount : Prop := semaphoreInstructions ∧ barrierCountsArrivals

/-! ### Loads, stores, atomics and copies (chapters 5 and 6) -/

/-- Address of a VLD or VST entry: the base value copied at issue plus its offset, modulo 2^64 (R161). -/
def vectorAddress (e : QEntry) : Nat := wrap 64 (((e.val 0).toNat : Int) + sext 24 (wget e.word 23 0))

/-- Length of a VLD or VST: whole 32-byte beats. -/
def vectorLength (w : Word64) : Nat := (wget w 37 33 + 1) * 32

/-- VLD from present local memory loads the bytes of the range, read through the decoder, into the low lanes of vd with the poison of
their words and leaves the other lanes; VST to it stores the low bytes of vs, read
through the register's check bits and poisoned where their lanes are (R148, R174, R175). -/
def vectorLoadsAndStoresLocal : Prop :=
  (∀ (k : Nat) (s : State) (e : QEntry) (x : Nat), s.dev.vecHead k = some e → grp e.word = 5 → opc e.word = 0 →
    vectorAddress e % 32 = 0 → coreAddr (vectorAddress e) = .loc x → s.dev.present x (vectorLength e.word) = true →
    s.dev.held x (vectorLength e.word) = false →
    let n := vectorLength e.word
    let t := (s.dev.startEntry k 2 e).scrub x n
    Does (.vld k) s fun d =>
      (∀ l < 256, lane ((d.core k).vreg (wget e.word 47 43)) l =
        if 4 * l < n then BitVec.ofNat 32 (ofLe (t.bytesAt (x + 4 * l) 4)) else lane ((s.dev.core k).vreg (wget e.word 47 43)) l) ∧
      (∀ l < 256, mbit ((d.core k).vpois (wget e.word 47 43)) l =
        if 4 * l < n then t.poisonAt (x + 4 * l) else mbit ((s.dev.core k).vpois (wget e.word 47 43)) l) ∧
      (∀ r, r ≠ wget e.word 47 43 → (d.core k).vreg r = (s.dev.core k).vreg r) ∧ memorySame t d) ∧
  (∀ (k : Nat) (s : State) (e : QEntry) (x : Nat), s.dev.vecHead k = some e → grp e.word = 5 → opc e.word = 1 →
    vectorAddress e % 32 = 0 → coreAddr (vectorAddress e) = .loc x → s.dev.present x (vectorLength e.word) = true →
    s.dev.held x (vectorLength e.word) = false →
    let n := vectorLength e.word
    let t := s.dev.readRegs k fun i => decide (i / 64 = wget e.word 47 43) && decide (i % 64 * 16 < n)
    let v := (t.core k).vreg (wget e.word 47 43)
    let p := (t.core k).vpois (wget e.word 47 43)
    Makes (.vst k) s (((t.startEntry k 2 e).write x ((List.range n).map fun i => BitVec.ofNat 8 (v.toNat / 2 ^ (8 * i)))
      fun w => decide (p.toNat / 2 ^ (4 * (w - x / 16)) % 16 ≠ 0)).finishEntry k 2 e.uid))

/-- A VLD or VST whose address is not a multiple of 32 takes the misaligned trap, and one whose address is malformed or whose local range is
absent the address-fault trap, with the address, and writes nothing (R161, R162). -/
def vectorAccessAddressTraps : Prop :=
  ∀ row ∈ [((.vld : Nat → Instr), 0), (.vst, 1)], ∀ (k : Nat) (s : State) (e : QEntry),
    s.dev.vecHead k = some e → grp e.word = 5 → opc e.word = row.2 →
    let a := vectorAddress e
    let trapped (code : Nat) := ((s.dev.startEntry k 2 e).trap k code 2 e.pc a).finishEntry k 2 e.uid
    (a % 32 ≠ 0 → Makes (row.1 k) s (trapped 0x02)) ∧
    (a % 32 = 0 → coreAddr a = .bad → Makes (row.1 k) s (trapped 0x04)) ∧
    (∀ x, a % 32 = 0 → coreAddr a = .loc x → s.dev.present x (vectorLength e.word) = false → Makes (row.1 k) s (trapped 0x04))

/-- Size and address of an SLD or SST. -/
def scalarBytes (w : Word64) : Nat := 2 ^ wget w 37 36
def scalarAddress (d : Dev) (k : Nat) : Nat :=
  wrap 64 ((((d.core k).sreg (wget (d.instr k) 42 38)).toNat : Int) + sext 32 (wget (d.instr k) 31 0))

/-- SLD from present local memory writes the bytes read through the decoder to sd, zero- or sign-extended from the size, and goes on; a
poisoned word takes the poisoned-data trap.  SST to it stores the low bytes of its register and goes on, after which the Legend is checked
(R174). -/
def scalarLoadsAndStoresLocal : Prop :=
  (∀ (k : Nat) (s : State) (x : Nat), s.dev.issues k 5 2 = true →
    scalarAddress s.dev k % scalarBytes (s.dev.instr k) = 0 → coreAddr (scalarAddress s.dev k) = .loc x → inRegSpace x = false →
    s.dev.present x (scalarBytes (s.dev.instr k)) = true → s.dev.held x (scalarBytes (s.dev.instr k)) = false →
    let n := scalarBytes (s.dev.instr k)
    let t := s.dev.scrub x n
    (t.poisonAt x = false → t.pc k < 8191 →
      Does (.sld k) s fun d => memorySame t d ∧ d.pc k = s.dev.pc k + 1 ∧ ∀ i, (d.core k).sreg i =
        if i = wget (s.dev.instr k) 47 43 ∧ i ≠ 0 then
          (if wget (s.dev.instr k) 35 35 = 1 then BitVec.ofInt 64 (sext (8 * n) (ofLe (t.bytesAt x n)))
            else BitVec.ofNat 64 (ofLe (t.bytesAt x n)))
        else (s.dev.core k).sreg i) ∧
    (t.poisonAt x = true → Makes (.sld k) s (t.trap k 0x03 0 (t.pc k) (scalarAddress s.dev k)))) ∧
  (∀ (k : Nat) (s : State) (x : Nat), s.dev.issues k 5 3 = true →
    scalarAddress s.dev k % scalarBytes (s.dev.instr k) = 0 → coreAddr (scalarAddress s.dev k) = .loc x → inRegSpace x = false →
    s.dev.present x (scalarBytes (s.dev.instr k)) = true → s.dev.held x (scalarBytes (s.dev.instr k)) = false →
    Makes (.sst k) s (Dev.legendCheck ((s.dev.write x
      (leBytes (scalarBytes (s.dev.instr k)) ((s.dev.core k).sreg (wget (s.dev.instr k) 47 43)).toNat) fun _ => false).advance k)))

/-- An SLD of size 8 in register space reads the register, and an SST of size 8 there writes it once the program has gone on (R176). -/
def scalarRegisterAccesses : Prop :=
  (∀ (k : Nat) (s : State) (x : Nat), s.dev.issues k 5 2 = true → scalarBytes (s.dev.instr k) = 8 →
    scalarAddress s.dev k % 8 = 0 → coreAddr (scalarAddress s.dev k) = .loc x → inRegSpace x = true →
    Makes (.sld k) s (let r := s.dev.readReg (x - regSpaceBase)
      (r.1.modCore k fun c => c.setS (wget (s.dev.instr k) 47 43) r.2).advance k)) ∧
  (∀ (k : Nat) (s : State) (x : Nat), s.dev.issues k 5 3 = true → scalarBytes (s.dev.instr k) = 8 →
    scalarAddress s.dev k % 8 = 0 → coreAddr (scalarAddress s.dev k) = .loc x → inRegSpace x = true →
    Makes (.sst k) s (Dev.legendCheck
      ((s.dev.advance k).regWrite x 8 ((s.dev.core k).sreg (wget (s.dev.instr k) 47 43))).1))

/-- ATOM at a present local address puts its operation in the atomic unit, and the sequencer waits with code 5 for its answer, at the same
index; one at an HBM address waits there for a narrow access of cost 8 first (R204).  An address that is not a multiple of the operand
size takes the misaligned trap (R176). -/
def atomReachesTheAtomicUnit : Prop :=
  ∀ (k : Nat) (s : State), s.dev.issues k 5 4 = true →
    let w := s.dev.instr k
    let kind := wget w 27 24
    let n := if kind = 1 ∨ 9 ≤ kind ∧ kind ≤ 13 then 8 else 4
    let a := ((s.dev.core k).sreg (wget w 42 38)).toNat
    (∀ x, a % n = 0 → coreAddr a = .loc x → s.dev.present x n = true →
      Does (.atom k) s fun d =>
        (∃ j : AtomJob, d.row.atoms.map (fun y => { y with old := none }) =
            (s.dev.row.atoms ++ [j]).map (fun y => { y with old := none }) ∧ j.addr = x ∧ j.kind = kind ∧
          j.sb = ((s.dev.core k).sreg (wget w 37 33)).toNat ∧ j.sc = ((s.dev.core k).sreg (wget w 32 28)).toNat ∧
          j.reply = .access s.dev.nextId) ∧
        (d.core k).loadId = s.dev.nextId ∧ d.fld (SQ_STATUS_wait k) = 5 ∧ d.pc k = s.dev.pc k ∧
        (∀ u i, s.dev.place x = some ⟨.hbm u, i⟩ → d.ram = s.dev.ram ∧ ∃ q, d.row.narrow = s.dev.row.narrow ++ [q] ∧ q.stack = u ∧ q.cost = 8) ∧
        (∀ i, (d.core k).sreg i = (s.dev.core k).sreg i)) ∧
    (a % n ≠ 0 → Does (.atom k) s fun d => d.coreState k = 2 ∧ d.reg (SQ_TRAP k) = BitVec.ofNat 64 (0x02 + s.dev.pc k * 2 ^ 16) ∧
      d.reg (SQ_TRAP_ADDR k) = BitVec.ofNat 64 a)

/-- An SLD of a row member whose map, region and key let it through waits with code 5 for its answer behind one read request, and an SST of one
is posted as one write request; a refused SLD takes the row-refused trap with its reason (R174, R290, R306, R311). -/
def scalarRowAccessesBecomeRequests : Prop :=
  ∀ (k m x : Nat) (s : State), scalarAddress s.dev k % scalarBytes (s.dev.instr k) = 0 →
    coreAddr (scalarAddress s.dev k) = .row m x →
    let n := scalarBytes (s.dev.instr k)
    let region := s.dev.importFor m x n
    (∀ g key, s.dev.issues k 5 2 = true → s.dev.pathGate 0 (s.dev.memberFid m) = none → region = some (g, key) →
      Does (.sld k) s fun d => (d.core k).loadId = s.dev.nextId ∧ d.fld (SQ_STATUS_wait k) = 5 ∧ d.pc k = s.dev.pc k ∧
        ∃ r : RowReq, d.row.reqs = s.dev.row.reqs ++ [r] ∧ r.member = m ∧ r.kind = .read ∧ r.addr = x ∧ r.len = n ∧ r.region = g ∧
          r.key = key ∧ r.owner = .access s.dev.nextId ∧ r.sent = false) ∧
    (∀ g key, s.dev.issues k 5 3 = true → s.dev.pathGate 0 (s.dev.memberFid m) = none → region = some (g, key) →
      ∃ d : Dev, Makes (.sst k) s (Dev.legendCheck (d.advance k)) ∧
        ∃ r : RowReq, d.row.reqs = s.dev.row.reqs ++ [r] ∧ r.member = m ∧ r.kind = .write ∧ r.addr = x ∧ r.len = n ∧ r.region = g ∧
          r.key = key ∧ r.data = leBytes n ((s.dev.core k).sreg (wget (s.dev.instr k) 47 43)).toNat ∧
          r.owner = .access s.dev.nextId ∧ r.sent = false) ∧
    (∀ reason, s.dev.issues k 5 2 = true → s.dev.pathGate 0 (s.dev.memberFid m) = some reason →
      Makes (.sld k) s (s.dev.trapWith k 0x05 0 (s.dev.pc k) reason (scalarAddress s.dev k) 0)) ∧
    (s.dev.issues k 5 2 = true → s.dev.pathGate 0 (s.dev.memberFid m) = none → region = none →
      Makes (.sld k) s (s.dev.trapWith k 0x05 0 (s.dev.pc k) 0x0502 (scalarAddress s.dev k) 0))

/-- DCOPY whose addresses and length are right and whose local ranges are present starts one copy under the next name, with its tally; with
no row address it waits only for its end, with row addresses its requests wait to be sent (R177). -/
def dcopyStartsACopy : Prop :=
  ∀ (k : Nat) (s : State) (e : QEntry), s.dev.dmaHead k 6 0 = some e →
    let dst := (e.val 0).toNat
    let src := (e.val 1).toNat
    let len := (e.val 2).toNat
    let kind := CopyKind.dcopy dst src len
    let tally := if wbit e.word 32 then some (wget e.word 31 16) else none
    coreAddr dst ≠ .bad → coreAddr src ≠ .bad →
    ((dst % 32 ≠ 0 ∨ src % 32 ≠ 0 ∨ len % 32 ≠ 0) →
      Makes (.dcopy k) s (s.dev.trapEntry k 3 e 0x02 (if dst % 32 ≠ 0 then dst else src))) ∧
    (dst % 32 = 0 → src % 32 = 0 → len % 32 = 0 → 32 ≤ len → len ≤ 2 ^ 30 →
      (∀ r ∈ kind.local, s.dev.present r.1 r.2 = true) → s.dev.copyGate kind = none →
      Does (.dcopy k) s fun d =>
        d.row.copies = s.dev.row.copies ++ [⟨s.dev.nextId, k, true, e.uid, e.pc, kind, tally, [], [], []⟩] ∧
        d.row.reqs.map (fun r => { r with id := 0 }) =
          (s.dev.row.reqs ++ kind.reqs s.dev.nextId).map (fun r => { r with id := 0 }) ∧ d.ram = s.dev.ram) ∧
    (dst % 32 = 0 → src % 32 = 0 → len % 32 = 0 → (len < 32 ∨ 2 ^ 30 < len) →
      Does (.dcopy k) s fun d => d.row.reqs = s.dev.row.reqs ∧ d.ram = s.dev.ram ∧
        d.row.copies = s.dev.row.copies ++ [⟨s.dev.nextId, k, true, e.uid, e.pc, kind, tally, [(0, 0x0102)], [], []⟩])

/-- DDESC and DGATHER read their descriptor in the core's own scratch, DDESC starting a strided copy and DGATHER a gather whose
destination and index list may lie in a row; MSEND starts a message that waits to be sent (R177, R178, R182). -/
def descriptorCopiesAndMessagesStart : Prop :=
  (∀ (k : Nat) (s : State) (e : QEntry), s.dev.dmaHead k 6 1 = some e →
    let sa := (e.val 0).toNat
    let t := s.dev.scrub sa 64
    let l := t.bytesAt sa 64
    let kind := CopyKind.ddesc (leAt l 8 8) (leAt l 0 8) (leAt l 16 4) (leAt l 20 4) (sext 64 (leAt l 32 8)) (sext 64 (leAt l 24 8))
    scratchWindow k ≤ sa → sa < scratchWindow k + 2 ^ 21 → sa % 64 = 0 → (t.poisonsAt sa 64).any id = false →
    s.dev.copiesWrite k sa 64 = false → leAt l 42 2 ≤ 1 → leAt l 44 20 = 0 → 32 ≤ leAt l 16 4 → leAt l 16 4 ≤ 2 ^ 24 → 1 ≤ leAt l 20 4 → leAt l 20 4 ≤ 65536 →
    (∀ g ∈ kind.segs, coreAddr g.2.1 ≠ .bad ∧ coreAddr g.2.2.1 ≠ .bad ∧ g.2.1 % 32 = 0 ∧ g.2.2.1 % 32 = 0 ∧ g.2.2.2 % 32 = 0) →
    (∀ r ∈ kind.local, (t.startEntry k 3 e).present r.1 r.2 = true) → (t.startEntry k 3 e).copyGate kind = none →
    Does (.ddesc k) s fun d => d.row.copies = s.dev.row.copies ++
      [⟨s.dev.nextId, k, true, e.uid, e.pc, kind, if leAt l 42 2 % 2 = 1 then some (leAt l 40 2) else none, [], [], []⟩]) ∧
  (∀ (k : Nat) (s : State) (e : QEntry), s.dev.dmaHead k 6 2 = some e →
    let sa := (e.val 0).toNat
    let t := s.dev.scrub sa 64
    let l := t.bytesAt sa 64
    let count := leAt l 24 8 % 4096 + 1
    let rb := leAt l 24 8 / 2 ^ 32 % 2 ^ 13
    let table := leAt l 0 8
    let dst := leAt l 8 8
    let index := leAt l 16 8
    let kind := CopyKind.dgather dst table (leAt l 32 8) rb count index
    let c : Copy := ⟨s.dev.nextId, k, true, e.uid, e.pc, kind, if leAt l 42 2 % 2 = 1 then some (leAt l 40 2) else none, [], [], []⟩
    let u := kind.touches.1.foldl (fun d r => d.scrub r.1 r.2) t
    scratchWindow k ≤ sa → sa < scratchWindow k + 2 ^ 21 → sa % 64 = 0 → (t.poisonsAt sa 64).any id = false →
    s.dev.copiesWrite k sa 64 = false → leAt l 42 2 ≤ 1 → leAt l 44 20 = 0 → leAt l 24 8 / 4096 % 2 ^ 20 = 0 → leAt l 24 8 / 2 ^ 45 = 0 →
    32 ≤ rb → rb ≤ 4096 → coreAddr table ≠ .bad → coreAddr dst ≠ .bad → coreAddr index ≠ .bad →
    table % 32 = 0 → dst % 32 = 0 → index % 32 = 0 → rb % 32 = 0 →
    (∀ r ∈ kind.touches.1, t.held r.1 r.2 = false ∧ t.copiesWrite k r.1 r.2 = false) →
    (∀ r ∈ kind.local, (u.startEntry k 3 e).present r.1 r.2 = true) → (u.startEntry k 3 e).copyGate kind = none →
    (∀ x, coreAddr index = .loc x → ∀ j < count, ∀ a, u.gatherRow c table (leAt l 32 8) rb index j = .ok a → a % 32 = 0) →
    Does (.dgather k) s fun d => d.row.copies = s.dev.row.copies ++ [c] ∧
      (∀ y, coreAddr dst = .loc y → ∀ x, coreAddr index = .loc x → d.row.reqs = s.dev.row.reqs)) ∧
  (∀ (k : Nat) (s : State) (e : QEntry) (src : Nat), s.dev.dmaHead k 7 4 = some e → coreAddr (e.val 1).toNat = .loc src →
    1 ≤ (e.val 2).toNat → (e.val 2).toNat ≤ 65536 → s.dev.present src (e.val 2).toNat = true →
    Does (.msend k) s fun d =>
      d.row.copies = s.dev.row.copies ++ [⟨s.dev.nextId, k, true, e.uid, e.pc,
        .msend (wget (e.val 0) 19 0) (wget (e.val 0) 41 32) src (e.val 2).toNat,
        if wbit e.word 32 then some (wget e.word 31 16) else none, [], [], []⟩] ∧
      d.row.msgs = s.dev.row.msgs ++
        [⟨s.dev.nextId + 1, s.dev.nextId, wget (e.val 0) 19 0, wget (e.val 0) 41 32, [], [], false, none, 0, 0⟩])

/-- DMA_COPY_END of a copy with nothing open and no earlier overlapping copy of its queue before it stores what had come for a
destination under initialisation, moves its local bytes and ends it: a copy that succeeds raises its tally by 1 and completes its entry;
one that failed records reason, tally and count in SQ_DMA_ERR, sets the tally's error flag and then does the same.  A copy with something
open, or behind another, goes on (R160, R179).
Completes here: dmaCopyEnd. -/
def Obligations.CopyEndReportsAndCompletes : Prop :=
  ∀ (id : Nat) (s : State) (c : Copy), s.dev.findCopy id = some c →
    (s.dev.copyBusy id = true ∨ s.dev.copyBehind c = true → Makes (.dmaCopyEnd id) s s.dev) ∧
    (s.dev.copyBusy id = false → s.dev.copyBehind c = false →
      (∀ g ∈ c.late, s.dev.held (c.kind.at g.1).2 g.2.1.length = false) →
      let m := c.late.foldl (fun d g => d.writeMasked (c.kind.at g.1).2 g.2.1 g.2.2) s.dev
      (c.fails = [] → (∀ r ∈ c.kind.local, m.held r.1 r.2 = false) →
        ∀ c', (m.moveCopy c).findCopy id = some c' →
          Makes (.dmaCopyEnd id) s ((m.moveCopy c).endCopy c' (if c'.fails = [] then 0 else (firstFail c'.fails).getD 0))) ∧
      (∀ reason, c.fails ≠ [] → firstFail c.fails = some reason → reason ≠ 0 → c.live = true →
        Makes (.dmaCopyEnd id) s (m.endCopy c reason) ∧
        ∀ t, c.tally = some t → c.core < 960 → t < 65536 → reason < 65536 →
          wget ((m.endCopy c reason).reg (SQ_DMA_ERR c.core)) 63 48 = reason ∧
          (m.endCopy c reason).fld (HF_TALLY_error t) = 1 ∧
          (m.endCopy c reason).fld (HF_TALLY_count t) = (m.fld (HF_TALLY_count t) + 1) % 2 ^ 32 ∧
          ∀ x ∈ (m.endCopy c reason).row.copies, x.id ≠ c.id))

/-- VLD and VST of local memory, and the traps of their addresses.
Completes here: vld, vst. -/
def Obligations.VectorLoadsAndStores : Prop := vectorLoadsAndStoresLocal ∧ vectorAccessAddressTraps

/-- SLD and SST of local memory and of register space.
Completes here: sld, sst. -/
def Obligations.ScalarLoadsAndStores : Prop := scalarLoadsAndStoresLocal ∧ scalarRegisterAccesses

/-- ATOM, and scalar accesses to the row.
Completes here: sld, sst, atom. -/
def Obligations.AtomsAndScalarRowAccessesBecomeRequests : Prop := atomReachesTheAtomicUnit ∧ scalarRowAccessesBecomeRequests

/-- DCOPY, DDESC, DGATHER and MSEND.
Completes here: dcopy, ddesc, dgather, msend. -/
def Obligations.CopiesAndMessagesStart : Prop := dcopyStartsACopy ∧ descriptorCopiesAndMessagesStart

/-! ### The host interface and the command processor (chapter 11) -/

/-- Command id stands begun with opcode op. -/
def begun (d : Dev) (id op : Nat) (c : Cmd) : Prop := d.findCmd id = some c ∧ c.opcode = op ∧ c.phase = .begun

/-- What the host stores before a tail doorbell: bytes of its memory, and from 2^64 on words of the MSI-X table (log 135). -/
def hostStored (d : Dev) (hs : List (Nat × List (BitVec 8))) : Dev := hs.foldl Dev.hostStore d

/-- A doorbell value that names an index of its ring sets the tail, or the head of the completions; a larger one, or one of a queue pair that
does not exist, is a host error of kind 4 and changes no queue pair.  Before a tail write stand the stores of the host (R393, Table 11-17). -/
def doorbellsSetTailAndHead : Prop :=
  ∀ (q size : Nat) (v : Word64) (s : State) (hs : List (Nat × List (BitVec 8))),
    s.dev.ready = true → s.dev.cp.d3hot = false → q < 64 →
    (∀ x, s.dev.qp q = some x → (size = 4 ∨ size = 8) → v.toNat < 4096 → v.toNat < x.sqSize →
      Makes (.sqTailDoorbell q size v hs) s ((hostStored s.dev hs).modQp q fun y => { y with tail := v.toNat }) ∧
      Does (.sqTailDoorbell q size v hs) s fun d =>
        d.cp.qps = s.dev.cp.qps.map (fun y => if y.q = q then { y with tail := v.toNat } else y) ∧
        d.cp.cmds = s.dev.cp.cmds ∧ d.cp.cpls = s.dev.cp.cpls ∧ d.regs = s.dev.regs ∧ d.ram = s.dev.ram ∧
        d.host = (hs.filter (·.1 < 2 ^ 64)).foldl (fun m h => putBytes m h.1 h.2) s.dev.host ∧
        d.cp.msixTable = hs.foldl (fun m x => if 2 ^ 64 + 0x1000 ≤ x.1 ∧ x.1 < 2 ^ 64 + 0x1400 ∧ x.1 % 8 = 0 then
            smPut msixReset m (x.1 - 2 ^ 64) (BitVec.ofNat 64 (ofLe x.2)) else m)
          s.dev.cp.msixTable) ∧
    (∀ x, s.dev.qp q = some x → (size = 4 ∨ size = 8) → v.toNat < 4096 → v.toNat < x.cqSize →
      Does (.cqHeadDoorbell q size v) s fun d => d.host = s.dev.host ∧ d.regs = s.dev.regs ∧ d.ram = s.dev.ram ∧
        d.cp = { s.dev.cp with qps := s.dev.cp.qps.map fun y => if y.q = q then { y with cqHead := v.toNat } else y }) ∧
    ((∀ x, s.dev.qp q = some x → x.sqSize ≤ v.toNat ∨ 4096 ≤ v.toNat ∨ (size ≠ 4 ∧ size ≠ 8)) →
      Does (.sqTailDoorbell q size v hs) s fun d => d.cp = (hostStored s.dev hs).cp ∧ d.fld CP_HOST_ERR_kind = 4 ∧
        d.fld CP_HOST_ERR_addr = 8 * q ∧ regsBut [CP_HOST_ERR] s.dev d) ∧
    ((∀ x, s.dev.qp q = some x → x.cqSize ≤ v.toNat ∨ 4096 ≤ v.toNat ∨ (size ≠ 4 ∧ size ≠ 8)) →
      Does (.cqHeadDoorbell q size v) s fun d => d.cp = s.dev.cp ∧ d.fld CP_HOST_ERR_kind = 4 ∧
        d.fld CP_HOST_ERR_addr = 0x200 + 8 * q ∧ regsBut [CP_HOST_ERR] s.dev d)

/-- A message of a vector is sent when the vector is not masked in the table and pends when it is; a store that unmasks a pending vector sends
its message; BAR0 reads the table back, and the pending bits at 0x2000 (R384). -/
def msixVectorsSendOrPend : Prop :=
  (∀ (d : Dev) (v : Nat), v < 64 →
    ((d.msixWord (0x1008 + 16 * v)).getLsbD 32 = false → d.interrupt v = { d with cp := { d.cp with msix := d.cp.msix ++ [v] } }) ∧
    ((d.msixWord (0x1008 + 16 * v)).getLsbD 32 = true → ∃ p : Word64,
      d.interrupt v = { d with cp := { d.cp with msixPending := p } } ∧
        ∀ i < 64, p.getLsbD i = (d.cp.msixPending.getLsbD i || decide (i = v)))) ∧
  (∀ (d : Dev) (v : Nat) (x : Word64), v < 64 → d.cp.d3hot = false → d.cp.msixPending.getLsbD v = true → x.getLsbD 32 = false →
    (d.msixStore (0x1008 + 16 * v) x).cp.msix = d.cp.msix ++ [v] ∧
    (d.msixStore (0x1008 + 16 * v) x).cp.msixPending.getLsbD v = false) ∧
  (∀ (d : Dev) (off : Nat) (x : Word64), d.cp.d3hot = false → 0x1000 ≤ off → off < 0x1400 → off % 8 = 0 →
    (d.msixStore off x).bar0Read off = x ∧ d.bar0Read 0x2000 = d.cp.msixPending ∧ d.bar0Read 0x2007 = d.cp.msixPending)

/-- The turn of a queue pair has been taken: by the core of the urgent class, or else by the other three (R392). -/
def turnTaken (q : Nat) (before after : Dev) : Dev :=
  { after with cp := if before.urgentTurn = some q then { after.cp with turnUrgent := q } else { after.cp with turnAll := q } }

/-- COMMAND_BEGIN takes the entry at the head of the ring of a queue pair whose turn it is: the head moves on by one, and the command, under
the next name, begins, or is held for the frame it names or for the switches of the boundary, or goes to its target; a packet with a
reserved opcode completes with BAD_OPCODE and one that fails a check of R397 with the reason of that check (R392, R394, R397).  A queue pair
whose turn it is not stays as it is. -/
def commandsBegin : Prop :=
  ∀ (q : Nat) (s : State) (x : QPair), s.dev.qp q = some x →
    (s.dev.urgentTurn ≠ some q → s.dev.commonTurn ≠ some q → Makes (.commandBegin q) s s.dev) ∧
    (s.dev.urgentTurn = some q ∨ s.dev.commonTurn = some q →
      let head := s.dev.fld (CP_QP_sq_head q)
      let c : Cmd := ⟨s.dev.nextId, .queue q, s.dev.hostRead (x.sqBase + 64 * head) 64, .begun, [], 0, false⟩
      let t := { s.dev with nextId := s.dev.nextId + 1 }.setFld (CP_QP_sq_head q) ((head + 1) % x.sqSize)
      (t.checkOpcode c q = none → Makes (.commandBegin q) s (turnTaken q s.dev (t.complete c 0x0101))) ∧
      (∀ i, t.checkOpcode c q = some i → t.checkPacket c i (!c.isRemote) ≠ 0 →
        Makes (.commandBegin q) s (turnTaken q s.dev (t.complete c (t.checkPacket c i (!c.isRemote))))) ∧
      (∀ i, t.checkOpcode c q = some i → t.checkPacket c i (!c.isRemote) = 0 → c.isRemote = false ∨ c.target = t.fid ∧ t.rowGate c.target = none →
        Makes (.commandBegin q) s (turnTaken q s.dev (t.addCmd { c with began := t.nextId, phase :=
          if c.atFrame = true ∨ c.notBefore = true ∧ (t.frame < c.frame ∨ t.switchDue = true) then .held else .begun }))) ∧
      (∀ i, t.checkOpcode c q = some i → t.checkPacket c i (!c.isRemote) = 0 → c.isRemote = true →
        (∀ r, t.rowGate c.target = some r → Makes (.commandBegin q) s (turnTaken q s.dev (t.complete c r))) ∧
        (t.rowGate c.target = none → c.target ≠ t.fid → Does (.commandBegin q) s fun d => ∃ y : Cmd, d.cp.cmds = s.dev.cp.cmds ++ [y] ∧
          y.packet = c.packet ∧ y.origin = .queue q ∧ ∃ seq, y.phase = .away seq
            ((if c.atFrame = true ∨ c.notBefore = true then max t.frame c.frame else t.frame) + t.fld CP_REMOTE_TIMEOUT_frames) c.target)))

/-- Whether the head of a queue pair's ring may be fetched, and whose turn it is: each group serves the first such queue after the one it
served last, so that none waits while another is served twice (R80, R392, R394, R395, R405). -/
def queuesTakeTurns : Prop :=
  (∀ (d : Dev) (q : Nat) (x : QPair), d.qp q = some x →
    let c : Cmd := ⟨d.nextId, .queue x.q, d.hostRead (x.sqBase + 64 * d.fld (CP_QP_sq_head x.q)) 64, .begun, [], 0, false⟩
    (d.fetchable q = true ↔ d.flag CP_CTRL_enable = true ∧ d.beginsPaused = false ∧ x.deleting = false ∧ d.fld (CP_QP_sq_head q) ≠ x.tail ∧
      d.ringFull x = false ∧ (∀ y ∈ d.queueCmds q, y.phase ≠ .held) ∧ d.begunCount q < 256 ∧
      (c.serial = false ∨ d.queueCmds q = [] ∧ ∀ y ∈ d.cp.cpls, y.q ≠ q))) ∧
  (∀ (last q : Nat) (p : Nat → Bool), turnAfter last p = some q →
    q < 64 ∧ p q = true ∧ ∀ j < 64, p j = true → (q + 127 - last % 64) % 64 ≤ (j + 127 - last % 64) % 64) ∧
  (∀ (last : Nat) (p : Nat → Bool), turnAfter last p = none → ∀ j < 64, p j = false)

/-- AT_FRAME_BEGIN begins a held command whose frame has come, once every plan, table and Map due by then has switched; otherwise it leaves it
held (R76, R77). -/
def heldCommandsBeginAtTheirFrame : Prop :=
  ∀ (id : Nat) (s : State) (c : Cmd), s.dev.findCmd id = some c → c.phase = .held →
    (c.frame ≤ s.dev.frame → s.dev.switchDue = false →
      Does (.atFrameBegin id) s fun d => d = { s.dev with cp := d.cp } ∧ d.cp = { s.dev.cp with cmds := d.cp.cmds } ∧
        d.cp.cmds = s.dev.cp.cmds.map fun y => if y.id = id then { y with phase := .begun, began := s.dev.nextId } else y) ∧
    (s.dev.frame < c.frame ∨ s.dev.switchDue = true → Makes (.atFrameBegin id) s s.dev)

/-- COMPLETION_POST writes the oldest waiting completion of a queue pair, as the 32 bytes of Table 11-6, at the tail of its ring, moves the
tail on by one, and, where interrupts are wanted and the coalescing count is reached, gives the MSI-X message of the vector; the phase of the
ring turns as its tail wraps to 0 (R395, R398).  COALESCING_TIME_EXPIRY gives the message once the time since the first unsignalled
completion has run out (R399).  A vector that is masked pends instead (R384). -/
def completionsArePosted : Prop :=
  (∀ (q : Nat) (s : State) (x : QPair) (c : Cpl), s.dev.qp q = some x → s.dev.cp.cpls.find? (fun y => y.q == q) = some c →
    s.dev.ringFull x = false → (∀ y ∈ s.dev.cp.cmds, y.opcode ≠ 0x0103) → q < 64 → x.cqSize ≤ 4096 → 0 < x.cqSize →
    let t := s.dev.fld (CP_QP_cq_tail q)
    let signals := c.noIrq = false ∧ x.coalCount ≤ x.unsignalled + 1
    let v := s.dev.fld (CP_QP_vector q)
    Does (.completionPost q) s fun d =>
      d.host = putBytes s.dev.host (x.cqBase + 32 * t)
        (leBytes 4 c.tag ++ leBytes 2 c.reason ++ leBytes 2 (s.dev.fld (CP_QP_sq_head q)) ++ leBytes 8 (s.dev.reg GD_FRAME).toNat ++
          leBytes 4 c.w0 ++ leBytes 4 c.w1 ++ leBytes 4 c.w2 ++ leBytes 1 q ++ leBytes 1 (if c.poison then 1 else 0) ++ [0] ++
          leBytes 1 (if x.phase then 1 else 0)) ∧
      d.cp.cpls = s.dev.cp.cpls.erase c ∧ d.fld (CP_QP_cq_tail q) = (t + 1) % x.cqSize ∧ regsBut [CP_QP q] s.dev d ∧
      d.cp.msix = (if signals ∧ s.dev.msixMasked v = false then s.dev.cp.msix ++ [v] else s.dev.cp.msix) ∧
      d.cp.msixPending = (if signals ∧ s.dev.msixMasked v = true then s.dev.cp.msixPending ||| BitVec.ofNat 64 (2 ^ v)
        else s.dev.cp.msixPending) ∧ d.cp.cmds = s.dev.cp.cmds) ∧
  (∀ (q : Nat) (s : State) (x : QPair), s.dev.qp q = some x → x.unsignalled ≠ 0 → x.since + x.coalFrames ≤ s.dev.frame →
    let v := s.dev.fld (CP_QP_vector q)
    Does (.coalescingTimeExpiry q) s fun d => d = { s.dev with cp := d.cp } ∧
      d.cp = { s.dev.cp with msix := d.cp.msix, msixPending := d.cp.msixPending, qps := d.cp.qps } ∧
      (s.dev.msixMasked v = false → d.cp.msix = s.dev.cp.msix ++ [v] ∧ d.cp.msixPending = s.dev.cp.msixPending) ∧
      (s.dev.msixMasked v = true → d.cp.msix = s.dev.cp.msix ∧ d.cp.msixPending = s.dev.cp.msixPending ||| BitVec.ofNat 64 (2 ^ v)) ∧
      d.cp.qps = s.dev.cp.qps.map fun y => if y.q = q then { y with unsignalled := 0 } else y)

/-- The queue and the counter: a command of a queue pair that completes leaves the commands, adds one completion with its tag, reason and words
to those waiting, and counts in CP_CMD_CNT (R395, Table 11-17). -/
def completionsCountAndWaitForTheirRing : Prop :=
  ∀ (d : Dev) (c : Cmd) (q reason w0 w1 w2 : Nat) (poison : Bool), c.origin = .queue q →
    let e := d.complete c reason w0 w1 w2 poison
    e.cp.cmds = d.cp.cmds.filter (fun y => y.id != c.id) ∧
    e.cp.cpls = d.cp.cpls ++
      [⟨q, leAt c.packet 4 4, reason, w0 % 2 ^ 32, w1 % 2 ^ 32, w2 % 2 ^ 32, poison, bitAt (leAt c.packet 2 2) 4⟩] ∧
    regsBut [CP_CMD_CNT] d e ∧
    (reason = 0 → e.fld CP_CMD_CNT_ok = min (d.fld CP_CMD_CNT_ok + 1) (2 ^ 32 - 1) ∧ e.fld CP_CMD_CNT_failed = d.fld CP_CMD_CNT_failed) ∧
    (reason ≠ 0 → e.fld CP_CMD_CNT_failed = min (d.fld CP_CMD_CNT_failed + 1) (2 ^ 32 - 1) ∧ e.fld CP_CMD_CNT_ok = d.fld CP_CMD_CNT_ok) ∧
    e = { d with regs := e.regs, cp := e.cp }

/-- NOP completes with OK; LEGEND_READ writes the Legend and its generation; AWAIT_EVENT takes the oldest held event, or waits with at most 15
before it and is otherwise refused with QUEUE_FULL; QP_CREATE of a free number above 0 adds the queue pair of its words, and one in use is
refused with CFG_CONFLICT; QP_DELETE of a queue pair with nothing in it removes it (R391, R392, R404, R405, R413).
Completes here: nop, legendRead, qpCreate, qpDelete, awaitEvent. -/
def Obligations.AdministrativeCommands : Prop :=
  (∀ (id : Nat) (s : State) (c : Cmd), begun s.dev id 0x0100 c → Makes (.nop id) s (s.dev.complete c 0)) ∧
  (∀ (id : Nat) (s : State) (c : Cmd), begun s.dev id 0x0101 c →
    Makes (.legendRead id) s ((s.dev.hostWrite (c.p 0) s.dev.svc.legend).complete c 0 (leAt s.dev.svc.legend 4 4))) ∧
  (∀ (id : Nat) (s : State) (c : Cmd), begun s.dev id 0x0106 c →
    (∀ e t, s.dev.cp.events = e :: t → ∀ q, c.origin = .queue q →
      Does (.awaitEvent id) s fun d => d.cp.events = t ∧ d.cp.lostSince = 0 ∧ d.cp.cpls = s.dev.cp.cpls ++
        [⟨q, c.tag, 0, (e.kind + min s.dev.cp.lostSince 0xFFFF * 2 ^ 16) % 2 ^ 32, e.w1 % 2 ^ 32, e.w2 % 2 ^ 32, false, c.noIrq⟩]) ∧
    (s.dev.cp.events = [] → s.dev.awaiting.length < 16 →
      Does (.awaitEvent id) s fun d => d.cp.cpls = s.dev.cp.cpls ∧ d.cp.events = [] ∧
        d.cp.cmds = s.dev.cp.cmds.map fun y => if y.id = c.id then { y with phase := .running, aux := [] } else y) ∧
    (s.dev.cp.events = [] → 16 ≤ s.dev.awaiting.length → Makes (.awaitEvent id) s (s.dev.complete c 0x0302))) ∧
  (∀ (id : Nat) (s : State) (c : Cmd), begun s.dev id 0x0102 c →
    let q := c.p 2 / 2 ^ 32 % 64
    let sq := c.p 2 % 2 ^ 12 + 1
    let cq := c.p 2 / 2 ^ 16 % 2 ^ 12 + 1
    (q ≠ 0 → s.dev.qp q = none → 2 ≤ sq → 2 ≤ cq → c.p 0 % 4096 = 0 → c.p 1 % 4096 = 0 → bitAt (c.p 2) 40 = false →
      Does (.qpCreate id) s fun d =>
        d.cp.qps = s.dev.cp.qps ++ [⟨q, c.p 0, sq, c.p 1, cq, 0, 0, true, c.p 3 % 2 ^ 8, c.p 3 / 2 ^ 16 % 2 ^ 16, 0, 0, false⟩] ∧
        d.reg (CP_QP q) = BitVec.ofNat 64 (2 ^ 63 + c.p 2 / 2 ^ 48 % 64 * 2 ^ 56) ∧
        ∀ p, c.origin = .queue p → d.cp.cpls = s.dev.cp.cpls ++ [⟨p, c.tag, 0, 0, 0, 0, false, c.noIrq⟩]) ∧
    (q ≠ 0 → s.dev.qp q ≠ none → Makes (.qpCreate id) s (s.dev.complete c 0x0202))) ∧
  (∀ (id : Nat) (s : State) (c : Cmd) (x : QPair), begun s.dev id 0x0103 c →
    let q := c.p 0 % 64
    s.dev.qp q = some x → q ≠ 0 → x.deleting = false → x.tail = s.dev.fld (CP_QP_sq_head q) → 0 < x.sqSize →
    s.dev.queueCmds q = [] → (∀ y ∈ s.dev.cp.cpls, y.q ≠ q) → s.dev.cp.cmds = [c] → ∀ p, c.origin = .queue p → c.id = id →
    Does (.qpDelete id) s fun d => d.qp q = none ∧ d.reg (CP_QP q) = 0 ∧ d.cp.cmds = [] ∧
      d.cp.cpls = s.dev.cp.cpls ++ [⟨p, c.tag, 0, 0, 0, 0, false, c.noIrq⟩])

/-- Remote commands: a REMOTE_CMD for this device under the next name is refused with CFG_CONFLICT unless remote_accept is set, with BAD_OPCODE
when its opcode is reserved, and otherwise begins or waits for its frame; a REMOTE_CPL completes the command it answers with the results
it carries; a command whose deadline has come completes with TIMEOUT_REMOTE (R408 to R410).
Completes here: remoteCmd, remoteCpl, remoteCmdTimeout. -/
def Obligations.RemoteCommandsAreServedAnsweredAndTimedOut : Prop :=
  (∀ (rx : Nat) (s : State) (r : RxCell), s.dev.rxCell rx = some r → r.cell.cls = 4 → r.cell.bellKind = 0x30 →
    leAt r.cell.payload 8 4 = (s.dev.dropRx r).fid →
    let t := (s.dev.dropRx r).bump
    let c : Cmd := ⟨(s.dev.dropRx r).nextId, .remote (leAt r.cell.payload 0 4) (leAt r.cell.payload 4 4), sliceB r.cell.payload 16 64, .begun, [], 0, false⟩
    (t.flag CP_CTRL_remote_accept = false → Makes (.remoteCmd rx) s (t.complete c 0x0202)) ∧
    (t.flag CP_CTRL_remote_accept = true → opInfo c.opcode (c.p 0) = none → Makes (.remoteCmd rx) s (t.complete c 0x0101)) ∧
    (∀ i, t.flag CP_CTRL_remote_accept = true → opInfo c.opcode (c.p 0) = some i → t.checkPacket c i true = 0 →
      Makes (.remoteCmd rx) s (t.addCmd { c with began := t.nextId, phase :=
        if c.atFrame = true ∨ c.notBefore = true ∧ (t.frame < c.frame ∨ t.switchDue = true) then .held else .begun }))) ∧
  (∀ (rx : Nat) (s : State) (r : RxCell) (c : Cmd) (seq deadline target : Nat), s.dev.rxCell rx = some r → r.cell.cls = 4 →
    r.cell.bellKind = 0x31 → leAt r.cell.payload 8 4 = (s.dev.dropRx r).fid → (s.dev.dropRx r).cp.cmds = [c] →
    c.phase = .away seq deadline target → leAt r.cell.payload 4 4 = seq → leAt r.cell.payload 0 4 = target →
    Makes (.remoteCpl rx) s ((s.dev.dropRx r).complete c (leAt r.cell.payload 20 2) (leAt r.cell.payload 32 4) (leAt r.cell.payload 36 4)
      (leAt r.cell.payload 40 4) (bitAt (leAt r.cell.payload 45 1) 0))) ∧
  (∀ (id : Nat) (s : State) (c : Cmd) (seq deadline target : Nat), s.dev.findCmd id = some c → c.phase = .away seq deadline target →
    deadline ≤ s.dev.frame → Makes (.remoteCmdTimeout id) s (s.dev.complete c 0x0601))

/-- The host interface: setting CP_CTRL.enable with both admin rings named opens queue pair 0 as urgent; an aperture write stores its base and
valid bit unless it would map register space; a reset of the interface removes every queue pair and completion and closes it, a link
down also taking the link down; training to a listed mode records it, and to fewer lanes leaves the link down and in training; a write of the power state moves the function between D0 and D3hot
(R383, R389, R391, R411, R415). -/
def hostInterfaceOpensResetsAndMaps : Prop :=
  (∀ (v : Word64) (s : State), s.dev.ready = true → s.dev.cp.d3hot = false → s.dev.inBatch CP_CTRL = false → s.dev.flag CP_CTRL_enable = false → bitAt v.toNat 0 = true →
    s.dev.fld CP_AQ_SQ_entries ≠ 0 → s.dev.fld CP_AQ_CQ_entries ≠ 0 →
    Does (.cpCtrlEnable v) s fun d => d.fld CP_CTRL_enable = 1 ∧ d.fld CP_CTRL_remote_accept = wget v 2 2 ∧
      d.reg (CP_QP 0) = BitVec.ofNat 64 (2 ^ 63 + 2 ^ 62) ∧ regsBut [CP_CTRL, CP_QP 0] s.dev d ∧
      d.cp.qps = s.dev.cp.qps ++ [⟨0, s.dev.fld CP_AQ_SQ_base * 4096, s.dev.fld CP_AQ_SQ_entries + 1, s.dev.fld CP_AQ_CQ_base * 4096,
        s.dev.fld CP_AQ_CQ_entries + 1, 0, 0, true, 0, 0, 0, 0, false⟩]) ∧
  (∀ (k : Nat) (v : Word64) (s : State), k < 16 → s.dev.ready = true → s.dev.cp.d3hot = false → s.dev.inBatch (CP_APERTURE k) = false →
    (bitAt v.toNat 0 = false ∨ wget v 47 32 ≠ 0x0F00 →
      Does (.cpApertureWrite k v) s fun d => d.fld (CP_APERTURE_base k) = wget v 47 32 ∧ d.fld (CP_APERTURE_valid k) = wget v 0 0 ∧
        regsBut [CP_APERTURE k] s.dev d) ∧
    (bitAt v.toNat 0 = true → wget v 47 32 = 0x0F00 →
      Does (.cpApertureWrite k v) s fun d => d.fld CP_STATUS_reason = 0x0201 ∧ regsBut [CP_STATUS] s.dev d)) ∧
  (∀ (cause : HostResetCause) (s : State), ∃ t : Dev, Makes (.hostInterfaceReset cause) s t.legendCheck ∧
    t.cp.qps = [] ∧ t.cp.cpls = [] ∧ t.cp.msixTable = [] ∧ t.cp.msixPending = 0 ∧ t.cp.d3hot = false ∧ t.fld CP_CTRL_enable = 0 ∧
    (∀ k < 16, t.reg (CP_APERTURE k) = regReset (CP_APERTURE k)) ∧ (∀ q < 64, t.reg (CP_QP q) = regReset (CP_QP q)) ∧
    t.ram = s.dev.ram ∧ t.cores = s.dev.cores ∧ t.row = s.dev.row ∧ t.grid = s.dev.grid ∧ t.net = s.dev.net ∧
    (cause = .linkDown ∨ cause = .perst → t.cp.linkUp = false ∧ t.fld CP_LINK_gen = 0 ∧ t.fld CP_LINK_width = 0)) ∧
  (∀ (gen width : Nat) (s : State), 5 ≤ gen → gen ≤ 7 → (width = 4 ∨ width = 8) →
    ∃ t : Dev, Makes (.pcieLinkTrained gen width) s t.legendCheck ∧ t.fld CP_LINK_gen = gen ∧ t.fld CP_LINK_width = width ∧
      t.fld CP_LINK_flit = (if 6 ≤ gen then 1 else 0) ∧ t.cp.linkUp = true ∧ t.cp.trained = true ∧
      t.fld CP_LINK_retrains = (s.dev.fld CP_LINK_retrains + (if s.dev.cp.trained then 1 else 0)) % 2 ^ (CP_LINK_retrains.hi + 1 - CP_LINK_retrains.lo) ∧ regsBut [CP_LINK, FT_SRC_STAT 2] s.dev t) ∧
  (∀ (gen width : Nat) (s : State), width < 4 →
    ∃ t : Dev, Makes (.pcieLinkTrained gen width) s t.legendCheck ∧ t.faults = s.dev.faults ++ [⟨0x02, 2, 0, 0⟩] ∧
      t.fld CP_LINK_gen = 0 ∧ t.fld CP_LINK_width = 0 ∧ regsBut [CP_LINK, FT_SRC_STAT 2] s.dev t ∧
      t.cp = { s.dev.cp with linkUp := false }) ∧
  (∀ (b : Bool) (s : State), Makes (.powerStateChange b) s { s.dev with cp := { s.dev.cp with d3hot := b } })

/-- BAR2: a read of mapped and present bytes returns them as they stand after the decoder, with EP where a word of them is poisoned, and 0xFF
bytes before host-ready; a write inside one 4 KiB block of a mapped and present range stores its bytes, poisoned when EP is set (R385, R386). -/
def bar2AccessesReachMemory : Prop :=
  (∀ (off len : Nat) (s : State), s.dev.cp.d3hot = false → s.dev.ready = true → 1 ≤ len →
    (∀ i < len, ∃ a, s.dev.bar2Byte (off + i) = some a ∧ s.dev.held a 1 = false) →
    let addrs := (List.range len).map fun i => (s.dev.bar2Byte (off + i)).getD 0
    let t := (bar2Runs off len).foldl (fun d r => match d.bar2Byte r.2.1 with | some a => d.scrub a r.2.2 | none => d) s.dev
    (∀ i < len, (t.bar2Byte (off + i)).isSome = true) →
    Does (.bar2Read off len) s fun d => d.cp.lastRead = addrs.map t.byteAt ∧ d.cp.lastEp = addrs.any t.poisonAt ∧ d.ram = t.ram) ∧
  (∀ (off len : Nat) (s : State), s.dev.cp.d3hot = false → s.dev.ready = false →
    Does (.bar2Read off len) s fun d => d.cp.lastRead = List.replicate len 0xFF ∧ d.cp.lastEp = false ∧ d.ram = s.dev.ram ∧ d.regs = s.dev.regs) ∧
  (∀ (off : Nat) (data : List (BitVec 8)) (ep : Bool) (s : State) (a : Nat), s.dev.cp.d3hot = false → s.dev.ready = true → data ≠ [] →
    off / 4096 = (off + data.length - 1) / 4096 → s.dev.bar2Byte off = some a → s.dev.held a data.length = false →
    Makes (.bar2Write off data ep) s (s.dev.write a data fun _ => ep))

/-- What configuration space says: one function of class 0x12_0000, vendor 0x1FB7, device 0x0C10, with HF_PKG_STRAP.variant in the subsystem ID
(R382). -/
def configurationSpaceNamesTheDevice : Prop :=
  ∀ d : Dev, d.pcieIdentity.function = 0 ∧ d.pcieIdentity.classCode = 0x120000 ∧ d.pcieIdentity.vendor = 0x1FB7 ∧
    d.pcieIdentity.device = 0x0C10 ∧ d.pcieIdentity.subsystem = d.fld HF_PKG_STRAP_variant

/-- SQ_TAIL_DOORBELL, CQ_HEAD_DOORBELL, COMMAND_BEGIN and AT_FRAME_BEGIN complete as the rules say: doorbells, turns, and the beginning of
commands.
Completes here: sqTailDoorbell, cqHeadDoorbell, commandBegin, atFrameBegin. -/
def Obligations.CommandsAreFetchedAndBegin : Prop :=
  doorbellsSetTailAndHead ∧ commandsBegin ∧ queuesTakeTurns ∧ heldCommandsBeginAtTheirFrame

/-- COMPLETION_POST and COALESCING_TIME_EXPIRY complete as the rules say: completions, their count, and their MSI-X messages.
Completes here: completionPost, coalescingTimeExpiry. -/
def Obligations.QueuePairsRunAndCompletionsWait : Prop :=
  completionsCountAndWaitForTheirRing ∧ completionsArePosted ∧ msixVectorsSendOrPend

/-- HOST_INTERFACE_RESET, PCIE_LINK_TRAINED, POWER_STATE_CHANGE, BAR2_READ, BAR2_WRITE and the register rows of CP_CTRL and CP_APERTURE complete
as the rules say.
Completes here: hostInterfaceReset, pcieLinkTrained, bar2Read, bar2Write, cpCtrlEnable, cpApertureWrite, powerStateChange. -/
def Obligations.HostInterfaceOpensResetsMapsAndAccesses : Prop :=
  hostInterfaceOpensResetsAndMaps ∧ bar2AccessesReachMemory ∧ configurationSpaceNamesTheDevice

/-! ### Commands on memory, cores and units (chapters 5, 6 and 11) -/

/-- The device once a command has asked for the narrow accesses to its local ranges, which it does once (R203). -/
def narrowAsked (d : Dev) (c : Cmd) (l : List (Nat × Nat)) : Dev :=
  if c.asked then d
  else (l.foldl (fun d x => d.narrowRange (.command c.id) x.1 x.2) d).modCmd c.id fun y => { y with asked := true }

/-- A COPY that ends at its tally, when its packet names one: one arrival, with the error flag on failure. -/
def copyTallied (d : Dev) (c : Cmd) (failed : Bool) : Dev :=
  let n := c.p 3 / 2 ^ 32 % 2 ^ 16
  if bitAt (c.p 3) 2 then (if failed then d.setFld (HF_TALLY_error n) 1 else d).bumpTally n 1 else d

/-- COPY between host and local memory, each way, within local memory and within host memory moves its bytes, read through the decoder and
with their poison, once its narrow accesses have started; until then it waits.  One of a bad length is refused with BAD_LENGTH and one with
an absent range with CFG_RANGE (R203, R216, R399). -/
def copyMovesItsBytes : Prop :=
  (∀ (id : Nat) (s : State) (c : Cmd), begun s.dev id 0x0200 c → 16 ≤ c.p 2 → c.p 2 ≤ 2 ^ 34 → c.p 2 % 16 = 0 →
    let n := c.p 2
    let ranges := (if bitAt (c.p 3) 0 then [] else [(c.p 0, n)]) ++ (if bitAt (c.p 3) 1 then [] else [(c.p 1, n)])
    let t := narrowAsked s.dev c ranges
    ((∃ r ∈ ranges, s.dev.present r.1 r.2 = false) → Makes (.copy id) s ((copyTallied s.dev c true).complete c 0x0201)) ∧
    ((∀ r ∈ ranges, s.dev.present r.1 r.2 = true) → (∃ r ∈ ranges, s.dev.held r.1 r.2 = true) → Makes (.copy id) s s.dev) ∧
    ((∀ r ∈ ranges, s.dev.present r.1 r.2 = true ∧ s.dev.held r.1 r.2 = false) →
      (t.narrowBusy (.command c.id) = true → Makes (.copy id) s t) ∧
      (t.narrowBusy (.command c.id) = false →
        (bitAt (c.p 3) 0 = true → bitAt (c.p 3) 1 = false → Makes (.copy id) s
          ((copyTallied (t.write (c.p 1) (t.hostRead (c.p 0) n) fun _ => false) c false).complete c 0 (n % 2 ^ 32) (n / 2 ^ 32))) ∧
        (bitAt (c.p 3) 0 = false → bitAt (c.p 3) 1 = true →
          let u := t.scrub (c.p 0) n
          let marks := u.poisonsAt (c.p 0) n
          Makes (.copy id) s ((copyTallied (u.hostWrite (c.p 1) (u.bytesAt (c.p 0) n)
            ((List.range n).filter fun i => marks.getD ((c.p 0 % 16 + i) / 16) false)) c false).complete c 0 (n % 2 ^ 32) (n / 2 ^ 32) 0
              (marks.any fun b => b))) ∧
        (bitAt (c.p 3) 0 = false → bitAt (c.p 3) 1 = false →
          let u := t.scrub (c.p 0) n
          Makes (.copy id) s ((copyTallied (u.moveLocal (c.p 0) (c.p 1) n) c false).complete c 0 (n % 2 ^ 32) (n / 2 ^ 32) 0
            ((u.poisonsAt (c.p 0) n).any fun b => b))) ∧
        (bitAt (c.p 3) 0 = true → bitAt (c.p 3) 1 = true → Makes (.copy id) s
          ((copyTallied (t.hostWrite (c.p 1) (t.hostRead (c.p 0) n)) c false).complete c 0 (n % 2 ^ 32) (n / 2 ^ 32)))))) ∧
  (∀ (id : Nat) (s : State) (c : Cmd), begun s.dev id 0x0200 c → (c.p 2 < 16 ∨ 2 ^ 34 < c.p 2 ∨ c.p 2 % 16 ≠ 0) →
    Makes (.copy id) s ((copyTallied s.dev c true).complete c 0x0102))

/-- FILL writes its pattern over a present local range, once its narrow accesses have started; a bad length and an absent or misaligned
range are refused (R203, R399). -/
def fillWritesItsPattern : Prop :=
  ∀ (id : Nat) (s : State) (c : Cmd), begun s.dev id 0x0201 c →
    let t := narrowAsked s.dev c [(c.p 0, c.p 1)]
    (c.p 1 < 16 ∨ 2 ^ 38 < c.p 1 ∨ c.p 1 % 16 ≠ 0 → Makes (.fill id) s (s.dev.complete c 0x0102)) ∧
    (16 ≤ c.p 1 → c.p 1 ≤ 2 ^ 38 → c.p 1 % 16 = 0 →
      (c.p 0 % 16 ≠ 0 ∨ s.dev.present (c.p 0) (c.p 1) = false → Makes (.fill id) s (s.dev.complete c 0x0201)) ∧
      (c.p 0 % 16 = 0 → s.dev.present (c.p 0) (c.p 1) = true →
        (s.dev.held (c.p 0) (c.p 1) = true → Makes (.fill id) s s.dev) ∧
        (s.dev.held (c.p 0) (c.p 1) = false → t.narrowBusy (.command c.id) = true → Makes (.fill id) s t) ∧
        (s.dev.held (c.p 0) (c.p 1) = false → t.narrowBusy (.command c.id) = false →
          Makes (.fill id) s ((t.write (c.p 0) ((List.replicate (c.p 1 / 8) (leBytes 8 (c.p 2))).flatten) fun _ => false).complete c 0))))

/-- ASSAY starts a pass that runs, or is refused with the first failure of R220; ASSAY_COMPLETE reads every word of the range through the
decoder, counts what it finds, and completes with OK when no word was or became uncorrectable and with UNCORRECTABLE otherwise; ASSAY_STOP
with no such pass completes with 0, and otherwise ends the pass after a number of whole 2 KiB blocks that the spec does not give, and
completes with 1.  A summary in HBM is written once its narrow accesses have started (R203, R220, R221, log entry 31). -/
def assays : Prop :=
  (∀ (id : Nat) (s : State) (c : Cmd), begun s.dev id 0x0202 c → c.id = id →
    (s.dev.assayCheck c = 0 →
      Does (.assay id) s fun d => d = { s.dev with cp := d.cp } ∧ d.cp = { s.dev.cp with cmds := d.cp.cmds } ∧
        d.cp.cmds = s.dev.cp.cmds.map fun y => if y.id = id then { y with phase := .running, aux := [] } else y) ∧
    (s.dev.assayCheck c ≠ 0 → Makes (.assay id) s (s.dev.complete c (s.dev.assayCheck c)))) ∧
  (∀ (id : Nat) (s : State) (c : Cmd), s.dev.assays.find? (fun y => y.id == id) = some c → s.dev.assayHeld c = false →
    let t := narrowAsked s.dev c (if bitAt (c.p 2) 8 then [] else [(c.p 3, 64)])
    let r := (wordsOf (c.p 0) (c.p 1)).foldl Dev.assayWord (t, {})
    let reason := if r.2.marked = 0 ∧ r.2.poisoned = 0 then 0 else 0x0B01
    let bytes := r.1.summaryBytes (c.p 0) (c.p 1) r.2 reason false
    (t.narrowBusy (.command c.id) = true → Makes (.assayComplete id) s t) ∧
    (t.narrowBusy (.command c.id) = false → Makes (.assayComplete id) s
      ((if bitAt (c.p 2) 8 then r.1.hostWrite (c.p 3) bytes else r.1.write (c.p 3) bytes fun _ => false).complete c reason
        (min r.2.marked (2 ^ 32 - 1))))) ∧
  (∀ (id : Nat) (s : State) (c : Cmd), begun s.dev id 0x0203 c → (∀ x ∈ s.dev.assays, x.tag ≠ c.p 0) →
    Makes (.assayStop id) s (s.dev.complete c 0 0)) ∧
  (∀ (id : Nat) (s : State) (c x : Cmd), begun s.dev id 0x0203 c → s.dev.assays.find? (fun y => y.tag == c.p 0) = some x → s.dev.assayHeld x = false →
    let t := narrowAsked s.dev x (if bitAt (x.p 2) 8 then [] else [(x.p 3, 64)])
    (t.narrowBusy (.command x.id) = true → Makes (.assayStop id) s t) ∧
    (t.narrowBusy (.command x.id) = false → ∃ n, n ≤ x.p 1 ∧ (n = x.p 1 ∨ (x.p 0 + n) % 2048 = 0) ∧
      Makes (.assayStop id) s (({ t with freeCtr := t.freeCtr + 1 }.endAssay x n true).complete c 0 1)))

/-- MEMORY_INIT_DONE makes an initialising core idle, or ends the initialisation of its cluster's memory; SEAM_INIT_DONE ends that of a seam
(R150, R208).  Records of collectives whose memory is then ready are read (R345). -/
def initialisationsEnd : Prop :=
  (∀ d : Dev, d.coll.submits = [] → d.submitWaiting = d) ∧
  (∀ (die cluster core : Nat) (s : State), die < 12 → cluster < 8 → core < 10 →
    let k := die * 80 + cluster * 10 + core
    s.dev.coreState k = 6 → (∀ y ∈ s.dev.cp.cmds, y.opcode ≠ 0x0302) →
    DoesLegend (.memoryInitDone die cluster core) s fun d => ∃ t : Dev, d = t.submitWaiting ∧ t.coreState k = 0 ∧
      regsBut [SQ_STATUS k] s.dev t ∧ t.ram = s.dev.ram ∧ t.cores = s.dev.cores ∧ t.pc k = s.dev.pc k) ∧
  (∀ (die cluster : Nat) (s : State), die < 12 → cluster < 8 →
    DoesLegend (.memoryInitDone die cluster 10) s fun d => ∃ t : Dev, d = t.submitWaiting ∧ t = { s.dev with ram := t.ram } ∧
      t.ram.cells = s.dev.ram.cells ∧ (∀ x, x ∈ t.ram.clusterInit ↔ x ∈ s.dev.ram.clusterInit ∧ x ≠ die * 8 + cluster)) ∧
  (∀ (die : Nat) (s : State), Does (.seamInitDone die) s fun d => ∃ t : Dev, d = t.submitWaiting ∧ t = { s.dev with ram := t.ram } ∧
    t.ram.cells = s.dev.ram.cells ∧ t.ram.chk = s.dev.ram.chk ∧ (∀ x, x ∈ t.ram.seamInit ↔ x ∈ s.dev.ram.seamInit ∧ x ≠ die))

/-- COPY, FILL, ASSAY, ASSAY_COMPLETE, ASSAY_STOP, MEMORY_INIT_DONE and SEAM_INIT_DONE complete as the rules say.
Completes here: memoryInitDone, seamInitDone, copy, fill, assay, assayComplete, assayStop. -/
def Obligations.MemoryCommands : Prop := copyMovesItsBytes ∧ fillWritesItsPattern ∧ assays ∧ initialisationsEnd

/-- Setting SQ_CTRL.run of a core that is idle, trapped, stopped or halted starts its program: scalar registers s1 to s8 take the arguments of
the last LAUNCH and every other 0, the program counter is SQ_ENTRY.pc, the semaphores and trap registers are 0, the state is 1 and the interleave
is locked (R153, R191, R196). -/
def startingACoreSetsItsState : Prop :=
  ∀ (d : Dev) (k : Nat), k < 960 →
    let e := d.startCore k
    (∀ i, 1 ≤ i → i ≤ 8 → (e.core k).sreg i = (d.core k).args.getD (i - 1) 0) ∧ (∀ i, 8 < i → (e.core k).sreg i = 0) ∧
    (∀ r, (e.core k).vreg r = (d.core k).vreg r) ∧ e.pc k = d.fld (SQ_ENTRY_pc k) ∧ e.coreState k = 1 ∧ e.fld (SQ_CTRL_run k) = 1 ∧
    e.fld (SQ_STATUS_wait k) = 0 ∧ e.reg (SQ_SEM k) = 0 ∧ e.reg (SQ_TRAP k) = 0 ∧ e.reg (SQ_TRAP_ADDR k) = 0 ∧ e.fld HF_HBM_MODE_lock = 1 ∧
    coresBut k d e ∧ regsBut [SQ_TRAP k, SQ_TRAP_ADDR k, SQ_SEM k, SQ_STATUS k, SQ_CTRL k, HF_HBM_MODE] d e

/-- The SQ_CTRL rows: run starts a core whose check passes and is otherwise refused with its reason in SQ_STATUS; stop takes a running core to
state 3; resume takes a core that TRAP stopped back to state 1, or, where the TRAP was the last instruction, to the address-fault trap of index
8,192 (log entry 146).  A write of SQ_SR_SEED reloads the core's 256 streams (R98, R187, R188, R191). -/
def sqRegisterRows : Prop :=
  (∀ (k : Nat) (v : Word64) (s : State), k < 960 → s.dev.ready = true → s.dev.cp.d3hot = false → s.dev.regAbsent (SQ_CTRL k) = false → s.dev.inBatch (SQ_CTRL k) = false →
    s.dev.flag (SQ_CTRL_run k) = false →
    (wget v 2 0 = 1 → s.dev.coreState k ≠ 1 → s.dev.coreState k ≠ 5 → s.dev.coreState k ≠ 6 →
      DoesLegend (.sqCtrlRun k v) s fun d => d = s.dev.startCore k) ∧
    (wget v 2 0 = 1 → s.dev.coreState k = 6 →
      DoesLegend (.sqCtrlRun k v) s fun d => d.fld (SQ_STATUS_reason k) = 0x0301 ∧ d.coreState k = 6 ∧ d.fld (SQ_CTRL_run k) = 0 ∧
        regsBut [SQ_STATUS k, SQ_CTRL k] s.dev d ∧ d.cores = s.dev.cores) ∧
    (wget v 2 0 = 2 → s.dev.coreState k = 2 → (s.dev.core k).swTrap = true → s.dev.fld (SQ_TRAP_pc k) = 8191 →
      Does (.sqCtrlResume k v) s fun d => d.coreState k = 2 ∧ d.fld (SQ_CTRL_run k) = 0 ∧ d.pc k = s.dev.pc k ∧
        d.reg (SQ_TRAP k) = BitVec.ofNat 64 (0x04 + 8191 * 2 ^ 16) ∧ d.reg (SQ_TRAP_ADDR k) = 8192) ∧
    (wget v 2 0 = 2 → s.dev.coreState k = 2 → (s.dev.core k).swTrap = true → s.dev.fld (SQ_TRAP_pc k) ≠ 8191 →
      Does (.sqCtrlResume k v) s fun d => d.coreState k = 1 ∧ d.fld (SQ_CTRL_run k) = 1 ∧ d.pc k = s.dev.pc k ∧
        regsBut [SQ_STATUS k, SQ_CTRL k] s.dev d ∧ (∀ i, (d.core k).sreg i = (s.dev.core k).sreg i))) ∧
  (∀ (k : Nat) (v : Word64) (s : State), k < 960 → s.dev.ready = true → s.dev.cp.d3hot = false → s.dev.regAbsent (SQ_CTRL k) = false → s.dev.inBatch (SQ_CTRL k) = false →
    s.dev.flag (SQ_CTRL_run k) = true → s.dev.coreState k = 1 → wget v 2 0 = 5 →
    Does (.sqCtrlStop k v) s fun d => d.coreState k = 3 ∧ d.fld (SQ_CTRL_run k) = 0 ∧ d.pc k = s.dev.pc k ∧
      d.reg (SQ_TRAP k) = s.dev.reg (SQ_TRAP k) ∧ (∀ i, (d.core k).sreg i = (s.dev.core k).sreg i) ∧ coresBut k s.dev d) ∧
  (∀ (k : Nat) (v : Word64) (s : State), k < 960 → s.dev.ready = true → s.dev.cp.d3hot = false → s.dev.regAbsent (SQ_SR_SEED k) = false →
    s.dev.inBatch (SQ_SR_SEED k) = false → s.dev.refusedByRun (SQ_SR_SEED k) v = false →
    Does (.sqSrSeedWrite k v) s fun d => (∀ l < 256, (d.core k).stream l = streamSeed v l) ∧ d.reg (SQ_SR_SEED k) = v ∧
      regsBut [SQ_SR_SEED k] s.dev d ∧ coresBut k s.dev d)

/-- LAUNCH of idle cores reserves them, reads its argument block and its image once their narrow accesses have started, and starts them all;
LAUNCH_COMPLETE with every core halted completes with OK and their number, and with a trapped core with CORE_TRAPPED and the lowest such
core; STOP stops each named core in state 1 and counts them (R203, R402). -/
def launches : Prop :=
  (∀ (id : Nat) (s : State) (c : Cmd), s.dev.findCmd id = some c → c.opcode = 0x0300 → c.phase = .begun →
    (c.aux = [] → s.dev.launchCheck c ≠ 0 →
      DoesLegend (.launch id) s fun d => d = s.dev.complete c (s.dev.launchCheck c)) ∧
    (c.aux = [0] ∨ c.aux = [] ∧ s.dev.launchCheck c = 0 →
      let ranges := (c.p 2, 64) :: (if c.p 3 = 0 then [] else [(c.p 3, 8 * (c.p 4 % 2 ^ 14))])
      let t := if c.aux = [] then s.dev.modCmd c.id fun y => { y with aux := [0] } else s.dev
      let u := narrowAsked t c ranges
      (∀ r ∈ ranges, t.present r.1 r.2 = true ∧ t.held r.1 r.2 = false) →
      (u.narrowBusy (.command c.id) = true → DoesLegend (.launch id) s fun d => d = u) ∧
      (u.narrowBusy (.command c.id) = false →
        let v := u.scrub (c.p 2) 64
        ((v.poisonsAt (c.p 2) 64).any fun b => b) = false →
        let w := ((if c.p 3 = 0 then v else v.loadImage c.cores (c.p 3) (c.p 4 % 2 ^ 14)).loadArgs c.cores (c.p 1)
          ((List.range 8).map fun i => BitVec.ofNat 64 (ofLe (v.bytesAt (c.p 2 + 8 * i) 8)))).modCmd c.id fun y => { y with aux := [1] }
        ∀ c', w.findCmd id = some c' → c'.phase = .begun → c'.aux = [1] →
          DoesLegend (.launch id) s fun d => d = (c'.cores.foldl (fun d k => (d.runCore k).1) w).keepCmd c' [1]))) ∧
  (∀ (id : Nat) (s : State) (c : Cmd), s.dev.findCmd id = some c → c.opcode = 0x0300 → c.phase = .running →
    ((∀ k ∈ c.cores, s.dev.coreState k = 4) → Makes (.launchComplete id) s (s.dev.complete c 0 c.cores.length 0xFFFF 0)) ∧
    (∀ k, (∀ j ∈ c.cores, s.dev.coreState j ≠ 1) → c.cores.find? (fun j => s.dev.coreState j == 2 || s.dev.coreState j == 3) = some k →
      s.dev.coreState k = 2 →
      Makes (.launchComplete id) s (s.dev.complete c 0x0C02 (c.cores.filter fun j => s.dev.coreState j == 4).length
        (k + wget (s.dev.reg (SQ_TRAP k)) 7 0 * 2 ^ 16) (wget (s.dev.reg (SQ_TRAP k)) 28 16)))) ∧
  (∀ (id : Nat) (s : State) (c : Cmd) (l : List Nat), begun s.dev id 0x0301 c → selCores (c.p 0) = some l →
    Makes (.stop id) s (((l.filter fun k => s.dev.coreState k == 1).foldl Dev.stopCore s.dev).complete c 0
      (l.filter fun k => s.dev.coreState k == 1).length))

/-- The image of a launch stands in the instruction store of every core it names, word by word as read through the decoder (R402). -/
def launchImagesReachTheStores : Prop :=
  ∀ (d : Dev) (cores : List Nat) (a len k i : Nat), (∀ j ∈ cores, j < 960) → k ∈ cores → len ≤ 8192 → i < len →
    (d.loadImage cores a len).reg (istore k i) = BitVec.ofNat 64 (ofLe ((d.scrub a (8 * len)).bytesAt (a + 8 * i) 8))

/-- RESET of a core, a cluster or a compute die, refused with BUSY_RUNNING while one of its cores runs, leaves each core in service blank and
initialising, and the memories of the domain zero and being initialised; of a drift, leaves the drift as its reset does; of scope 0, completes
first, and MODULE_RESET_DELAYED resets the module once the completion has been posted.  A reserved scope is refused with BAD_FIELD and a core
number above 79 with CFG_RANGE (R40, R150, R208, R403). -/
def resets : Prop :=
  (∀ (id : Nat) (s : State) (c : Cmd), begun s.dev id 0x0104 c → c.p 0 % 8 = 3 →
    let k := c.p 0 / 2 ^ 8 % 16 * 80 + c.p 0 / 2 ^ 16 % 256
    (80 ≤ c.p 0 / 2 ^ 16 % 256 → DoesLegend (.reset id) s fun d => d = s.dev.complete c 0x0201) ∧
    (c.p 0 / 2 ^ 16 % 256 < 80 →
      (s.dev.coreState k = 1 → DoesLegend (.reset id) s fun d => d = s.dev.complete c 0x0301) ∧
      (s.dev.coreState k = 5 → DoesLegend (.reset id) s fun d => d = s.dev.complete c 0) ∧
      (s.dev.coreState k ≠ 1 → s.dev.coreState k ≠ 5 → k < 960 →
        DoesLegend (.reset id) s fun d => ∃ t : Dev, d = t.complete c 0 ∧ t.coreState k = 6 ∧ t.core k = {} ∧ coresBut k s.dev t ∧
          (∀ off, corePage k ≤ off → off < corePage k + 0x1000 → off ≠ SQ_STATUS k → t.reg off = regReset off) ∧
          (∀ i < 2 ^ 21, t.cell (scratchWindow k + i) = 0)))) ∧
  (∀ (id : Nat) (s : State) (c : Cmd), begun s.dev id 0x0104 c → c.p 0 % 8 = 2 →
    let die := c.p 0 / 2 ^ 8 % 16
    let cl := c.p 0 / 2 ^ 12 % 8
    ((∃ k ∈ coresOfCluster die cl, s.dev.coreState k = 1) → DoesLegend (.reset id) s fun d => d = s.dev.complete c 0x0301) ∧
    ((∀ k ∈ coresOfCluster die cl, s.dev.coreState k ≠ 1) → die < 12 →
      DoesLegend (.reset id) s fun d => ∃ t : Dev, d = t.complete c 0 ∧
        (∀ k ∈ coresOfCluster die cl, s.dev.coreState k ≠ 5 → t.coreState k = 6 ∧ t.core k = {}) ∧
        (∀ k, k ∉ coresOfCluster die cl → t.core k = s.dev.core k) ∧
        (∀ i < 2 ^ 24, t.cell (clusterWindow die cl + i) = 0) ∧ die * 8 + cl ∈ t.ram.clusterInit)) ∧
  (∀ (id : Nat) (s : State) (c : Cmd), begun s.dev id 0x0104 c → c.p 0 % 8 = 1 →
    let die := c.p 0 / 2 ^ 8 % 16
    ((∃ k ∈ coresOfDie die, s.dev.coreState k = 1) → DoesLegend (.reset id) s fun d => d = s.dev.complete c 0x0301) ∧
    ((∀ k ∈ coresOfDie die, s.dev.coreState k ≠ 1) → die < 12 →
      DoesLegend (.reset id) s fun d => ∃ t : Dev, d = t.complete c 0 ∧
        (∀ k ∈ coresOfDie die, s.dev.coreState k ≠ 5 → t.coreState k = 6 ∧ t.core k = {}) ∧
        (∀ k, k ∉ coresOfDie die → t.core k = s.dev.core k) ∧
        (∀ i < 2 ^ 30, t.cell (seamBase + die * 2 ^ 30 + i) = 0) ∧ die ∈ t.ram.seamInit)) ∧
  (∀ (id : Nat) (s : State) (c : Cmd), begun s.dev id 0x0104 c →
    (c.p 0 % 8 = 4 → DoesLegend (.reset id) s fun d => d = (s.dev.driftReset (c.p 0 / 2 ^ 12 % 8)).complete c 0) ∧
    (4 < c.p 0 % 8 → DoesLegend (.reset id) s fun d => d = s.dev.complete c 0x0103) ∧
    (∀ q, c.p 0 % 8 = 0 → c.origin = .queue q →
      DoesLegend (.reset id) s fun d => d.cp.resetDue = some (q, c.tag) ∧ d.ram = s.dev.ram ∧ d.cores = s.dev.cores)) ∧
  (∀ (s : State) (q tag : Nat), s.dev.cp.resetDue = some (q, tag) →
    ((∀ x ∈ s.dev.cp.cpls, ¬ (x.q = q ∧ x.tag = tag)) → Makes .moduleResetDelayed s s.dev.moduleReset) ∧
    ((∃ x ∈ s.dev.cp.cpls, x.q = q ∧ x.tag = tag) → Makes .moduleResetDelayed s s.dev))

/-- REG_WRITE performs the write and completes with the reason it records; SPARE_SWAP gives a stopped core to its cluster's spare; BIST records
its result and completes with it; OFFLINE and ONLINE of a cluster or a compute die take it out of the Legend and return it; DRIFT_OFFLINE clears the drift's
enable and completes; DRIFT_RETEST brings the drift up again and waits, and one whose contour is not loaded is refused (R190, R262, R406). -/
def unitCommands : Prop :=
  (∀ (id : Nat) (s : State) (c : Cmd), begun s.dev id 0x0105 c →
    let r := s.dev.regWrite (c.p 0) 8 (BitVec.ofNat 64 (c.p 1))
    DoesLegend (.regWrite id) s fun d => d = r.1.complete c r.2) ∧
  (∀ (id : Nat) (s : State) (c : Cmd), begun s.dev id 0x0302 c → c.p 0 / 2 ^ 8 % 128 < 80 → c.p 0 % 16 < 12 →
    let die := c.p 0 % 16
    let k := die * 80 + c.p 0 / 2 ^ 8 % 128
    let cl := k % 80 / 10
    s.dev.spareActive die cl = false → s.dev.spareGood die cl = true → die * 8 + cl ∉ s.dev.svc.clustersOff →
    (s.dev.coreState k = 2 ∨ s.dev.coreState k = 3 ∨ s.dev.coreState k = 5) → c.id = id →
    DoesLegend (.spareSwap id) s fun d => d.flag (SQ_REMAP_active die cl) = true ∧ d.fld (SQ_REMAP_position die cl) = k % 10 ∧
      d.coreState k = 6 ∧ d.core k = {} ∧ coresBut k s.dev d ∧
      d.cp.cmds = s.dev.cp.cmds.map fun y => if y.id = id then { y with phase := .running, aux := [k] } else y) ∧
  (∀ (id : Nat) (pass : Bool) (s : State) (c : Cmd), begun s.dev id 0x0303 c → c.p 0 / 2 ^ 8 % 16 ≤ 10 →
    let x := physOf (c.p 0 % 16) (c.p 0 / 2 ^ 4 % 8) (c.p 0 / 2 ^ 8 % 16)
    (∀ k, s.dev.logicalOf (c.p 0 % 16) (c.p 0 / 2 ^ 4 % 8) (c.p 0 / 2 ^ 8 % 16) = some k → s.dev.coreState k ≠ 1 ∧ s.dev.coreState k ≠ 6) →
    DoesLegend (.bist id pass) s fun d => (x ∈ d.svc.failed ↔ pass = false) ∧
      (∀ y, y ≠ x → (y ∈ d.svc.failed ↔ y ∈ s.dev.svc.failed)) ∧
      d.faults = s.dev.faults ++ (if pass then [] else [⟨0x98 + c.p 0 % 16, 1, 0, 0⟩]) ∧
      ∀ p, c.origin = .queue p → d.cp.cpls = s.dev.cp.cpls ++ [⟨p, c.tag, 0, if pass then 1 else 0, 0, 0, false, c.noIrq⟩]) ∧
  (∀ (id : Nat) (s : State) (c : Cmd), begun s.dev id 0x0304 c → bitAt (c.p 0) 0 = true →
    let die := c.p 0 / 2 ^ 8 % 16
    ((∃ k ∈ coresOfDie die, s.dev.coreState k = 1) → DoesLegend (.offline id) s fun d => d = s.dev.complete c 0x0301) ∧
    ((∀ k ∈ coresOfDie die, s.dev.coreState k ≠ 1) → die < 12 →
      DoesLegend (.offline id) s fun d => ∃ t : Dev, d = ((t.event 2 (0x100 + die) 0).endSwaps).complete c 0 ∧ t.dieUp die = false ∧
        (∀ k ∈ coresOfDie die, t.coreState k = 5 ∧ t.core k = {}) ∧ (∀ k, k ∉ coresOfDie die → t.core k = s.dev.core k))) ∧
  (∀ (id : Nat) (failed : List Nat) (pass : Bool) (s : State) (c : Cmd), begun s.dev id 0x0305 c → bitAt (c.p 0) 0 = true →
    let die := c.p 0 / 2 ^ 8 % 16
    (s.dev.dieUp die = true → DoesLegend (.online id failed pass) s fun d => d = s.dev.complete c 0x0202) ∧
    (s.dev.dieUp die = false → DoesLegend (.online id failed false) s fun d => d = (s.dev.raise (0x98 + die) 1 0 0).complete c 0 0) ∧
    (s.dev.dieUp die = false → die < 12 → DoesLegend (.online id failed true) s fun d => ∃ t : Dev,
      d = (t.event 2 (0x100 + die) 1).complete c 0 1 ∧ t.dieUp die = true ∧ ∀ cl < 8, t.clusterUp die cl = true)) ∧
  (∀ (id : Nat) (s : State) (c : Cmd), begun s.dev id 0x0304 c → bitAt (c.p 0) 0 = false →
    let die := c.p 0 / 2 ^ 8 % 16
    let cl := c.p 0 / 2 ^ 12 % 8
    s.dev.clusterUp die cl = true → (∀ k ∈ coresOfCluster die cl, s.dev.coreState k ≠ 1) →
    DoesLegend (.offline id) s fun d => d.clusterUp die cl = false ∧ (∀ k ∈ coresOfCluster die cl, d.coreState k = 5) ∧
      (∀ k, k ∉ coresOfCluster die cl → d.core k = s.dev.core k)) ∧
  (∀ (id : Nat) (failed : List Nat) (s : State) (c : Cmd), begun s.dev id 0x0305 c → bitAt (c.p 0) 0 = false →
    let die := c.p 0 / 2 ^ 8 % 16
    let cl := c.p 0 / 2 ^ 12 % 8
    s.dev.dieUp die = true → s.dev.clusterUp die cl = false →
    DoesLegend (.online id failed true) s (fun d => d.clusterUp die cl = true ∧ die * 8 + cl ∉ d.svc.clustersOff) ∧
    DoesLegend (.online id failed false) s fun d => d = (s.dev.raise (0x98 + die) 1 0 0).complete c 0 0) ∧
  (∀ (id : Nat) (s : State) (c : Cmd), begun s.dev id 0x0701 c →
    DoesLegend (.driftOffline id) s fun d => d = (s.dev.driftOff (c.p 0 % 8)).complete c 0) ∧
  (∀ (id : Nat) (s : State) (c : Cmd), begun s.dev id 0x0702 c →
    let n := c.p 0 % 8
    let t := if s.dev.flag (DR_CTRL_enable n) then s.dev.driftOff n else s.dev
    ((t.drift n).loaded = false → DoesLegend (.driftRetest id) s fun d => d = t.complete c 0x0201) ∧
    ((t.drift n).loaded = true → t.keepsDark n = true → DoesLegend (.driftRetest id) s fun d => d = (t.driftOn n).complete c 0 0) ∧
    ((t.drift n).loaded = true → t.keepsDark n = false →
      DoesLegend (.driftRetest id) s fun d => d = (t.driftOn n).keepCmd c [n]))

/-- RESET, MODULE_RESET_DELAYED, REG_WRITE, SPARE_SWAP, BIST, OFFLINE, ONLINE, DRIFT_OFFLINE and DRIFT_RETEST complete as the rules say.
Completes here: reset, moduleResetDelayed, regWrite, spareSwap, bist, offline, online, driftOffline, driftRetest. -/
def Obligations.ServiceCommands : Prop := resets ∧ unitCommands

/-- SQ_CTRL_RUN, SQ_CTRL_STOP, SQ_CTRL_RESUME, SQ_SR_SEED_WRITE, LAUNCH, LAUNCH_COMPLETE and STOP complete as the rules say.
Completes here: launch, launchComplete, stop, sqCtrlRun, sqCtrlStop, sqCtrlResume, sqSrSeedWrite. -/
def Obligations.CoresStartStopAndAreLaunched : Prop :=
  startingACoreSetsItsState ∧ sqRegisterRows ∧ launches ∧ launchImagesReachTheStores

/-! ### Power, the sideband ports and module reset (chapters 1, 13 and 15) -/

/-- A module reset leaves every register but TM_SHUTDOWN at its reset value, every memory zero and every core blank, and keeps the standby
controller, the flash, the test port, the repaired rows and the host's memory (R40). -/
def moduleResets : Prop :=
  ∀ (s : State), s.dev.pw.phase = .on →
    Does .moduleReset s fun d => (∀ off, off ≠ TM_SHUTDOWN → d.reg off = regReset off) ∧ d.reg TM_SHUTDOWN = s.dev.reg TM_SHUTDOWN ∧
      (∀ a, d.cell a = 0) ∧ (∀ k, d.core k = {}) ∧ d.cp.cmds = [] ∧ d.cp.qps = [] ∧ d.host = s.dev.host ∧ d.pw = s.dev.pw ∧
      d.flash = s.dev.flash ∧ d.tap = s.dev.tap ∧ d.svc.repairs = s.dev.svc.repairs

/-- Power-up begins at step 1 when PWR_EN or the main input comes with every input in range and nothing holds the rails off; a rail fault
outlasts the main input but not a cycle of PWR_EN; each step leads to the next, and step 6 to main power good (R463, R464). -/
def railsComeUp : Prop :=
  (∀ (m a b : Nat) (s : State), s.dev.pw.phase = .off → s.dev.pw.pwrEn = false →
    (40000 ≤ m → m ≤ 60000 → 11400 ≤ a → a ≤ 12600 → 3135 ≤ b → b ≤ 3465 →
      Makes (.pwrEnAssert m a b) s { s.dev with pw := { s.dev.pw with
        phase := .up 1, pwrEn := true, hold := .none, mainMv := m, auxMv := a, standbyMv := b, deadDies := [], deadDrifts := [] } }) ∧
    (m < 40000 ∨ 60000 < m ∨ a < 11400 ∨ 12600 < a ∨ b < 3135 ∨ 3465 < b →
      Makes (.pwrEnAssert m a b) s { s.dev with pw := { s.dev.pw with
        pwrEn := true, hold := .none, mainMv := m, auxMv := a, standbyMv := b } })) ∧
  (∀ (m : Nat) (s : State), s.dev.pw.phase = .off → 40000 ≤ m → m ≤ 60000 →
    (s.dev.pw.pwrEn = true → s.dev.pw.hold ≠ .railFault → 11400 ≤ s.dev.pw.auxMv → s.dev.pw.auxMv ≤ 12600 → 3135 ≤ s.dev.pw.standbyMv →
      s.dev.pw.standbyMv ≤ 3465 →
      Makes (.mainInputApplied m) s { s.dev with pw := { s.dev.pw with
        phase := .up 1, hold := .none, mainMv := m, deadDies := [], deadDrifts := [] } }) ∧
    (s.dev.pw.hold = .railFault → Makes (.mainInputApplied m) s { s.dev with pw := { s.dev.pw with mainMv := m } })) ∧
  (∀ (n : Nat) (s : State), s.dev.pw.phase = .up n →
    (n < 6 → Makes .railStepDone s { s.dev with pw := { s.dev.pw with phase := .up (n + 1) } }) ∧
    (n = 6 → Makes .railStepDone s { s.dev with pw := { s.dev.pw with phase := .on } }))

/-- A rail that misses its time in its own step costs a compute die or a drift only that unit; any other rail turns every rail off with its
number recorded in TM_SHUTDOWN under cause 2 (R464, Table 13-11). -/
def railsMissTheirTime : Prop :=
  ∀ (rail n : Nat) (s : State), s.dev.pw.phase = .up n → railStep rail = n → rail < 54 →
    (rail < 24 → Does (.railTimeout rail) s fun d => d = { s.dev with pw := { s.dev.pw with deadDies := d.pw.deadDies } } ∧
      ∀ k, k ∈ d.pw.deadDies ↔ k = rail % 12 ∨ k ∈ s.dev.pw.deadDies) ∧
    (41 ≤ rail → rail < 53 → Does (.railTimeout rail) s fun d => d = { s.dev with pw := { s.dev.pw with deadDrifts := d.pw.deadDrifts } } ∧
      ∀ k, k ∈ d.pw.deadDrifts ↔ k = (rail - 41) % 6 ∨ k ∈ s.dev.pw.deadDrifts) ∧
    (24 ≤ rail → (rail < 41 ∨ rail = 53) → Does (.railTimeout rail) s fun d =>
      d = { s.dev with regs := d.regs, pw := { s.dev.pw with phase := .down n, hold := .railFault, railFault := true } } ∧
      regsBut [TM_SHUTDOWN] s.dev d ∧ d.fld TM_SHUTDOWN_valid = 1 ∧ d.fld TM_SHUTDOWN_cause = 2 ∧ d.fld TM_SHUTDOWN_where = rail)

/-- PWR_EN low sends the rails down from the step they have reached, and each step of power-down leads to the one before it; the step that loses
the compute dies takes every core to state 5, the one that loses the stacks closes them, and the headframe's loses what a module reset
resets; the last leaves the rails off, or begins power-up again where R463 allows it (R465). -/
def railsGoDown : Prop :=
  (∀ (s : State), s.dev.pw.phase = .on →
    Makes .pwrEnDeassert s { s.dev with pw := { s.dev.pw with phase := .down 6, pwrEn := false } }) ∧
  (∀ (n : Nat) (s : State), s.dev.pw.phase = .up n →
    Makes .pwrEnDeassert s { s.dev with pw := { s.dev.pw with phase := .down n, pwrEn := false } }) ∧
  (∀ (n : Nat) (s : State), s.dev.pw.phase = .down n → 1 < n → Does .railDischargeStep s fun d => d.pw = { s.dev.pw with phase := .down (n - 1) } ∧
    d.host = s.dev.host ∧ d.flash = s.dev.flash ∧
    (n = 6 → ∀ k < 960, s.dev.dieUp (k / 80) = true → d.coreState k = 5 ∧ d.core k = {}) ∧ (n = 6 → ∀ die < 12, d.dieUp die = false) ∧
    (n = 4 → ∀ st < 16, d.fld (MC_STATUS_state st) = 0 ∧ d.fld (MC_CTRL_enable st) = 0) ∧
    (n = 2 → (∀ off, off ≠ TM_SHUTDOWN → d.reg off = regReset off) ∧ (∀ a, d.cell a = 0) ∧ ∀ k, d.core k = {})) ∧
  (∀ (s : State), s.dev.pw.phase = .down 1 →
    (s.dev.pw.pwrEn = false → Makes .railDischargeStep s { s.dev with pw := { s.dev.pw with phase := .off } }) ∧
    (s.dev.pw.pwrEn = true → s.dev.pw.hold = .none → s.dev.pw.inputsOk = true →
      Makes .railDischargeStep s { s.dev with pw := { s.dev.pw with phase := .up 1, deadDies := [], deadDrifts := [] } }))

/-- The I3C port answers its read map, indexes 1, 5 and 6 also while main power is not good and the others then with 0, and clears
TM_SHUTDOWN.valid on a byte 0x01; the test port takes one bit for BYPASS, shifts the identification code out for IDCODE, captures
and preloads for SAMPLE/PRELOAD, and drives the pins for EXTEST only while PWR_EN is low (R505 to R507). -/
def sidebandTestAndReferencePortsAnswer : Prop :=
  (∀ (i : Nat) (s : State),
    let on := s.dev.pw.phase = .on
    let v := if i = 1 then (s.dev.reg TM_SHUTDOWN).toNat else if i = 5 then s.dev.pw.strap.toNat else if i = 6 then Config.serial.toNat
      else if ¬ on then 0 else if i = 0 then (s.dev.reg HF_BOOT_STAT).toNat else if i = 2 then (s.dev.reg CP_STATUS).toNat
      else if i = 3 then (s.dev.reg TM_PWR).toNat else if i = 4 then (s.dev.reg TM_STATUS).toNat
      else if i = 7 then (s.dev.reg FT_STATUS).toNat else 0
    Makes (.i3cRead i) s { s.dev with pw := { s.dev.pw with i3c := leBytes 8 v } }) ∧
  (∀ (s : State), Does (.i3cShutdownClear 1) s fun d => d.fld TM_SHUTDOWN_valid = 0 ∧ onlyRegs s.dev d ∧ regsBut [TM_SHUTDOWN] s.dev d) ∧
  (∀ (b : BitVec 8) (s : State), b ≠ 1 → Makes (.i3cShutdownClear b) s s.dev) ∧
  (∀ (code : Nat) (tdi : Bool) (s : State),
    Makes (.bypass code tdi) s { s.dev with tap := { s.dev.tap with out := [s.dev.tap.bypass], bypass := tdi, driven := none } }) ∧
  (∀ (s : State), Does .idcode s fun d => d = { s.dev with tap := d.tap } ∧ d.tap.driven = none ∧ d.tap.bypass = s.dev.tap.bypass ∧
    d.tap.out.length = 32 ∧ ∀ i < 32, d.tap.out[i]? = some (Config.idcode.getLsbD i)) ∧
  (∀ (l m : List Bool) (s : State),
    Makes (.samplePreload l m) s { s.dev with tap := { s.dev.tap with out := l, preload := m, driven := none } }) ∧
  (∀ (l m : List Bool) (s : State),
    (s.dev.pw.pwrEn = false → Makes (.extest l m) s { s.dev with tap := { s.dev.tap with out := l, preload := m, driven := some m } }) ∧
    (s.dev.pw.pwrEn = true → Makes (.extest l m) s { s.dev with tap := { s.dev.tap with out := l, preload := m, driven := none } }))

/-- The grid reference input sets and clears GD_STATUS.ref_present, and a master that uses it takes it up as its anchor while it is there and
goes on with its own oscillator when it is lost, a member with its partners, a device that has not joined with its oscillator; where
the anchor stays, so does the offset from nominal, and where it changes that offset is a free value (R45 to R47, log entry 113). -/
def referenceInputAnchorsTheMaster : Prop :=
  ∀ (s : State),
    let anchor (ref : Bool) : Anchor :=
      if s.dev.gridState = 5 then (if s.dev.flag GD_CTRL_use_ref = true ∧ ref = true then .reference else .oscillator)
      else if 2 ≤ s.dev.gridState then .partners else .oscillator
    let post (ref : Bool) (d : Dev) : Prop := d.fld GD_STATUS_ref_present = b2n ref ∧ d.grid.anchor = anchor ref ∧
      d = { s.dev with regs := d.regs, freeCtr := d.freeCtr, grid := { s.dev.grid with anchor := d.grid.anchor } } ∧
      regsBut [GD_STATUS, GD_PHASE] s.dev d ∧ d.fld GD_STATUS_state = s.dev.gridState ∧
      (s.dev.grid.anchor = anchor ref → d.reg GD_PHASE = s.dev.reg GD_PHASE) ∧
      (s.dev.grid.anchor ≠ anchor ref → d.fld GD_PHASE_freq_ppb = (s.dev.freeAt 0).toNat % 2 ^ 32)
    DoesLegend .grefPresent s (post true) ∧ DoesLegend .grefLost s (post false)

/-! ### Boot and firmware (chapter 14) -/

/-- Main power good starts boot at stage 1.  The end of a stage that succeeds begins the next: of 1 with a readable flash header; of 2 with the
Sorarn image of the first of at most two attempts that verifies and one for each other component; of 3 with a listed variant and the straps of every base die and the headframe accepted;
of 4 with every base-die link and the hub checked; of 5 with every base-die link trained; of 6 with the stacks that passed in service and the
others failed; of 7 at host-ready, with the first Legend (R472 to R475). -/
def bootStagesPass : Prop :=
  (∀ (s : State), s.dev.pw.phase = .on → s.dev.fld CP_STATUS_boot_stage = 0 → s.dev.flag CP_STATUS_boot_failed = false →
    Does .bootStart s fun d => d.fld CP_STATUS_boot_stage = 1 ∧ onlyRegs s.dev d ∧ regsBut [CP_STATUS] s.dev d) ∧
  (∀ (r : StageReport) (s : State), s.dev.pw.phase = .on → s.dev.flag CP_STATUS_boot_failed = false →
    let stage := s.dev.fld CP_STATUS_boot_stage
    (stage = 1 → r.flashHeaderOk = true → Does (.bootStageEnd r) s fun d => d.fld CP_STATUS_boot_stage = 2 ∧ regsBut [CP_STATUS] s.dev d) ∧
    (stage = 2 → ∀ i l, s.dev.sorarnPick = (some i, l) → (∀ k, 1 ≤ k → k ≤ 4 → s.dev.slotUsable k 0 = true) →
      Does (.bootStageEnd r) s fun d => d.fld CP_STATUS_boot_stage = 3 ∧ d.fld (HF_FW_RUN_slot 0) = i ∧
        d.fld (HF_FW_RUN_version 0) = s.dev.slotVersion 0 i % 2 ^ 32 ∧ d.fld HF_BOOT_STAT_attempts = l.length % 4 ∧ d.ram = s.dev.ram) ∧
    (stage = 3 → r.variantValid = true → 1 ≤ r.variant → r.variant ≤ 3 →
      (∀ k, 12 ≤ k → k ≤ 16 → ∃ x, r.straps[k]? = some x ∧ strapOk k x = true) →
      Does (.bootStageEnd r) s fun d => d.fld CP_STATUS_boot_stage = 4 ∧ d.variant = r.variant ∧
        (∀ k, 12 ≤ k → k ≤ 16 → d.fld (HF_DIE_STRAP_in_service k) = 1) ∧ d.pw.strap = d.reg HF_PKG_STRAP) ∧
    (stage = 4 → bitsOf (veinPass r).toNat 31 28 = 15 → bitAt (veinPass r).toNat 32 = true →
      Does (.bootStageEnd r) s fun d => d.fld CP_STATUS_boot_stage = 5 ∧ d.reg HF_VEIN_BIST = BitVec.ofNat 64 ((veinPass r).toNat + 2 ^ 33) ∧
        ∀ k < 12, d.dieUp k = (s.dev.dieUp k && bitAt (veinPass r).toNat (16 + k))) ∧
    (stage = 5 → r.linkPass = 15 → Does (.bootStageEnd r) s fun d => d.fld CP_STATUS_boot_stage = 6 ∧
      ∀ k < 12, d.dieUp k = (s.dev.dieUp k && bitAt r.bondPass.toNat k)) ∧
    (stage = 6 → Does (.bootStageEnd r) s fun d => d.fld CP_STATUS_boot_stage = 7 ∧
      (∀ a < 16 * stackKey, d.cell a = 0) ∧
      ∀ k < 16, d.fld (MC_STATUS_state k) = if bitAt (s.dev.fld HF_VEIN_BIST_mc) k = true ∧ bitAt r.hbmPass.toNat k = true then 2 else 5) ∧
    (stage = 7 → Does (.bootStageEnd r) s fun d => d.fld CP_STATUS_boot_stage = 8 ∧ d.ready = true ∧ leAt d.svc.legend 4 4 = 1))

/-- The self-test of stage 4 gives every checker the 16 clean words, each error of values 1, 8 and 15 in each of the 36 symbols, an error of
value 1 in each pair of symbols, and the poison mark: a checker that answers every one of them as R211 does passes, and one that departs on
any of them fails, whatever it would answer to a word the test does not hold (R223). -/
def selfTestFindsTheCheckersThatDepart : Prop :=
  ∀ (r : StageReport) (k : Nat), k < 33 →
    let answer := checkerAnswer r.veinFaults k
    bitAt (veinPass r).toNat k = true ↔
      (∀ w < 16, answer w 0 = .clean) ∧
      (∀ n < 36, ∀ v ∈ [1, 8, 15], answer 0 (symbolDiff n v) = if n < 32 then .data n v else .check) ∧
      (∀ m < 36, ∀ n < m, answer 0 (symbolDiff n 1 ^^^ symbolDiff m 1) = .bad ∨ answer 0 (symbolDiff n 1 ^^^ symbolDiff m 1) = .poisoned) ∧
      answer 0 poisonMark = .poisoned

/-- A stage that fails stops boot: CP_STATUS.boot_failed is set and HF_BOOT_STAT holds the stage and, where the spec gives one, the reason (R474).
A missed watchdog during a stage from 2 on begins stage 2 again with the slot among those tried, and after two attempts stops boot; under a
watched handover it returns Sorarn to the old bank (R477, R488). -/
def bootStops : Prop :=
  (∀ (r : StageReport) (s : State), s.dev.pw.phase = .on → s.dev.flag CP_STATUS_boot_failed = false →
    let stage := s.dev.fld CP_STATUS_boot_stage
    (∀ reason, (stage = 1 ∧ r.flashHeaderOk = false ∧ reason = 0x0103) ∨ (stage = 2 ∧ s.dev.sorarnPick.1 = none ∧ reason = 0x0A01) ∨
      (stage = 4 ∧ bitsOf (veinPass r).toNat 31 28 ≠ 15 ∧ reason = 0x0B01) ∨ (stage = 5 ∧ r.linkPass ≠ 15 ∧ reason = 0x0B01) →
      Does (.bootStageEnd r) s fun d => d.flag CP_STATUS_boot_failed = true ∧ d.fld CP_STATUS_boot_stage = stage ∧
        d.fld HF_BOOT_STAT_stage = stage ∧ d.fld HF_BOOT_STAT_reason = reason ∧ d.ready = s.dev.ready) ∧
    (stage = 3 → r.variantValid = false → Does (.bootStageEnd r) s fun d => d.flag CP_STATUS_boot_failed = true ∧
      d.fld CP_STATUS_boot_stage = 3 ∧ d.fld HF_BOOT_STAT_stage = 3)) ∧
  (∀ (m : Nat) (s : State), s.dev.pw.phase = .on → s.dev.flag CP_STATUS_boot_failed = false → 2 ≤ s.dev.fld CP_STATUS_boot_stage →
    s.dev.fld CP_STATUS_boot_stage < 8 →
    let t := if s.dev.fld CP_STATUS_boot_stage = 2 then s.dev.sorarnPick.2 else s.dev.fw.tried ++ [s.dev.fld (HF_FW_RUN_slot 0)]
    (t.length < 2 → DoesLegend (.sorarnWatchdog m) s fun d => d.fld CP_STATUS_boot_stage = 2 ∧
      d.flag CP_STATUS_boot_failed = false ∧ d.faults = s.dev.faults ++ [⟨0x03, 2, 0, 0⟩] ∧ d.fw.tried = t ∧
      d.fld HF_BOOT_STAT_attempts = t.length) ∧
    (2 ≤ t.length → DoesLegend (.sorarnWatchdog m) s fun d => d.flag CP_STATUS_boot_failed = true ∧
      d.fld HF_BOOT_STAT_stage = 2 ∧ d.fld HF_BOOT_STAT_reason = 0x0A01)) ∧
  (∀ (m : Nat) (s : State) (h : Handover), s.dev.pw.phase = .on → s.dev.flag CP_STATUS_boot_failed = false →
    s.dev.fld CP_STATUS_boot_stage = 8 → s.dev.handoverOf 0 = some h → h.switched = true → s.dev.frame < h.frame + 4096 →
    DoesLegend (.sorarnWatchdog m) s fun d => d.handoverOf 0 = none ∧ d.fld (HF_FW_RUN_slot 0) = h.oldSlot % 2 ∧
      d.fld (HF_FW_RUN_version 0) = h.oldVersion % 2 ^ 32 ∧ d.fld (HF_FW_RUN_state 0) = 0 ∧
      d.faults = s.dev.faults ++ [⟨0x03, 2, 0, 0⟩, ⟨0x04, 1, 0, 0x0202⟩])

/-- Boot, its stages, its stops and the Sorarn watchdog.
Completes here: bootStart, bootStageEnd, sorarnWatchdog. -/
def Obligations.BootRunsItsStagesOrStops : Prop := bootStagesPass ∧ bootStops ∧ selfTestFindsTheCheckersThatDepart

/-- Rails, module resets, and the sideband, test and reference ports.
Completes here: moduleReset, pwrEnAssert, railStepDone, railTimeout, pwrEnDeassert, railDischargeStep, grefPresent, grefLost, i3cRead,
i3cShutdownClear, bypass, idcode, samplePreload, extest, mainInputApplied. -/
def Obligations.RailsResetsAndSidebandFollowTheirOrder : Prop :=
  moduleResets ∧ railsComeUp ∧ railsMissTheirTime ∧ railsGoDown ∧ sidebandTestAndReferencePortsAnswer ∧ referenceInputAnchorsTheMaster

/-- FW_STAGE of a sound image writes it, with its commit record, to the slot that the component does not run from, whose version HF_FW_k_ALT
then shows, or leaves that slot without a record and ends with SIG_INVALID where the read-back fails, which the spec leaves open; it is refused with the first of BAD_FIELD, BAD_LENGTH, SIG_INVALID and ROLLBACK_REFUSED that applies (R480, R481). -/
def imagesAreStaged : Prop :=
  ∀ (id : Nat) (s : State) (c : Cmd), begun s.dev id 0x0800 c →
    let k := c.p 0 % 16
    let len := c.p 2
    let l := s.dev.hostRead (c.p 1) len
    let i := 1 - s.dev.fld (HF_FW_RUN_slot k)
    (5 ≤ k → Makes (.fwStage id) s (s.dev.complete c 0x0103)) ∧
    (k < 5 → (len < 4097 ∨ 4096 + maxPayload k < len) → Makes (.fwStage id) s (s.dev.complete c 0x0102)) ∧
    (k < 5 → 4097 ≤ len → len ≤ 4096 + maxPayload k →
      (imageGood k l = false → Makes (.fwStage id) s (s.dev.complete c 0x0A01)) ∧
      (imageGood k l = true → leAt l 8 4 < s.dev.leastVersion k → Makes (.fwStage id) s (s.dev.complete c 0x0A02)) ∧
      (imageGood k l = true → s.dev.leastVersion k ≤ leAt l 8 4 → s.dev.handoverOf k = none → s.dev.gateOpen [16] = true →
        Does (.fwStage id) s fun d =>
          (s.dev.readsBack = true → d.fwSlot k i = some ⟨leAt l 8 4, len - 4096, some (sha256 l),
              max (((s.dev.fwSlot k 0).map FwSlot.seq).getD 0) (((s.dev.fwSlot k 1).map FwSlot.seq).getD 0) + 1, true⟩ ∧
            d.fld (HF_FW_ALT_usable k) = 1 ∧ d.fld (HF_FW_ALT_version k) = leAt l 8 4 ∧
            ∀ q, c.origin = .queue q → d.cp.cpls = s.dev.cp.cpls ++ [⟨q, c.tag, 0, leAt l 8 4, 0, 0, false, c.noIrq⟩]) ∧
          (s.dev.readsBack = false → d.fwSlot k i = none ∧ d.fld (HF_FW_ALT_usable k) = 0 ∧ d.fld (HF_FW_ALT_version k) = 0 ∧
            ∀ q, c.origin = .queue q → d.cp.cpls = s.dev.cp.cpls ++ [⟨q, c.tag, 0x0A01, 0, 0, 0, false, c.noIrq⟩]) ∧
          (∀ k' i', i' < 2 → ¬ (k' = k ∧ i' = i) → d.fwSlot k' i' = s.dev.fwSlot k' i') ∧
          d.flash.fuses = s.dev.flash.fuses ∧ d.flash.contour = s.dev.flash.contour ∧ d.ram = s.dev.ram))

/-- FW_HANDOVER that passes its checks waits for its frame; at that frame a good digest switches the component to its other slot and a bad one
ends the handover with SIG_INVALID and the firmware source; once nothing depends on the old code the command completes with the new version
and the Legend shows it (R486, R487). -/
def handoversRun : Prop :=
  (∀ (id : Nat) (s : State) (c : Cmd), begun s.dev id 0x0801 c → c.id = id →
    let k := c.p 0 % 16
    let f := c.p 1
    let i := 1 - s.dev.fld (HF_FW_RUN_slot k)
    (5 ≤ k → Makes (.fwHandover id) s (s.dev.complete c 0x0103)) ∧
    (k < 5 → s.dev.handoverOf k ≠ none → Makes (.fwHandover id) s (s.dev.complete c 0x0202)) ∧
    (k < 5 → s.dev.handoverOf k = none → (f < s.dev.frame + 128 ∨ s.dev.frame + 2 ^ 28 < f) →
      Makes (.fwHandover id) s (s.dev.complete c 0x0201)) ∧
    (k < 5 → s.dev.handoverOf k = none → s.dev.frame + 128 ≤ f → f ≤ s.dev.frame + 2 ^ 28 → s.dev.slotSound k i = true →
      s.dev.leastVersion k ≤ s.dev.slotVersion k i → s.dev.slotVersion k i ≠ s.dev.fld (HF_FW_RUN_version k) →
      (k ≠ 0 ∨ s.dev.heldInWindow f = false) →
      Does (.fwHandover id) s fun d => d.fld (HF_FW_RUN_state k) = 1 ∧ d.reg (HF_FW_FRAME k) = BitVec.ofNat 64 f ∧
        d.fld (HF_FW_RUN_slot k) = s.dev.fld (HF_FW_RUN_slot k) ∧ regsBut [HF_FW_RUN k, HF_FW_FRAME k] s.dev d ∧
        d.fw.handovers = s.dev.fw.handovers ++
          [⟨k, id, f, false, s.dev.fld (HF_FW_RUN_version k), s.dev.fld (HF_FW_RUN_slot k), [], 0⟩] ∧
        d.cp.cmds = s.dev.cp.cmds.map fun y => if y.id = id then { y with phase := .running, aux := [k] } else y)) ∧
  (∀ (k : Nat) (s : State) (h : Handover), k < 5 → s.dev.handoverOf k = some h → h.switched = false → h.frame ≤ s.dev.frame →
    (Does (.fwHandoverSwitch k true) s fun d => d.fld (HF_FW_RUN_slot k) = 1 - h.oldSlot ∧
      d.fld (HF_FW_RUN_version k) = s.dev.slotVersion k (1 - h.oldSlot) % 2 ^ 32 ∧
      d.fld (HF_FW_RUN_state k) = (if k = 0 then 2 else if k = 2 ∨ k = 4 then 3 else 0) ∧ d.faults = s.dev.faults ∧
      regsBut [HF_FW_RUN k, HF_FW_ALT k] s.dev d ∧ d.ram = s.dev.ram ∧ d.cores = s.dev.cores) ∧
    (s.dev.findCmd h.cmd = none → Does (.fwHandoverSwitch k false) s fun d => d.handoverOf k = none ∧
      d.fld (HF_FW_RUN_state k) = 0 ∧ d.fld (HF_FW_RUN_slot k) = s.dev.fld (HF_FW_RUN_slot k) ∧
      d.faults = s.dev.faults ++ [⟨0x04, 1, 0, 0x0A01⟩] ∧ regsBut [HF_FW_RUN k] s.dev d)) ∧
  (∀ (k : Nat) (s : State) (h : Handover) (c : Cmd) (q : Nat), k < 5 → s.dev.handoverOf k = some h → h.switched = true →
    s.dev.oldCodeFree h = true → s.dev.findCmd h.cmd = some c → c.origin = .queue q →
    let v := s.dev.fld (HF_FW_RUN_version k)
    DoesLegend (.fwHandoverComplete k) s fun d => d.handoverOf k = none ∧ d.fld (HF_FW_RUN_state k) = 0 ∧
      d.fw.done = s.dev.fw.done + 1 ∧ smFind d.fw.legend k = some (v, s.dev.fld (HF_FW_RUN_slot k)) ∧
      d.cp.cpls = s.dev.cp.cpls ++ [⟨q, c.tag, 0, v, 0, 0, false, c.noIrq⟩])

/-- ATTEST writes the report's 512 signed bytes and a signature of 384 bytes that the spec leaves open (log entry 61); CERT_READ writes the
three certificates, each after its length; either is refused with BAD_LENGTH where its buffer is too short (R490 to R492). -/
def identityIsRead : Prop :=
  (∀ (id : Nat) (s : State) (c : Cmd), begun s.dev id 0x0802 c →
    (c.p 2 < 896 → Makes (.attest id) s (s.dev.complete c 0x0102)) ∧
    (896 ≤ c.p 2 → ∃ sig, sig.length = 384 ∧ Makes (.attest id) s
      ({ s.dev with freeCtr := s.dev.freeCtr + 48,
                    host := putBytes s.dev.host (c.p 1) (s.dev.reportBody (s.dev.hostRead (c.p 0) 32) ++ sig),
                    hostEp := s.dev.hostEp.filter fun e => decide (e.1 < c.p 1) || decide (c.p 1 + 896 ≤ e.1) }.complete c 0))) ∧
  (∀ (id : Nat) (s : State) (c : Cmd), begun s.dev id 0x0803 c →
    let cert (i : Nat) := Config.certificate i
    let l := leBytes 4 (cert 0).length ++ cert 0 ++ (leBytes 4 (cert 1).length ++ cert 1) ++ (leBytes 4 (cert 2).length ++ cert 2)
    (c.p 1 < l.length → Makes (.certRead id) s (s.dev.complete c 0x0102)) ∧
    (l.length ≤ c.p 1 → Makes (.certRead id) s ({ s.dev with
      host := putBytes s.dev.host (c.p 0) l,
      hostEp := s.dev.hostEp.filter fun e => decide (e.1 < c.p 0) || decide (c.p 0 + l.length ≤ e.1) }.complete c 0 l.length)))

/-- TEST_AUTH puts a sound authorisation into force until its duration ends and draws a new nonce; TEST_AUTH_EXPIRY ends it; ROLLBACK_ADVANCE
programs the next fuse word; CONTOUR_PERSIST writes the active table to the older slot, which stands
where the read-back holds (R480, R485, R493). -/
def authoritiesAndFusesAdvance : Prop :=
  (∀ (id : Nat) (s : State) (c : Cmd), begun s.dev id 0x0804 c →
    let l := s.dev.hostRead (c.p 0) 4096
    (c.p 1 ≠ 4096 → Makes (.testAuth id) s (s.dev.complete c 0x0102)) ∧
    (c.p 1 = 4096 → leAt l 0 2 ≠ 0x5841 → Makes (.testAuth id) s (s.dev.complete c 0x0103)) ∧
    (c.p 1 = 4096 → leAt l 0 2 = 0x5841 → leAt l 2 2 = 1 → leAt l 4 4 ≤ 1 → 1 ≤ leAt l 48 4 → leAt l 48 4 ≤ 2 ^ 28 →
      (s.dev.authGood l = false → Makes (.testAuth id) s (s.dev.complete c 0x0A01)) ∧
      (s.dev.authGood l = true → Does (.testAuth id) s fun d => d.fld HF_AUTH_active = 1 ∧ d.fld HF_AUTH_scope = leAt l 4 4 ∧
        d.reg HF_AUTH_EXPIRY = BitVec.ofNat 64 (s.dev.frame + leAt l 48 4) ∧ d.fw.auth = some (l, s.dev.frame) ∧
        d.freeCtr = s.dev.freeCtr + 4 ∧ d.fw.nonce.length = 4))) ∧
  (∀ (s : State), (s.dev.flag HF_AUTH_active = true → s.dev.fld HF_AUTH_EXPIRY_frame ≤ s.dev.frame →
      Does .testAuthExpiry s fun d => d.fld HF_AUTH_active = 0 ∧ d.fld HF_AUTH_scope = 0 ∧ d.fw = { s.dev.fw with auth := none } ∧
        regsBut [HF_AUTH] s.dev d) ∧
    (s.dev.flag HF_AUTH_active = false ∨ s.dev.frame < s.dev.fld HF_AUTH_EXPIRY_frame → Makes .testAuthExpiry s s.dev)) ∧
  (∀ (id : Nat) (s : State) (c : Cmd), begun s.dev id 0x0805 c →
    let k := c.p 0 % 16
    let v := c.p 1 % 2 ^ 32
    k < 5 → (v < s.dev.leastVersion k → Makes (.rollbackAdvance id) s (s.dev.complete c 0x0A02)) ∧
    (v = s.dev.leastVersion k → Makes (.rollbackAdvance id) s (s.dev.complete c 0)) ∧
    (s.dev.leastVersion k < v → v ≤ s.dev.fld (HF_FW_RUN_version k) → (s.dev.fuses k).length < 16 → s.dev.gateOpen [16] = true →
      Does (.rollbackAdvance id) s fun d => d.fuses k = s.dev.fuses k ++ [v] ∧ d.leastVersion k = v ∧
        (∀ j, j ≠ k → d.fuses j = s.dev.fuses j) ∧ d.flash.fw = s.dev.flash.fw)) ∧
  (∀ (id : Nat) (s : State) (c : Cmd), begun s.dev id 0x0700 c →
    let n := c.p 0 % 8
    let older := if s.dev.contourSeq n 0 ≤ s.dev.contourSeq n 1 then 0 else 1
    (s.dev.fld (DR_CONTOUR_CTRL_state n) ≠ 0 → Makes (.contourPersist id) s (s.dev.complete c 0x0301)) ∧
    (s.dev.fld (DR_CONTOUR_CTRL_state n) = 0 → s.dev.gateOpen [16, 17 + n] = true →
      Does (.contourPersist id) s fun d =>
        (s.dev.readsBack = true → ∃ x, d.contourSlot n older = some x ∧ x.seq = max (s.dev.contourSeq n 0) (s.dev.contourSeq n 1) + 1 ∧
          x.table = (windowShift s.dev.regs (contourActive n) 0).map fun e => (e.1 / 8, e.2)) ∧
        (s.dev.readsBack = false → d.contourSlot n older = none) ∧
        (∀ n' i, i < 2 → ¬ (n' = n ∧ i = older) → d.contourSlot n' i = s.dev.contourSlot n' i) ∧ d.flash.fw = s.dev.flash.fw ∧
        ∀ q, c.origin = .queue q →
          d.cp.cpls = s.dev.cp.cpls ++ [⟨q, c.tag, if s.dev.readsBack then 0 else 0x0A01, 0, 0, 0, false, c.noIrq⟩]))

/-- The firmware, identity, authorisation and contour commands.
Completes here: contourPersist, fwStage, fwHandover, fwHandoverSwitch, fwHandoverComplete, attest, certRead, testAuth, testAuthExpiry,
rollbackAdvance. -/
def Obligations.FirmwareIsStagedHandedOverAndMeasured : Prop :=
  imagesAreStaged ∧ handoversRun ∧ identityIsRead ∧ authoritiesAndFusesAdvance

/-! ### Grid time (chapter 2) -/

/-- The bell records that carry a datum announce of some hops to every aligned partner of every port. -/
def announces (d : Dev) (master backup gen hops : Nat) : List Bell :=
  (portColours.filter fun x => d.flag (GD_RANGE_aligned x.1 x.2)).map fun x =>
    ⟨x.1, d.coordVia x.1 x.2, 1, padTo 256 (leBytes 4 master ++ leBytes 4 backup ++ leBytes 2 gen ++ leBytes 1 hops), none⟩

/-- A received cell of class cls, its bell record, if it is one, of kind kind. -/
def received (d : Dev) (rx : Nat) (r : RxCell) (kind : Nat) : Prop := d.rxCell rx = some r ∧ r.cell.cls = 4 ∧ r.cell.bellKind = kind

/-- The master announces its datum every 256 frames; a device that receives an announce follows one of its own or a higher generation, forwards the
first copy with one hop more, and drops a lower one (the first copy being one of a higher generation, or one after 128 frames without an
announce: the model's choice, log entry 101); a master follows only a higher one and is then demoted (R47, R49). -/
def datumIsFollowed : Prop :=
  (∀ (s : State), (s.dev.gridState = 5 → s.dev.frame % 256 = 0 → Does .datumAnnounceSend s fun d =>
      d = { s.dev with net := { s.dev.net with bells := d.net.bells } } ∧
      d.net.bells = s.dev.net.bells ++ announces s.dev (s.dev.fld GD_MASTER_master_id) (s.dev.fld GD_MASTER_backup_id)
        (s.dev.fld GD_MASTER_generation) 0) ∧
    (s.dev.gridState ≠ 5 ∨ s.dev.frame % 256 ≠ 0 → Makes .datumAnnounceSend s s.dev)) ∧
  (∀ (rx : Nat) (s : State) (r : RxCell), received s.dev rx r 1 →
    let pl := r.cell.payload
    let own := s.dev.fld GD_MASTER_generation
    let st := s.dev.gridState
    ((st = 0 ∨ leAt pl 8 2 < own ∨ (st = 5 ∧ leAt pl 8 2 ≤ own)) → Makes (.datumAnnounce rx) s (s.dev.takeRx r)) ∧
    ((st = 3 ∨ st = 4) → own ≤ leAt pl 8 2 → Does (.datumAnnounce rx) s fun d =>
      d.fld GD_MASTER_master_id = leAt pl 0 4 % 2 ^ 20 ∧ d.fld GD_MASTER_backup_id = leAt pl 4 4 % 2 ^ 20 ∧
      d.fld GD_MASTER_generation = leAt pl 8 2 ∧ d.fld GD_MASTER_hops = leAt pl 10 1 ∧ d.gridState = 3 ∧ d.grid.silent = 0 ∧
      d.grid.holdover = 0 ∧ d.fld GD_STATUS_holdover_expired = 0 ∧
      ((own < leAt pl 8 2 ∨ 128 ≤ s.dev.grid.silent) → d.net.bells = s.dev.net.bells ++
        announces s.dev (leAt pl 0 4 % 2 ^ 20) (leAt pl 4 4 % 2 ^ 20) (leAt pl 8 2) (leAt pl 10 1 + 1)) ∧
      (own = leAt pl 8 2 → s.dev.grid.silent < 128 → d.net.bells = s.dev.net.bells)) ∧
    (st = 5 → own < leAt pl 8 2 → Does (.datumAnnounce rx) s fun d => d.gridState = 3 ∧ d.grid.demoted = true ∧
      d.fld GD_MASTER_generation = leAt pl 8 2) ∧
    (st = 1 → own ≤ leAt pl 8 2 → ∀ o, s.dev.grid.heardFrame = some o → (∃ x ∈ s.dev.grid.bellRun, 16 ≤ x.2) →
      Does (.datumAnnounce rx) s fun d => d.gridState = 2 ∧ d.reg GD_FRAME = BitVec.ofNat 64 ((s.dev.frame : Int) + o).toNat ∧
        d.fld GD_STATUS_frame_jumped = 1))

/-- The grid's states: the backup takes over from HOLDOVER after 2,048 silent frames with one generation more; a member enters HOLDOVER, and one
whose holdover exceeds its limit raises the grid source; a device that the Map names master (after 2,048 frames) or backup (after 4,096), and that heard no grid while it listened,
starts one at GD_FRAME_INIT; enable leaves OFF for LISTEN and returns to OFF (R48, R50, R51, R63). -/
def gridStatesMove : Prop :=
  (∀ (s : State), s.dev.gridState = 4 → s.dev.fld GD_MASTER_backup_id = s.dev.fid → 2048 ≤ s.dev.grid.silent → s.dev.frame % 256 = 0 →
    s.dev.grid.demoted = false →
    Does .masterTakeover s fun d => d.gridState = 5 ∧ d.fld GD_MASTER_master_id = s.dev.fid ∧ d.grid.holdover = 0 ∧
      d.fld GD_MASTER_generation = (s.dev.fld GD_MASTER_generation + 1) % 2 ^ 16 ∧ d.fld GD_MASTER_hops = 0 ∧ d.grid.silent = 0 ∧
      d.reg GD_FRAME = s.dev.reg GD_FRAME ∧ d.ram = s.dev.ram) ∧
  (∀ (s : State), s.dev.gridState = 3 → 2048 ≤ s.dev.grid.silent →
    Does .holdoverEntry s fun d => d.gridState = 4 ∧ d.grid = { s.dev.grid with counting := true, anchor := .partners } ∧ d.reg GD_FRAME = s.dev.reg GD_FRAME ∧
      d.reg GD_MASTER = s.dev.reg GD_MASTER ∧ d.net = s.dev.net) ∧
  (∀ (s : State), s.dev.fld GD_HOLDOVER_LIMIT_limit < s.dev.grid.holdover → s.dev.flag GD_STATUS_holdover_expired = false →
    Does .holdoverExpired s fun d => d.fld GD_STATUS_holdover_expired = 1 ∧ d.faults = s.dev.faults ++ [⟨0x06, 1, 0, 0⟩] ∧
      d.fld (FT_SRC_STAT_active 6) = 1 ∧ d.gridState = s.dev.gridState ∧ regsBut [GD_STATUS, FT_SRC_STAT 6] s.dev d) ∧
  (∀ (s : State) (m : FabMap), s.dev.gridState = 1 → s.dev.grid.heard = false → s.dev.grid.demoted = false → s.dev.fab.map = some m →
    ((m.master = s.dev.fid ∧ 2048 ≤ s.dev.grid.listen) ∨ (m.backup = s.dev.fid ∧ 4096 ≤ s.dev.grid.listen)) →
    Does .coldStartListenEnd s fun d => d.gridState = 5 ∧ d.reg GD_FRAME = s.dev.reg GD_FRAME_INIT ∧ d.fld GD_STATUS_frame_jumped = 1 ∧
      d.fld GD_MASTER_master_id = s.dev.fid ∧ d.fld GD_MASTER_generation = 1 ∧ d.fld GD_MASTER_backup_id = m.backup % 2 ^ 20) ∧
  (∀ (v : Word64) (s : State), s.dev.ready = true → s.dev.cp.d3hot = false → s.dev.inBatch GD_CTRL = false →
    (s.dev.flag GD_CTRL_enable = false → bitAt v.toNat 0 = true →
      Does (.gdCtrlEnable v) s fun d => d.fld GD_CTRL_enable = 1 ∧ d.gridState = 1 ∧ d.grid.partners = [] ∧ d.grid.listen = 0 ∧
        d.fld GD_STATUS_aligned_partners = 0 ∧ d.reg GD_FRAME = s.dev.reg GD_FRAME) ∧
    (s.dev.flag GD_CTRL_enable = true → bitAt v.toNat 0 = false →
      Does (.gdCtrlEnable v) s fun d => d.fld GD_CTRL_enable = 0 ∧ d.gridState = 0 ∧ d.reg GD_MASTER = 0 ∧
        d.fld GD_STATUS_aligned_partners = 0 ∧ d.reg GD_FRAME = s.dev.reg GD_FRAME))

/-- Ranging: slot 15 launches a ranging cell on lane 31, on the colour its frame has or the colour of a ZB circuit, earlier than its slot by the
advance held for the partner, and the monitor keeps lane 31's error; an echo moves the launch advance, whole before alignment and by a
quarter and at most two steps after it; eight errors within 0.5 ns align a partner and two outside it end the alignment, as 30 frames without an
echo do; a partner that becomes aligned with a higher generation is followed where its frame and phase meet R61, and else sends this device
back to LISTEN; a cell aimed at another frame ends the alignment at once, with the grid source of a member or master, and sends a device of
the lower generation back to LISTEN; every 15 frames the phase error is the mean offset, and the phase moves against it by at most one
fine step (R47, R52, R53, R56 to R59, R298). -/
def rangingAligns : Prop :=
  (∀ (p f c y : Nat) (s : State), p < 6 → 2 ≤ s.dev.gridState →
    s.dev.aim p 15 (fun f => some (s.dev.rangingSlot p f)) = some (f, c, y) → s.dev.rangingLane p c = true →
    (s.dev.frame ≤ f ∧ s.dev.advance_ p c < 16384 * (f - s.dev.frame) + 1024 * 15 + 16384 ∧
      (s.dev.isZb p = false → c = 1 + f % 15 ∧ y = (s.dev.coordOn p + c) % 16) ∧
      (s.dev.advance_ p c ≤ 1024 * 15 → f = s.dev.frame) ∧
      (1024 * 15 < s.dev.advance_ p c → s.dev.advance_ p c ≤ 16384 * (f - s.dev.frame) + 1024 * 15 ∧
        16384 * (f - s.dev.frame) + 1024 * 15 < s.dev.advance_ p c + 16384)) ∧
    Does (.rangingSend p) s fun d => d.net = { s.dev.net with glass := s.dev.net.glass ++
        [⟨p, 31, 15, c, f, symbols (Cell.wire { s.dev.newCell 5 0 0 (s.dev.partnerAt p y) (s.dev.rangingBytes p c f) 29 0 with
          hopSrc := s.dev.coordOn p, hopDst := y, epoch := s.dev.versionAt f })⟩] } ∧
      smFind ((d.drift p).lane 31).lastErr c = some (s.dev.frame, (s.dev.freeAt 0).toInt) ∧
      d.ram = s.dev.ram ∧ d.cores = s.dev.cores ∧ d.host = s.dev.host ∧ d.grid = s.dev.grid ∧ d.row = s.dev.row ∧ d.fab = s.dev.fab) ∧
  (∀ (rx : Nat) (e arr : Int) (s : State) (r : RxCell), s.dev.rxCell rx = some r → r.cell.cls = 5 → 2 ≤ s.dev.gridState → r.port < 6 →
    let p := r.port
    let c := s.dev.colourOf p r.cell.hopSrc
    let pl := r.cell.payload
    let al := s.dev.flag (GD_RANGE_aligned p c)
    let x := s.dev.partner p c
    let own := s.dev.fld GD_MASTER_generation
    let moved := (clampI ((s.dev.advance_ p c : Int) + if al then clampI (Int.tdiv e 4) (-2) 2 else e) 0 (64 * 16384 - 1)).toNat
    (1 ≤ c ∨ s.dev.isZb p = true) → c < 16 →
    (leAt pl 8 8 = r.frame → cellEcho pl = some e → leAt pl 6 2 ≤ own →
      Does (.rangingCell rx arr) s fun d =>
        d.advance_ p c = moved ∧ d.sfld (GD_RANGE_last_err p c) = clampI e (-32768) 32767 ∧
        (d.partner p c).measured = some (clampI arr (-(2 ^ 31 - 1)) (2 ^ 31 - 1)) ∧
        (al = false → e.natAbs ≤ 40 → 7 ≤ x.good → d.fld (GD_RANGE_aligned p c) = 1) ∧
        (al = false → (40 < e.natAbs ∨ x.good < 7) → d.fld (GD_RANGE_aligned p c) = 0) ∧
        (al = true → 40 < e.natAbs → 1 ≤ x.bad → d.fld (GD_RANGE_aligned p c) = 0) ∧
        (al = true → (e.natAbs ≤ 40 ∨ x.bad = 0) → d.fld (GD_RANGE_aligned p c) = 1)) ∧
    (leAt pl 8 8 = r.frame → cellEcho pl = some e → own < leAt pl 6 2 → al = false → e.natAbs ≤ 40 → 7 ≤ x.good →
      let apart := (Int.tdiv ((moved : Int) - (decodeAdv (leAt pl 16 4) : Int)) 2).natAbs
      (arr.natAbs ≤ 40 → apart ≤ 40 → Does (.rangingCell rx arr) s fun d => d.fld GD_MASTER_generation = leAt pl 6 2 ∧
        d.fld GD_MASTER_master_id = leAt pl 24 4 % 2 ^ 20 ∧ d.fld GD_MASTER_backup_id = s.dev.fld GD_MASTER_backup_id ∧
        d.fld GD_MASTER_hops = (if leAt pl 5 1 = 5 then 0 else (leAt pl 28 1 + 1) % 256) ∧ d.fld (GD_RANGE_aligned p c) = 1) ∧
      ((40 < arr.natAbs ∨ 40 < apart) → Does (.rangingCell rx arr) s fun d => d.gridState = 1 ∧
        (s.dev.gridState = 5 → d.grid.demoted = true) ∧ ∀ z ∈ portColours, d.fld (GD_RANGE_aligned z.1 z.2) = 0)) ∧
    (leAt pl 8 8 ≠ r.frame → leAt pl 6 2 ≤ own →
      Does (.rangingCell rx arr) s fun d => d.fld (GD_RANGE_aligned p c) = 0 ∧
        (cellEcho pl = none → d.advance_ p c = s.dev.advance_ p c ∧
          d.faults = s.dev.faults ++ (if s.dev.gridState = 3 ∨ s.dev.gridState = 5 then [⟨0x06, 2, 0, 0⟩] else [])) ∧
        (cellEcho pl = some e → d.advance_ p c = moved)) ∧
    (leAt pl 8 8 ≠ r.frame → own < leAt pl 6 2 → 3 ≤ s.dev.gridState →
      Does (.rangingCell rx arr) s fun d => d.gridState = 1 ∧ (s.dev.gridState = 5 → d.grid.demoted = true) ∧
        ∀ z ∈ portColours, d.fld (GD_RANGE_aligned z.1 z.2) = 0)) ∧
  (∀ (p c : Nat) (s : State), p < 6 → c < 16 → s.dev.flag (GD_RANGE_aligned p c) = true → 30 ≤ (s.dev.partner p c).since →
    Does (.alignmentLoss p c) s fun d => d.fld (GD_RANGE_aligned p c) = 0 ∧ d.advance_ p c = s.dev.advance_ p c ∧
      (∀ p' c', (p', c') ∈ portColours → (p', c') ≠ (p, c) → d.reg (GD_RANGE p' c') = s.dev.reg (GD_RANGE p' c')) ∧
      d.fld GD_STATUS_aligned_partners = (portColours.filter fun x => d.flag (GD_RANGE_aligned x.1 x.2)).length ∧
      (d.fld GD_STATUS_aligned_partners = 0 → s.dev.gridState = 3 → d.gridState = 2)) ∧
  (∀ (s : State), 2 ≤ s.dev.gridState → s.dev.gridState ≤ 4 → s.dev.frame % 15 = 0 →
    (s.dev.meanOffset.2 ≠ 0 → Does .syncSteer s fun d => d.sfld GD_PHASE_phase_err = clampI s.dev.meanOffset.1 (-32768) 32767 ∧
      d = { s.dev with
        regs := d.regs
        freeCtr := s.dev.freeCtr + 1
        grid := { s.dev.grid with phase := s.dev.grid.phase - clampI s.dev.meanOffset.1 (-1) 1 } } ∧ regsBut [GD_PHASE] s.dev d) ∧
    (s.dev.meanOffset.2 = 0 → Makes .syncSteer s s.dev))

/-- The datum, the grid's states, and ranging.
Completes here: gdCtrlEnable, datumAnnounceSend, datumAnnounce, masterTakeover, holdoverEntry, holdoverExpired, coldStartListenEnd, rangingSend,
rangingCell, alignmentLoss, syncSteer. -/
def Obligations.GridFollowsItsDatumAndAligns : Prop := datumIsFollowed ∧ gridStatesMove ∧ rangingAligns

/-- FRAME_BOUNDARY of a powered module advances grid time by one, forgets what lasts one frame, and counts the frames without an announce except in
OFF and as master; a staged TM_GRACE within its range comes into use, and one beyond it is dropped with a swap failure recorded for the
thermal block (R44, R51, R64, R71). -/
def boundaries : Prop :=
  ∀ (s : State), s.dev.pw.phase = .on →
    (Does .frameBoundary s fun d => d.reg GD_FRAME = s.dev.reg GD_FRAME + 1 ∧ d.net.glass = [] ∧ d.net.budget = [] ∧ d.net.noticed = [] ∧
      d.grid.silent = (if s.dev.gridState = 0 ∨ s.dev.gridState = 5 then s.dev.grid.silent else s.dev.grid.silent + 1) ∧
      d.grid.holdover = (if s.dev.gridState = 4 ∨ (s.dev.gridState = 2 ∧ s.dev.grid.counting = true) then s.dev.grid.holdover + 1
        else s.dev.grid.holdover) ∧
      d.grid.listen = (if s.dev.gridState = 1 then s.dev.grid.listen + 1 else s.dev.grid.listen) ∧
      d.ram = s.dev.ram ∧ d.cores = s.dev.cores ∧ d.host = s.dev.host) ∧
    (∀ v : Word64, s.dev.next = [(TM_GRACE, v)] → s.dev.batchBusy = false →
      (wget v 31 0 ≤ 4882812 → Does .frameBoundary s fun d => d.fld TM_GRACE_frames = wget v 31 0 ∧ d.next = [] ∧
        d.reg GD_SWAP_FAIL = s.dev.reg GD_SWAP_FAIL) ∧
      (4882812 < wget v 31 0 → Does .frameBoundary s fun d => d.reg TM_GRACE = s.dev.reg TM_GRACE ∧ d.next = [] ∧
        d.fld GD_SWAP_FAIL_block = 4 ∧ d.fld GD_SWAP_FAIL_reason = 0x0201 ∧
        d.fld GD_SWAP_FAIL_fail_count = min (s.dev.fld GD_SWAP_FAIL_fail_count + 1) 0xFFFF ∧
        d.reg GD_SWAP_FAIL_FRAME = s.dev.reg GD_FRAME + 1))

/-- Setting arm checks the batch and arms it, or records its first failure; cancel returns an armed batch to idle before frame F − 1; in frame
F − 1 the entries go to the next copies (R69, R70, R73). -/
def batches : Prop :=
  (∀ (v : Word64) (s : State), s.dev.ready = true → s.dev.cp.d3hot = false → s.dev.batchBusy = false → bitAt v.toNat 8 = true → bitAt v.toNat 9 = false →
    let n := wget v 6 0
    let f := s.dev.fld GD_BATCH_FRAME_frame
    ((n = 0 ∨ 64 < n) → Does (.gdBatchArm v) s fun d => d.fld GD_BATCH_STATUS_state = 4 ∧ d.fld GD_BATCH_STATUS_reason = 0x0201 ∧
      regsBut [GD_BATCH_CTRL, GD_BATCH_STATUS] s.dev d ∧ onlyRegs s.dev d) ∧
    (1 ≤ n → n ≤ 64 → (∃ k < n, s.dev.batchEntryOk k = false) → Does (.gdBatchArm v) s fun d =>
      d.fld GD_BATCH_STATUS_state = 4 ∧ d.fld GD_BATCH_STATUS_reason = 0x0103 ∧ regsBut [GD_BATCH_CTRL, GD_BATCH_STATUS] s.dev d) ∧
    (1 ≤ n → n ≤ 64 → (∀ k < n, s.dev.batchEntryOk k = true) → (f < s.dev.frame + 4 ∨ s.dev.frame + 2 ^ 28 < f) → Does (.gdBatchArm v) s fun d =>
      d.fld GD_BATCH_STATUS_state = 4 ∧ d.fld GD_BATCH_STATUS_reason = 0x0201 ∧ regsBut [GD_BATCH_CTRL, GD_BATCH_STATUS] s.dev d) ∧
    (1 ≤ n → n ≤ 64 → (∀ k < n, s.dev.batchEntryOk k = true) → s.dev.frame + 4 ≤ f → f ≤ s.dev.frame + 2 ^ 28 → Does (.gdBatchArm v) s fun d =>
      d.fld GD_BATCH_STATUS_state = 1 ∧ d.fld GD_BATCH_STATUS_reason = 0 ∧ d.fld GD_BATCH_CTRL_count = n ∧
      regsBut [GD_BATCH_CTRL, GD_BATCH_STATUS] s.dev d ∧ onlyRegs s.dev d)) ∧
  (∀ (v : Word64) (s : State), s.dev.ready = true → s.dev.cp.d3hot = false → s.dev.fld GD_BATCH_STATUS_state = 1 → s.dev.inBatch GD_BATCH_CTRL = false →
    bitAt v.toNat 9 = true → bitAt v.toNat 8 = false → wget v 6 0 = s.dev.fld GD_BATCH_CTRL_count →
    (s.dev.frame + 1 < s.dev.fld GD_BATCH_FRAME_frame → Does (.gdBatchCancel v) s fun d => d.fld GD_BATCH_STATUS_state = 0 ∧
      d.next = s.dev.next ∧ regsBut [GD_BATCH_CTRL, GD_BATCH_STATUS] s.dev d) ∧
    (s.dev.fld GD_BATCH_FRAME_frame ≤ s.dev.frame + 1 → Does (.gdBatchCancel v) s fun d => d.fld GD_BATCH_STATUS_state = 1 ∧
      regsBut [GD_BATCH_CTRL] s.dev d)) ∧
  (∀ (s : State), s.dev.fld GD_BATCH_STATUS_state = 1 → s.dev.fld GD_BATCH_FRAME_frame = s.dev.frame + 1 →
    Does .batchWrite s fun d => d = { s.dev with regs := d.regs, next := d.next } ∧ d.fld GD_BATCH_STATUS_state = 2 ∧
      regsBut [GD_BATCH_STATUS] s.dev d ∧
      (∀ k, k < 64 → k + 1 = s.dev.fld GD_BATCH_CTRL_count → s.dev.regAbsent (s.dev.batchOff k) = false →
        hasStaged (s.dev.batchOff k) = true → (∀ j < k, s.dev.batchOff j ≠ s.dev.batchOff k) →
        smFind d.next (s.dev.batchOff k) = some (s.dev.staged (s.dev.batchOff k) (s.dev.reg (GD_BATCH_DATA k)))))

/-- Frame boundaries, swaps and batches.
Completes here: frameBoundary, batchWrite, gdBatchArm, gdBatchCancel. -/
def Obligations.FrameBoundariesSwapStagedValues : Prop := boundaries ∧ batches

/-! ### Registers (chapters 0, 1 and 9) -/

/-- Bit i of the register at an offset lies in a field of an access type. -/
def fieldBit (off : Nat) (acc : Acc) (i : Nat) : Prop := ∃ f ∈ fieldsAt off, f.acc = acc ∧ f.lo ≤ i ∧ i ≤ f.hi

/-- REGISTER_WRITE: nothing in D3hot; an access that is no aligned one of 8 bytes in register space is a host error of kind 3 and raises source
0; a write to an absent unit does nothing; one that R24 refuses records BUSY_RUNNING in its block's reason and changes nothing else; an accepted
one of the row tables takes RW bits from the value, clears W1C bits where the value is 1 and keeps every other bit; one to a staged field
goes to the next copy alone (R4, R16, R17, R18, R24, R383). -/
def registerWrites : Prop :=
  ∀ (a size : Nat) (v : Word64) (s : State),
    (s.dev.cp.d3hot = true → DoesLegend (.registerWrite a size v) s fun d => d = s.dev) ∧
    (s.dev.cp.d3hot = false →
      ((size ≠ 8 ∨ a % 8 ≠ 0 ∨ a < regSpaceBase ∨ regSpaceBase + 2 ^ 32 ≤ a) →
        DoesLegend (.registerWrite a size v) s fun d => d.fld CP_HOST_ERR_kind = 3 ∧ d.fld CP_HOST_ERR_addr = a % 2 ^ 48 ∧
          d.fld CP_HOST_ERR_count = min (s.dev.fld CP_HOST_ERR_count + 1) 4095 ∧ regsBut [CP_HOST_ERR] s.dev d ∧
          d = { s.dev with regs := d.regs, faults := s.dev.faults ++ [⟨0x00, 0, 0, 0⟩] }) ∧
      (∀ off, a = regSpaceBase + off → off < 2 ^ 32 → off % 8 = 0 → size = 8 → s.dev.ready = true →
        (s.dev.regAbsent off = true → DoesLegend (.registerWrite a size v) s fun d => d = s.dev) ∧
        (s.dev.regAbsent off = false → s.dev.inBatch off = false → s.dev.refusedByRun off v = true → 0x200000 ≤ off → off < 0x300000 →
          DoesLegend (.registerWrite a size v) s fun d => d.fld CP_STATUS_reason = 0x0301 ∧ regsBut [CP_STATUS] s.dev d ∧ onlyRegs s.dev d) ∧
        (0x18000 ≤ off → off < 0x40000 → s.dev.inBatch off = false →
          DoesLegend (.registerWrite a size v) s fun d => onlyRegs s.dev d ∧ regsBut [off] s.dev d ∧
            ∀ i < 64, (fieldBit off .rw i → (d.reg off).getLsbD i = v.getLsbD i) ∧
              (fieldBit off .w1c i → (d.reg off).getLsbD i = ((s.dev.reg off).getLsbD i && !v.getLsbD i)) ∧
              (¬ fieldBit off .rw i → ¬ fieldBit off .w1c i → (d.reg off).getLsbD i = (s.dev.reg off).getLsbD i)) ∧
        (off = TM_GRACE → s.dev.inBatch off = false →
          DoesLegend (.registerWrite a size v) s fun d => d.reg off = s.dev.reg off ∧ d = { s.dev with regs := d.regs, next := d.next } ∧
            regsBut [] s.dev d ∧ ∃ x, smFind d.next off = some x ∧ wget x 31 0 = wget v 31 0)))

/-- RC_READ gives the host the register's value as it stood and clears its RC fields, and no other bit (SQ_SCR_EXTWAIT, a count of waiting cycles,
it finds risen by less than 2^32, which the register then holds: R145, log entry 148); a read that is no aligned one of 8 bytes in
register space gives zeros and is a host error; in D3hot none is answered (R16, R17, R22, R383). -/
def registerReads : Prop :=
  (∀ (off : Nat) (s : State), s.dev.cp.d3hot = false → s.dev.ready = true → off % 8 = 0 → off < 2 ^ 32 → s.dev.regAbsent off = false →
    Does (.rcRead (regSpaceBase + off) 8) s fun d => d.cp.lastRead = leBytes 8 (s.dev.regView off).toNat ∧ d.cp.lastEp = false ∧
      regsBut [off] s.dev d ∧
      (isExtWait off = true → d.reg off = s.dev.regView off ∧ ∃ n < 2 ^ 32, d.reg off = s.dev.reg off + BitVec.ofNat 64 n) ∧
      (isExtWait off = false → ∀ i < 64, (fieldBit off .rc i → (d.reg off).getLsbD i = false) ∧
        (¬ fieldBit off .rc i → (d.reg off).getLsbD i = (s.dev.reg off).getLsbD i)) ∧
      d.cp = { s.dev.cp with lastRead := d.cp.lastRead, lastEp := false } ∧ d.ram = s.dev.ram) ∧
  (∀ (a size : Nat) (s : State), s.dev.cp.d3hot = false → (size ≠ 8 ∨ a % 8 ≠ 0 ∨ a < regSpaceBase ∨ regSpaceBase + 2 ^ 32 ≤ a) →
    Does (.rcRead a size) s fun d => d.cp.lastRead = leBytes size 0 ∧ d.fld CP_HOST_ERR_kind = 3 ∧ regsBut [CP_HOST_ERR] s.dev d) ∧
  (∀ (a size : Nat) (s : State), s.dev.cp.d3hot = true → Makes (.rcRead a size) s s.dev)

/-- A write of a tally sets its count and clears its error where bit 63 is 1; a write of a mailbox's cons from cons up to prod sets it, and one
outside is refused with CFG_RANGE; a mailbox's base and size may be written only while it is disabled, and enabling it checks the size
(R328, R333). -/
def tallyAndMailboxWrites : Prop :=
  (∀ (t : Nat) (v : Word64) (s : State), t < 65536 → s.dev.ready = true → s.dev.cp.d3hot = false → s.dev.inBatch (HF_TALLY t) = false →
    Does (.hfTallyWrite t v) s fun d => d.fld (HF_TALLY_count t) = wget v 31 0 ∧
      d.fld (HF_TALLY_error t) = (if bitAt v.toNat 63 then 0 else s.dev.fld (HF_TALLY_error t)) ∧
      (∀ u, u ≠ t → u < 65536 → d.reg (HF_TALLY u) = s.dev.reg (HF_TALLY u)) ∧ d.ram = s.dev.ram) ∧
  (∀ (m : Nat) (v : Word64) (s : State), m < 1024 → s.dev.ready = true → s.dev.cp.d3hot = false → s.dev.inBatch (HF_MBOX_CONS m) = false →
    let cons := s.dev.reg (HF_MBOX_CONS m)
    ((v - cons).toNat ≤ (s.dev.reg (HF_MBOX_PROD m) - cons).toNat → Does (.hfMboxConsWrite m v) s fun d =>
      d.reg (HF_MBOX_CONS m) = v ∧ regsBut [HF_MBOX_CONS m] s.dev d ∧ onlyRegs s.dev d) ∧
    ((s.dev.reg (HF_MBOX_PROD m) - cons).toNat < (v - cons).toNat → Does (.hfMboxConsWrite m v) s fun d =>
      d.fld HF_ROW_CTRL_reason = 0x0201 ∧ regsBut [HF_ROW_CTRL] s.dev d ∧ onlyRegs s.dev d)) ∧
  (∀ (m : Nat) (v : Word64) (s : State), m < 1024 → s.dev.ready = true → s.dev.cp.d3hot = false → s.dev.inBatch (HF_MBOX_CTRL m) = false →
    (s.dev.flag (HF_MBOX_CTRL_enable m) = false → (bitAt v.toNat 63 = false ∨ 16 ≤ wget v 4 0 ∧ wget v 4 0 ≤ 30) →
      Does (.hfMboxCtrlWrite m v) s fun d => d.fld (HF_MBOX_CTRL_enable m) = wget v 63 63 ∧ d.fld (HF_MBOX_CTRL_base m) = wget v 47 16 ∧
        d.fld (HF_MBOX_CTRL_log2_size m) = wget v 4 0 ∧ regsBut [HF_MBOX_CTRL m] s.dev d) ∧
    (s.dev.flag (HF_MBOX_CTRL_enable m) = false → bitAt v.toNat 63 = true → (wget v 4 0 < 16 ∨ 30 < wget v 4 0) →
      Does (.hfMboxCtrlWrite m v) s fun d => d.fld HF_ROW_CTRL_reason = 0x0201 ∧ regsBut [HF_ROW_CTRL] s.dev d) ∧
    (s.dev.flag (HF_MBOX_CTRL_enable m) = true → (wget v 47 16 ≠ s.dev.fld (HF_MBOX_CTRL_base m) ∨ wget v 4 0 ≠ s.dev.fld (HF_MBOX_CTRL_log2_size m)) →
      Does (.hfMboxCtrlWrite m v) s fun d => d.fld HF_ROW_CTRL_reason = 0x0301 ∧ regsBut [HF_ROW_CTRL] s.dev d) ∧
    (s.dev.flag (HF_MBOX_CTRL_enable m) = true → wget v 63 63 = 0 → wget v 47 16 = s.dev.fld (HF_MBOX_CTRL_base m) →
      wget v 4 0 = s.dev.fld (HF_MBOX_CTRL_log2_size m) →
      Does (.hfMboxCtrlWrite m v) s fun d => d.fld (HF_MBOX_CTRL_enable m) = 0 ∧ regsBut [HF_MBOX_CTRL m] s.dev d))

/-- Register reads and writes.
Completes here: registerWrite, rcRead, hfTallyWrite, hfMboxConsWrite, hfMboxCtrlWrite. -/
def Obligations.RegistersTakeReadsAndWritesByTheirFields : Prop := registerWrites ∧ registerReads ∧ tallyAndMailboxWrites

/-! ### Memory controllers (chapter 6) -/

/-- The interleave may be written while it is not locked, package-wide only with all sixteen stacks in service; a stack is taken offline, and
returned, outside package-wide mode and while no other of its base die changes; a change, once done, gives the stack its state, zeroes what
stays mapped of its base die and reports itself; training leads to a change into service or to failure (R196 to R200, R517). -/
def stacksLeaveAndReturn : Prop :=
  (∀ (v : Word64) (s : State), s.dev.ready = true → s.dev.cp.d3hot = false → s.dev.inBatch HF_HBM_MODE = false →
    (s.dev.flag HF_HBM_MODE_lock = true ∨ (bitAt v.toNat 0 = true ∧ ∃ k < 16, s.dev.stackState k ≠ 2) →
      DoesLegend (.hfHbmModeWrite v) s fun d => d = s.dev) ∧
    (s.dev.flag HF_HBM_MODE_lock = false → (bitAt v.toNat 0 = false ∨ ∀ k < 16, s.dev.stackState k = 2) →
      DoesLegend (.hfHbmModeWrite v) s fun d => d.fld HF_HBM_MODE_mode = wget v 0 0 ∧ d.fld HF_HBM_MODE_lock = 0 ∧
        regsBut [HF_HBM_MODE] s.dev d ∧ onlyRegs s.dev d)) ∧
  (∀ (k : Nat) (v : Word64) (s : State), k < 16 → s.dev.ready = true → s.dev.cp.d3hot = false → s.dev.inBatch (MC_CTRL k) = false →
    wget v 0 0 = s.dev.fld (MC_CTRL_enable k) → wget v 1 1 ≠ s.dev.fld (MC_CTRL_offline k) →
    (s.dev.offlineCheck k ≠ 0 → DoesLegend (.mcCtrlOffline k v) s fun d => d.fld (MC_STATUS_reason k) = s.dev.offlineCheck k ∧
      regsBut [MC_STATUS k] s.dev d ∧ d.stackState k = s.dev.stackState k) ∧
    (s.dev.packageWide = false → (s.dev.stackState k = 2 ∨ s.dev.stackState k = 4) → (∀ j ∈ stacksOf (k / 4), j ≠ k → s.dev.stackState j ≠ 3) →
      DoesLegend (.mcCtrlOffline k v) s fun d => d.fld (MC_CTRL_offline k) = wget v 1 1 ∧ regsBut [MC_CTRL k, MC_STATUS k] s.dev d ∧
        d.stackState k = (if wget v 1 1 = 1 then 3 else 1) ∧ (wget v 1 1 = 1 → smFind d.svc.changeTo k = some 4) ∧ d.ram = s.dev.ram)) ∧
  (∀ (k : Nat) (s : State), k < 16 → s.dev.stackState k = 1 →
    DoesLegend (.stackTrainingDone k true) s (fun d => d.stackState k = 3 ∧ smFind d.svc.changeTo k = some 2 ∧ d.ram = s.dev.ram) ∧
    DoesLegend (.stackTrainingDone k false) s (fun d => d.stackState k = 5 ∧ d.ram = s.dev.ram)) ∧
  (∀ (k dst : Nat) (s : State), k < 16 → s.dev.stackState k = 3 → dst < 8 → smFind s.dev.svc.changeTo k = some dst →
    DoesLegend (.stackChangeDone k) s fun d => d.stackState k = dst ∧ d.fld (MC_CTRL_enable k) = (if dst = 2 then 1 else 0) ∧
      smFind d.svc.changeTo k = none ∧ (∀ j ∈ d.stacksUp (k / 4), ∀ i < stackSpan, d.cell (j * stackKey + i) = 0) ∧
      (∀ j, j < 16 → j ∉ stacksOf (k / 4) → ∀ i < stackSpan, d.cell (j * stackKey + i) = s.dev.cell (j * stackKey + i)))

/-- Programming a spare row needs a test authorisation of scope bit 0, a stack offline and not busy, an open temperature gate and a spare left; a query
shows whether the named row is replaced; when programming is done the row is; an injection that names a reserved symbol is refused
(R225, R467, R516). -/
def rowsAreRepaired : Prop :=
  (∀ (k : Nat) (v : Word64) (s : State), k < 16 → s.dev.ready = true → s.dev.cp.d3hot = false → s.dev.inBatch (MC_REPAIR_CTRL k) = false →
    s.dev.refusedByRun (MC_REPAIR_CTRL k) v = false →
    (bitAt v.toNat 0 = true → bitAt v.toNat 1 = false →
      (s.dev.flag HF_AUTH_active = false → Does (.mcRepairProgram k v) s fun d => d.fld (MC_REPAIR_STATUS_reason k) = 0x0A01 ∧
        d.fld (MC_STATUS_reason k) = 0x0A01 ∧ d.svc = s.dev.svc ∧ regsBut [MC_REPAIR_STATUS k, MC_STATUS k] s.dev d) ∧
      (s.dev.flag HF_AUTH_active = true → bitAt (s.dev.fld HF_AUTH_scope) 0 = true → s.dev.stackState k = 4 →
        s.dev.flag (MC_REPAIR_STATUS_busy k) = false → s.dev.gateOpen [24 + k, 12 + k / 4] = true → s.dev.spareLeft k (s.dev.repairRow k) = true →
        Does (.mcRepairProgram k v) s fun d => d.fld (MC_REPAIR_STATUS_busy k) = 1 ∧ (k, s.dev.repairRow k) ∈ d.svc.repairing ∧
          d.svc.repairs = s.dev.svc.repairs ∧ regsBut [MC_REPAIR_STATUS k] s.dev d)) ∧
    (bitAt v.toNat 1 = true → bitAt v.toNat 0 = false → Does (.mcRepairQuery k v) s fun d =>
      d.fld (MC_REPAIR_STATUS_repaired k) = (if Config.rowRepaired k (s.dev.repairRow k) = true ∨ (k, s.dev.repairRow k) ∈ s.dev.svc.repairs then 1 else 0) ∧
      regsBut [MC_REPAIR_STATUS k] s.dev d ∧ onlyRegs s.dev d)) ∧
  (∀ (k row : Nat) (s : State), s.dev.flag (MC_REPAIR_STATUS_busy k) = true → (k, row) ∈ s.dev.svc.repairing →
    Does (.repairProgramDone k) s fun d => d.fld (MC_REPAIR_STATUS_busy k) = 0 ∧ d.isRepaired k row = true ∧ (k, row) ∉ d.svc.repairing ∧
      (∀ x ∈ s.dev.svc.repairs, x ∈ d.svc.repairs) ∧ d.ram = s.dev.ram) ∧
  (∀ (k : Nat) (v : Word64) (s : State), k < 16 → s.dev.ready = true → s.dev.cp.d3hot = false → s.dev.inBatch (MC_INJECT k) = false →
    s.dev.refusedByRun (MC_INJECT k) v = false →
    ((36 ≤ wget v 23 18 ∧ wget v 23 18 ≤ 62 ∨ 36 ≤ wget v 17 12 ∧ wget v 17 12 ≤ 62) → Does (.mcInjectWrite k v) s fun d =>
      d.fld (MC_STATUS_reason k) = 0x0201 ∧ regsBut [MC_STATUS k] s.dev d) ∧
    ((wget v 23 18 < 36 ∨ wget v 23 18 = 63) → (wget v 17 12 < 36 ∨ wget v 17 12 = 63) → Does (.mcInjectWrite k v) s fun d =>
      d.fld (MC_INJECT_arm k) = wget v 63 63 ∧ d.fld (MC_INJECT_sym_a k) = wget v 23 18 ∧ d.fld (MC_INJECT_sym_b k) = wget v 17 12 ∧
      d.fld (MC_INJECT_val_a k) = wget v 11 8 ∧ d.fld (MC_INJECT_val_b k) = wget v 7 4 ∧ regsBut [MC_INJECT k] s.dev d ∧ d.ram = s.dev.ram))

/-- Stacks out of service and back, spare rows and injections.
Completes here: hfHbmModeWrite, mcCtrlOffline, stackTrainingDone, stackChangeDone, mcRepairProgram, mcRepairQuery, repairProgramDone, mcInjectWrite. -/
def Obligations.StacksLeaveReturnAndAreRepaired : Prop := stacksLeaveAndReturn ∧ rowsAreRepaired

/-! ### Cells and bell (chapters 7 and 8) -/

/-- CELL_SEND: with a partner for the lane-slot, a lane that carries the colour, no lane probe due, a waiting cell and credit, the picked cell is
launched for the slot and frame aimed at with the coordinates of its hop and the epoch of that frame, leaves the queue, and is counted against
the credit, and the monitor keeps the lane's error; without credit, or where the version of that frame has no such hop, nothing changes.  A cell that
has waited the lifetime under which it was accepted is discarded and counted, and the timeout of the operation that it belongs to runs from
then on; one at the head of its queue for the escape time moves to the cage; both before their time change
nothing (R66, R74, R233, R246, R274, R276, R290, R295, R296, R334). -/
def cellsAreLaunched : Prop :=
  (∀ (p l slot : Nat) (e : Int) (s : State) (f c y : Nat) (w : Waiting), p < 6 → l < 31 → slot < 16 →
    let t := s.dev.requeue
    let k := bufKey p y w.cage
    let cell : Cell := { w.cell with hopSrc := s.dev.coordOn p, hopDst := y, epoch := if w.transit.isSome then w.cell.epoch else s.dev.versionAt f }
    t.aim p slot (t.slotPartner p l slot) = some (f, c, y) → t.laneCarries p l c = true → t.mayData p y = true → t.probeDue p l y = false →
    t.pickCell p y (l == 30) = some w →
    (t.hasCredit p y w.cage = true → t.mayAim p y f w = true → Does (.cellSend p l slot e) s fun d =>
      d.net.glass = s.dev.net.glass ++ [⟨p, l, slot, c, f, symbols cell.wire⟩] ∧ (∀ x ∈ d.net.waiting, x.id ≠ w.id) ∧
      cntGet d.net.sent k = cntGet s.dev.net.sent k + 1 ∧ d.net.credit = s.dev.net.credit ∧
      smFind ((d.drift p).lane l).lastErr c = some (s.dev.frame, e) ∧ d.ram = s.dev.ram ∧ d.cores = s.dev.cores ∧ d.host = s.dev.host ∧
      (w.transit.isSome = true → d.fld FB_RELAY_CNT_relayed = (s.dev.fld FB_RELAY_CNT_relayed + 1) % 2 ^ 32) ∧
      (w.transit.isSome = false → d.fld FB_RELAY_CNT_relayed = s.dev.fld FB_RELAY_CNT_relayed)) ∧
    ((t.hasCredit p y w.cage = false ∨ t.mayAim p y f w = false) → Makes (.cellSend p l slot e) s s.dev)) ∧
  (∀ (id : Nat) (s : State) (w : Waiting), s.dev.net.waiting.find? (fun x => x.id == id) = some w →
    (w.since + w.relayLimit ≤ s.dev.frame → Does (.cellLifetimeExpiry id) s fun d =>
      (∀ x ∈ d.net.waiting, x.id ≠ id) ∧ d.fld FB_DROP_CNT_lifetime = min (s.dev.fld FB_DROP_CNT_lifetime + 1) (2 ^ 16 - 1) ∧
      regsBut [FB_DROP_CNT] s.dev d ∧ (w.transit = none → d.net.freed = s.dev.net.freed) ∧
      (w.transit.isSome = true → d.row = s.dev.row) ∧
      (w.transit = none → w.cell.src = s.dev.fid → w.cell.hops = 0 → w.cell.cls < 2 → w.cell.rowType < 8 →
        ∀ r ∈ d.row.reqs, r.sent = true → r.seq = w.cell.seq → r.launched.isSome = true) ∧
      (∀ p y cage, w.transit = some (p, y, cage) →
        cntGet d.net.freed (bufKey p y cage) = cntGet s.dev.net.freed (bufKey p y cage) + 1)) ∧
    (s.dev.frame < w.since + w.relayLimit → Makes (.cellLifetimeExpiry id) s s.dev)) ∧
  (∀ (id : Nat) (s : State) (w : Waiting) (f : Nat),
    let t := s.dev.requeue
    let v := if w.transit.isSome then w.cell.epoch else s.dev.version
    t.net.waiting.find? (fun x => x.id == id) = some w → w.cage = false → w.headAt = some f →
    (f + w.escape ≤ s.dev.frame → t.ableHop v w.cell.cls w.cell.dst = false → t.cageHop v w.cell.cls w.cell.dst ≠ none →
      Does (.cageEscape id) s fun d => (∀ x ∈ d.net.waiting, x.id = id → x.cage = true ∧ x.queue = t.cageHop v w.cell.cls w.cell.dst) ∧
        d.fld FB_RELAY_CNT_escaped = (s.dev.fld FB_RELAY_CNT_escaped + 1) % 2 ^ 32 ∧ regsBut [FB_RELAY_CNT] s.dev d) ∧
    (s.dev.frame < f + w.escape ∨ t.ableHop v w.cell.cls w.cell.dst = true → Makes (.cageEscape id) s s.dev))

/-- CELL_RECEIVE of a drift that is enabled, of a grid state beyond OFF: bytes that are no cell count as a CRC failure; a cell for another coordinate
counts as misdelivered, and a notice is due, at most one a lane and frame; an accepted cell for this device, of a listed type, waits for the step
that takes it, and any bell cell's credit is taken; a collective bell record for another device goes on with its hops raised; an accepted
transit cell of seven hops, or without an entry for its class (R291, R300), is discarded and counted, another waits for its next hop.  In RANGE a
ranging cell is kept; in LISTEN it shows the grid's count (log entry 105), and the sixteenth bell cell in a row from one partner lets a
device that has heard an announce join (R63, R238, R247, R276, R290, R352, R518). -/
def cellsAreReceived : Prop :=
  ∀ (p l slot : Nat) (bytes : List (BitVec 8)) (s : State), p < 6 → l < 32 → slot < 16 → s.dev.driftFitted p = true →
    s.dev.flag (DR_CTRL_enable p) = true → s.dev.gridState ≠ 0 →
    (readWire bytes = none → Does (.cellReceive p l slot bytes) s fun d =>
      d.fld (DR_LANE_ERR_crc p l) = min (s.dev.fld (DR_LANE_ERR_crc p l) + 1) (2 ^ 32 - 1) ∧ regsBut [DR_LANE_ERR p l] s.dev d ∧
      d.net = s.dev.net) ∧
    (∀ c, readWire bytes = some c → s.dev.gridServes = true →
      (c.hopDst ≠ s.dev.coordOn p → Does (.cellReceive p l slot bytes) s fun d =>
        d.fld (DR_LANE_ERR_misdelivered p l) = min (s.dev.fld (DR_LANE_ERR_misdelivered p l) + 1) (2 ^ 32 - 1) ∧ d.net.rx = s.dev.net.rx ∧
        ((p, l) ∉ s.dev.net.noticed → d.net.notices = s.dev.net.notices ++
          [⟨s.dev.nextId, p, l, slot, (s.dev.coordOn p + 16 - c.hopSrc) % 16, s.dev.frame, c.hopSrc, c.headerBytes⟩]) ∧
        ((p, l) ∈ s.dev.net.noticed → d.net.notices = s.dev.net.notices ∧
          d.fld (DR_LANE_EVT_suppressed p l) = min (s.dev.fld (DR_LANE_EVT_suppressed p l) + 1) (2 ^ 16 - 1))) ∧
      (c.hopDst = s.dev.coordOn p → s.dev.accepts p c = true → c.listed = true → (4 ≤ c.cls ∨ c.dst = s.dev.fid) →
        (c.cls = 4 → s.dev.bellElsewhere c = false) →
        Does (.cellReceive p l slot bytes) s fun d => d.net.rx = s.dev.net.rx ++ [⟨s.dev.nextId, p, l, slot, s.dev.frame, c⟩] ∧
          d.nextId = s.dev.nextId + 1 ∧ d.regs = s.dev.regs ∧ d.net.waiting = s.dev.net.waiting ∧
          (c.cls = 4 → c.bellKind ≠ 9 → cntGet d.net.credit (bufKey p c.hopSrc false) = c.bellData ∧
            cntGet d.net.credit (bufKey p c.hopSrc true) = c.bellCage)) ∧
      (c.hopDst = s.dev.coordOn p → s.dev.accepts p c = true → c.cls < 4 → c.dst ≠ s.dev.fid → s.dev.selfFenced = false → c.hops = 7 →
        Does (.cellReceive p l slot bytes) s fun d => d.fld FB_DROP_CNT_hop_limit = min (s.dev.fld FB_DROP_CNT_hop_limit + 1) (2 ^ 16 - 1) ∧
          d.net.waiting = s.dev.net.waiting ∧ d.net.rx = s.dev.net.rx ∧ regsBut [FB_DROP_CNT] s.dev d) ∧
      (c.hopDst = s.dev.coordOn p → s.dev.accepts p c = true → c.cls < 4 → c.dst ≠ s.dev.fid → s.dev.selfFenced = false → c.hops < 7 →
        s.dev.routable c.epoch c.cls c.dst = false →
        Does (.cellReceive p l slot bytes) s fun d => d.fld FB_DROP_CNT_no_route = min (s.dev.fld FB_DROP_CNT_no_route + 1) (2 ^ 16 - 1) ∧
          d.net.waiting = s.dev.net.waiting ∧ d.net.rx = s.dev.net.rx ∧ regsBut [FB_DROP_CNT] s.dev d) ∧
      (c.hopDst = s.dev.coordOn p → s.dev.accepts p c = true → c.cls = 4 → 0x20 ≤ c.bellKind → c.bellKind < 0x30 → c.dst ≠ s.dev.fid →
        c.dst ≠ noFid → c.hops < 6 →
        Does (.cellReceive p l slot bytes) s fun d => d.net.rx = s.dev.net.rx ∧ d.regs = s.dev.regs ∧
          (∀ q y, s.dev.nextHop s.dev.version 4 c.dst = some (q, y) → d.net.bells = s.dev.net.bells ++
            [⟨q, y, c.bellKind, padTo 256 c.payload, some ⟨c.src, c.dst, c.hops + 1, c.seq⟩⟩])) ∧
      (c.hopDst = s.dev.coordOn p → s.dev.accepts p c = true → c.cls < 4 → c.dst ≠ s.dev.fid → s.dev.selfFenced = false → c.hops < 7 →
        s.dev.routable c.epoch c.cls c.dst = true →
        Does (.cellReceive p l slot bytes) s fun d => d.net.waiting.length = s.dev.net.waiting.length + 1 ∧ d.regs = s.dev.regs ∧
          ∃ w ∈ d.net.waiting, w.id = s.dev.nextId ∧ w.cell = { c with hops := c.hops + 1 } ∧ w.transit = some (p, c.hopSrc, l == 30))) ∧
    (∀ c, readWire bytes = some c → c.hopDst = s.dev.coordOn p → c.cls = 5 →
      (s.dev.gridState = 2 → Does (.cellReceive p l slot bytes) s fun d =>
        d.net.rx = s.dev.net.rx ++ [⟨s.dev.nextId, p, l, slot, s.dev.frame, c⟩] ∧ d.regs = s.dev.regs) ∧
      (s.dev.gridState = 1 → Does (.cellReceive p l slot bytes) s fun d => d.net.rx = s.dev.net.rx ∧ d.regs = s.dev.regs ∧
        d.grid.heardFrame = some ((leAt c.payload 8 8 : Int) - (s.dev.frame : Int)))) ∧
    (∀ c o, readWire bytes = some c → c.hopDst = s.dev.coordOn p → c.cls = 4 → l = 31 → s.dev.gridState = 1 → s.dev.grid.heard = true →
      s.dev.grid.heardFrame = some o → 15 ≤ cntGet s.dev.grid.bellRun (p * 16 + c.hopSrc) →
      Does (.cellReceive p l slot bytes) s fun d => d.gridState = 2 ∧ d.reg GD_FRAME = BitVec.ofNat 64 ((s.dev.frame : Int) + o).toNat ∧
        d.fld GD_STATUS_frame_jumped = 1)

/-- BELL_SEND launches the best waiting record for the partner of its slot with the credit of its port, and a CREDIT record where none waits, and the
monitor keeps lane 31's error; CREDIT takes the credit that the record carries (R246, R274 to R276). -/
def bellCarriesRecordsAndCredit : Prop :=
  (∀ (p slot f c y : Nat) (s : State), p < 6 → slot < 15 →
    s.dev.aim p slot (fun _ => some (s.dev.bellSlot p slot)) = some (f, c, y) →
    let via (b : Bell) : BellVia := b.via.getD ⟨s.dev.fid, s.dev.partnerAt p y, 0, 0⟩
    let cell (b : Bell) : Cell :=
      { s.dev.newCell 4 (bellOp b.kind (cntGet s.dev.net.freed (bufKey p y false)) (cntGet s.dev.net.freed (bufKey p y true)))
          (via b).seq (via b).dst b.payload 256 0 with
        hopSrc := s.dev.coordOn p, hopDst := y, hops := (via b).hops, src := (via b).src, epoch := s.dev.versionAt f }
    let post (g : Bell) (left : List Bell) (d : Dev) : Prop :=
      d.net = { s.dev.net with glass := s.dev.net.glass ++ [⟨p, 31, slot, c, f, symbols (cell g).wire⟩], bells := left } ∧
      smFind ((d.drift p).lane 31).lastErr c = some (s.dev.frame, (s.dev.freeAt 0).toInt) ∧ d.ram = s.dev.ram ∧ d.cores = s.dev.cores ∧ d.host = s.dev.host ∧
      d.grid = s.dev.grid ∧ d.row = s.dev.row ∧ d.fab = s.dev.fab
    s.dev.bellLane p c = true →
    (s.dev.isZb p = false → c = 1 + slot ∧ y = (s.dev.coordOn p + 1 + slot) % 16) ∧
    (∀ b, bestBell (s.dev.bellsFor p y) = some b → Does (.bellSend p slot) s (post b (s.dev.net.bells.erase b))) ∧
    (s.dev.bellsFor p y = [] → s.dev.mayBell p y 9 = true → Does (.bellSend p slot) s (post ⟨p, y, 9, zeros 256, none⟩ s.dev.net.bells))) ∧
  (∀ (rx : Nat) (s : State) (r : RxCell), received s.dev rx r 9 → Does (.credit rx) s fun d =>
    cntGet d.net.credit (bufKey r.port r.cell.hopSrc false) = r.cell.bellData ∧
    cntGet d.net.credit (bufKey r.port r.cell.hopSrc true) = r.cell.bellCage ∧ d.net.rx = s.dev.net.rx.filter (fun x => x.id != r.id) ∧
    d.regs = s.dev.regs ∧ d = { s.dev with net := d.net })

/-- A notice that is due becomes a bell record for the sender; a notice received quarantines its lane and colour, counts it, and asks for a
recalibration of a lane in SERVICE, HOLD or RECAL (R247 to R249, R261). -/
def misdeliveriesAreNoticed : Prop :=
  (∀ (id : Nat) (s : State) (n : Notice), s.dev.net.notices.find? (fun x => x.id == id) = some n →
    Makes (.misdeliveryNoticeSend id) s { s.dev with net := { s.dev.net with
      notices := s.dev.net.notices.filter (fun x => x.id != id),
      bells := s.dev.net.bells ++ [⟨n.port, n.coord, 5, padTo 256 (leBytes 4 s.dev.fid ++ leBytes 1 n.port ++ leBytes 1 n.lane ++
        leBytes 1 n.slot ++ leBytes 1 n.colour ++ leBytes 8 n.frame ++ n.header), none⟩] } }) ∧
  (∀ (rx : Nat) (s : State) (r : RxCell), received s.dev rx r 5 →
    let pl := r.cell.payload
    let p := leAt pl 4 1
    let l := leAt pl 5 1
    let c := leAt pl 7 1 % 16
    p < 6 → l < 32 → Does (.misdelivery rx) s fun d => d.bit (DR_LANE_STAT_qmask p l) c = true ∧
      d.fld (DR_LANE_EVT_notices p l) = min (s.dev.fld (DR_LANE_EVT_notices p l) + 1) (2 ^ 16 - 1) ∧
      d.fld (DR_MIS_LAST_lane p) = l ∧ d.fld (DR_MIS_LAST_colour p) = c ∧ d.fld (DR_MIS_LAST_receiver p) = leAt pl 0 4 % 2 ^ 20 ∧
      (s.dev.bit (DR_LANE_STAT_qmask p l) c = false → ((s.dev.laneState p l = 2 ∨ s.dev.laneState p l = 3 ∨ s.dev.laneState p l = 4) →
          ((d.drift p).lane l).wantRecal = true) ∧
        ∃ e ∈ d.faults, e.src = 0x80 + p ∧ e.level = 1) ∧
      (s.dev.bit (DR_LANE_STAT_qmask p l) c = true → d.drifts = s.dev.drifts))

/-- Cells and bell records leave and arrive.
Completes here: cellSend, cellReceive, cellLifetimeExpiry, cageEscape, bellSend, credit, misdeliveryNoticeSend, misdelivery. -/
def Obligations.CellsAndBellRecordsLeaveAndArrive : Prop :=
  cellsAreLaunched ∧ cellsAreReceived ∧ bellCarriesRecordsAndCredit ∧ misdeliveriesAreNoticed

/-! ### Drift ports (chapter 7) -/

/-- A write to a register of drift n reaches it: host-ready, the drift fitted, no batch in progress that names the register. -/
def driftWrite (s : State) (n off : Nat) : Prop := n < 6 ∧ s.dev.ready = true ∧ s.dev.cp.d3hot = false ∧ s.dev.driftFitted n = true ∧ s.dev.inBatch off = false

/-- CONTOUR_UPDATE extrapolates each lane's temperature by half of its last change, and takes the interpolated currents of that temperature; a lane in SERVICE or RECAL whose prediction
leaves the table goes to HOLD; T is kept also while the drift is off.  A commit is armed at least 128
frames ahead and cancelled within 128 frames of arming; at its frame the banks swap, and the copy makes both banks alike (R240 to R244). -/
def contoursCommit : Prop :=
  (∀ (n l : Nat) (t : Int) (s : State), n < 6 → l < 32 → s.dev.driftFitted n = true → s.dev.flag (DR_CTRL_enable n) = true →
    highest ((laneSensors l).filterMap (s.dev.driftSensor n)) = some t →
    let x := (s.dev.drift n).lane l
    let u : Int := 3 * t - x.tPrev.getD t
    Does (.contourUpdate n) s fun d => ((d.drift n).lane l).tPrev = some t ∧
      (0 ≤ u → u < 3520 → ((d.drift n).lane l).tf = u.toNat ∧ ((d.drift n).lane l).sets = s.dev.contourSets n l u.toNat ∧
        d.laneState n l = s.dev.laneState n l) ∧
      ((u < 0 ∨ 3520 ≤ u) → (s.dev.laneState n l = 2 ∨ s.dev.laneState n l = 4) → d.laneState n l = 3 ∧ ((d.drift n).lane l).cold = true ∧
        ∃ e ∈ d.faults, e.src = 0x78 + n ∧ e.level = 1)) ∧
  (∀ (n l : Nat) (s : State), n < 6 → l < 32 → s.dev.driftFitted n = true → s.dev.flag (DR_CTRL_enable n) = false →
    Does (.contourUpdate n) s fun d => ((d.drift n).lane l).tPrev = highest ((laneSensors l).filterMap (s.dev.driftSensor n)) ∧
      d.regs = s.dev.regs) ∧
  (∀ (n : Nat) (v : Word64) (s : State), driftWrite s n (DR_CONTOUR_CTRL n) → bitAt v.toNat 0 = true → bitAt v.toNat 1 = false →
    (s.dev.fld (DR_CONTOUR_CTRL_state n) = 0 → s.dev.frame + 128 ≤ s.dev.fld (DR_CONTOUR_FRAME_frame n) →
      Does (.drContourArm n v) s fun d => d.fld (DR_CONTOUR_CTRL_state n) = 1 ∧ (d.drift n).armedAt = s.dev.frame ∧
        regsBut [DR_CONTOUR_CTRL n] s.dev d) ∧
    (s.dev.fld (DR_CONTOUR_CTRL_state n) = 0 → s.dev.fld (DR_CONTOUR_FRAME_frame n) < s.dev.frame + 128 →
      Does (.drContourArm n v) s fun d => d.fld (DR_STATUS_reason n) = 0x0201 ∧ regsBut [DR_STATUS n] s.dev d ∧ onlyRegs s.dev d) ∧
    (s.dev.fld (DR_CONTOUR_CTRL_state n) ≠ 0 →
      Does (.drContourArm n v) s fun d => d.fld (DR_STATUS_reason n) = 0x0301 ∧ regsBut [DR_STATUS n] s.dev d ∧ onlyRegs s.dev d)) ∧
  (∀ (n : Nat) (v : Word64) (s : State), driftWrite s n (DR_CONTOUR_CTRL n) → bitAt v.toNat 0 = false → bitAt v.toNat 1 = true →
    s.dev.fld (DR_CONTOUR_CTRL_state n) = 1 →
    (s.dev.frame < (s.dev.drift n).armedAt + 128 → Does (.drContourCancel n v) s fun d => d.fld (DR_CONTOUR_CTRL_state n) = 0 ∧
      regsBut [DR_CONTOUR_CTRL n] s.dev d ∧ onlyRegs s.dev d) ∧
    ((s.dev.drift n).armedAt + 128 ≤ s.dev.frame → Makes (.drContourCancel n v) s s.dev)) ∧
  (∀ (n : Nat) (s : State), n < 6 → s.dev.fld (DR_CONTOUR_CTRL_state n) = 1 → s.dev.fld (DR_CONTOUR_FRAME_frame n) ≤ s.dev.frame →
    Does (.contourCommit n) s fun d => d.fld (DR_CONTOUR_CTRL_state n) = 2 ∧ onlyRegs s.dev d ∧
      ∀ i < contourEntries, d.reg (contourActive n + 8 * i) = s.dev.reg (contourNext n + 8 * i) ∧
        d.reg (contourNext n + 8 * i) = s.dev.reg (contourActive n + 8 * i)) ∧
  (∀ (n : Nat) (s : State), n < 6 → s.dev.fld (DR_CONTOUR_CTRL_state n) = 2 →
    Does (.contourCopyDone n) s fun d => d.fld (DR_CONTOUR_CTRL_state n) = 0 ∧ onlyRegs s.dev d ∧
      ∀ i < contourEntries, d.reg (contourActive n + 8 * i) = s.dev.reg (contourActive n + 8 * i) ∧
        d.reg (contourNext n + 8 * i) = s.dev.reg (contourActive n + 8 * i))

/-- A lane in service that wants and may have a recalibration enters RECAL and leaves service, and so do one whose CAL or colour check failed and a FAILED
one whose recalibration waits; its sweep clears the quarantine of every colour within 0.2 GHz
and quarantines those beyond 0.5, adjusts phase and mirrors but never the gain, and it returns 128 frames later, to HOLD while its port holds,
unless more than two colours stay quarantined, when the lane fails; a scheduled point asks for one, but never of a FAILED lane (R246, R256 to
R261). -/
def lanesRecalibrate : Prop :=
  (∀ (n l : Nat) (s : State), n < 6 → l < 32 → s.dev.laneState n l = 2 →
    let x := (s.dev.drift n).lane l
    (x.wantRecal = true → s.dev.mayRecal n l = true → Does (.recalStart n l) s fun d => d.laneState n l = 4 ∧
      ((d.drift n).lane l).wantRecal = false ∧ ((d.drift n).lane l).returnAt = none ∧ d.bit (DR_STATUS_in_service n) l = false ∧
      (∀ j < 32, j ≠ l → d.laneState n j = s.dev.laneState n j)) ∧
    (x.wantRecal = false ∨ s.dev.mayRecal n l = false → Makes (.recalStart n l) s s.dev) ∧
    (s.dev.flag (DR_CTRL_enable n) = true → s.dev.flag (DR_CTRL_auto_recal n) = true →
      recalPoints (s.dev.recalPeriod n) l x.lastRecal < recalPoints (s.dev.recalPeriod n) l s.dev.frame →
      Does (.autoRecal n l) s fun d => ((d.drift n).lane l).lastRecal = s.dev.frame ∧
        (s.dev.mayRecal n l = true → d.laneState n l = 4) ∧
        (s.dev.mayRecal n l = false → d.laneState n l = 2 ∧ ((d.drift n).lane l).wantRecal = true))) ∧
  (∀ (n l : Nat) (s : State), n < 6 → l < 32 → ((s.dev.drift n).lane l).wantRecal = true → s.dev.mayRecal n l = true →
    (s.dev.laneState n l = 5 ∨ (s.dev.laneState n l = 1 ∧ ((s.dev.drift n).lane l).checked = some false) ∨
      (s.dev.laneState n l = 3 ∧ (s.dev.drift n).holding = false ∧ ((s.dev.drift n).lane l).cold = false)) →
    Does (.recalStart n l) s fun d => d.laneState n l = 4 ∧ ((d.drift n).lane l).wantRecal = false ∧
      (∀ j < 32, j ≠ l → d.laneState n j = s.dev.laneState n j)) ∧
  (∀ (n l : Nat) (s : State), s.dev.laneState n l = 5 → Does (.autoRecal n l) s fun d => d.laneState n l = 5 ∧
    ((d.drift n).lane l).wantRecal = ((s.dev.drift n).lane l).wantRecal ∧ d.regs = s.dev.regs) ∧
  (∀ (n l : Nat) (w : List ColourSweep) (s : State), n < 6 → l < 32 → s.dev.laneState n l = 4 → ((s.dev.drift n).lane l).returnAt = none →
    w.length = 16 →
    Does (.recalSweepEnd n l w) s (fun d => ∀ c x, w[c]? = some x → (x.error.natAbs ≤ 2 → d.bit (DR_LANE_STAT_qmask n l) c = false) ∧
      (5 < x.error.natAbs → d.bit (DR_LANE_STAT_qmask n l) c = true) ∧
      (2 < x.error.natAbs → x.error.natAbs ≤ 5 → d.bit (DR_LANE_STAT_qmask n l) c = s.dev.bit (DR_LANE_STAT_qmask n l) c)) ∧
    ((∀ x ∈ w, x.error.natAbs ≤ 2) → Does (.recalSweepEnd n l w) s fun d => d.laneState n l = 4 ∧ d.fld (DR_LANE_STAT_fail_run n l) = 0 ∧
      ((d.drift n).lane l).returnAt = some (s.dev.frame + 128) ∧ d.faults = s.dev.faults ∧
      (∀ x ∈ ((d.drift n).lane l).written, wget x.2 15 0 = wget (s.dev.reg (contourActive n + 8 * x.1)) 15 0) ∧
      ∀ c y, w[c]? = some y → ∃ v, (contourEntry l c (((s.dev.drift n).lane l).tf / 64), v) ∈ ((d.drift n).lane l).written ∧
        wget v 63 16 = wget y.lowPoint 63 16) ∧
    ((∀ x ∈ w, 5 < x.error.natAbs) → Does (.recalSweepEnd n l w) s fun d => d.laneState n l = 5 ∧
      d.faults = s.dev.faults ++ [⟨0x88 + n, 1, portDetail n l 0, 0⟩])) ∧
  (∀ (n l f e : Nat) (v : Word64) (s : State), n < 6 → l < 32 → s.dev.laneState n l = 4 → ((s.dev.drift n).lane l).returnAt = some f → f ≤ s.dev.frame →
    ((s.dev.drift n).lane l).written = [(e, v)] → e < contourEntries →
    Does (.recalReturn n l) s fun d => d.laneState n l = (if (s.dev.drift n).holding then 3 else if s.dev.flag (DR_LANE_CTRL_disable n l) then 6 else 2) ∧
      d.fld (DR_LANE_STAT_last_recal n l) = s.dev.frame % 2 ^ 16 ∧ ((d.drift n).lane l).returnAt = none ∧
      d.reg (contourActive n + 8 * e) = v ∧ d.reg (contourNext n + 8 * e) = v)

/-- A port whose temperature slope over 250 us exceeds its hold threshold puts every lane in SERVICE or RECAL into HOLD, and every lane that comes into
SERVICE while it holds; after ten low slopes its lanes start their colour check, as a lane does that was outside the table once it has been
inside for ten updates; the port leaves HOLD when the last of them has been checked, and then a lane whose check passed returns
to service, and one whose check failed goes to RECAL where that may start (R251 to R254, R259). -/
def portsHoldAndRelease : Prop :=
  (∀ (n : Nat) (t o : Int) (s : State), n < 6 → s.dev.driftFitted n = true → highest ((List.range 8).filterMap (s.dev.driftSensor n)) = some t →
    (s.dev.drift n).chip[24]? = some o →
    Does (.slopeCheck n) s (fun d => (d.drift n).chip = (t :: (s.dev.drift n).chip).take 26 ∧ d.sfld (DR_TEMP_temp n) = sext 16 (wrap 16 t) ∧
      d.sfld (DR_TEMP_slope n) = clampI (4 * (t - o)) (-32768) 32767) ∧
    (s.dev.flag (DR_CTRL_enable n) = true → s.dev.fld (DR_THRESH_hold_slope n) * 4 < (4 * (t - o)).natAbs → (s.dev.drift n).holding = false →
      Does (.slopeCheck n) s fun d => (d.drift n).holding = true ∧ d.fld (DR_STATUS_hold_cause n) = 1 ∧
        ∀ l < 32, (s.dev.laneState n l = 2 ∨ s.dev.laneState n l = 4) → d.laneState n l = 3) ∧
    (s.dev.flag (DR_CTRL_enable n) = true → (4 * (t - o)).natAbs ≤ s.dev.fld (DR_THRESH_hold_slope n) * 4 →
      (4 * (t - o)).natAbs ≤ s.dev.fld (DR_THRESH_release_slope n) * 4 →
      Does (.slopeCheck n) s fun d => (d.drift n).calm = (s.dev.drift n).calm + 1 ∧
        ∀ l < 32, d.laneState n l = if (s.dev.drift n).holding = true ∧ (s.dev.laneState n l = 2 ∨ s.dev.laneState n l = 4) then 3
          else s.dev.laneState n l)) ∧
  (∀ (n : Nat) (s : State), n < 6 → (s.dev.drift n).holding = true → (s.dev.drift n).releasing = false → 10 ≤ (s.dev.drift n).calm →
    Does (.holdRelease n) s fun d =>
      (∀ l < 32, s.dev.laneState n l = 3 → ((s.dev.drift n).lane l).cold = false → ((d.drift n).lane l).checking = true) ∧
      ((∀ l < 32, s.dev.laneState n l = 3 → ((s.dev.drift n).lane l).cold = true) → (d.drift n).holding = false) ∧
      (∀ l < 32, d.laneState n l = s.dev.laneState n l)) ∧
  (∀ (n l : Nat) (s : State), n < 6 → l < 32 → s.dev.laneState n l = 3 → ((s.dev.drift n).lane l).cold = true →
    10 ≤ ((s.dev.drift n).lane l).okFor → ((s.dev.drift n).holding = false ∨ 10 ≤ (s.dev.drift n).calm) →
    Does (.laneHoldRelease n l) s fun d => ((d.drift n).lane l).checking = true ∧ d.regs = s.dev.regs) ∧
  (∀ (n l : Nat) (pass : Bool) (s : State), n < 6 → l < 32 → s.dev.laneState n l = 3 → ((s.dev.drift n).lane l).checking = true →
    let other := ∃ j < 32, j ≠ l ∧ s.dev.laneState n j = 3 ∧ ((s.dev.drift n).lane j).cold = false ∧ ((s.dev.drift n).lane j).checking = true
    let served := if s.dev.flag (DR_LANE_CTRL_disable n l) then 6 else 2
    ((s.dev.drift n).holding = false →
      (pass = true → ((s.dev.drift n).lane l).discarded = false → Does (.colourCheckEnd n l pass) s fun d => d.laneState n l = served ∧
        ((d.drift n).lane l).cold = false ∧ d.bit (DR_STATUS_in_service n) l = (served == 2)) ∧
      ((pass = false ∨ ((s.dev.drift n).lane l).discarded = true) → s.dev.mayRecal n l = true →
        Does (.colourCheckEnd n l pass) s fun d => d.laneState n l = 4) ∧
      ((pass = false ∨ ((s.dev.drift n).lane l).discarded = true) → s.dev.mayRecal n l = false →
        Does (.colourCheckEnd n l pass) s fun d => d.laneState n l = 3 ∧ ((d.drift n).lane l).wantRecal = true)) ∧
    ((s.dev.drift n).holding = true → ((s.dev.drift n).releasing = false ∨ other) →
      Does (.colourCheckEnd n l pass) s fun d => (d.drift n).holding = true ∧ ((d.drift n).lane l).checked = some pass ∧
        ∀ j < 32, d.laneState n j = s.dev.laneState n j) ∧
    ((s.dev.drift n).holding = true → (s.dev.drift n).releasing = true → ¬ other →
      Does (.colourCheckEnd n l pass) s fun d => (d.drift n).holding = false ∧ (d.drift n).releasing = false ∧
        (pass = true → ((s.dev.drift n).lane l).discarded = false → d.laneState n l = served)))

/-- Enabling a drift whose contour is loaded takes its lanes to CAL, except where a two-dimensional sheet leaves its lasers off; one whose contour is not
is refused with CFG_RANGE; disabling takes every lane to OFF.  CAL passes into SERVICE, from where a disabled lane goes on to DISABLED, and fails
into RECAL where that may start; the loopback stage disables each lane whose cells did not return; a lane in SERVICE may be recalibrated,
re-tested and disabled by itself, another is disabled once it gets there; a FAILED one recalibrates when recal asks for it and not when
unquar does, and a disabled one goes to CAL again, but not after loopback failed it (R8, R257, R260 to R262, R269). -/
def lanesTakeTheirStates : Prop :=
  (∀ (n : Nat) (v : Word64) (s : State), driftWrite s n (DR_CTRL n) →
    (s.dev.flag (DR_CTRL_enable n) = false → bitAt v.toNat 0 = true →
      ((s.dev.drift n).loaded = false → DoesLegend (.drCtrlEnable n v) s fun d => d.fld (DR_STATUS_reason n) = 0x0201 ∧
        regsBut [DR_STATUS n] s.dev d ∧ onlyRegs s.dev d) ∧
      ((s.dev.drift n).loaded = true → s.dev.keepsDark n = false → DoesLegend (.drCtrlEnable n v) s fun d =>
        d.fld (DR_CTRL_enable n) = 1 ∧ d.fld (DR_CTRL_auto_recal n) = wget v 1 1 ∧
        ∀ l < 32, d.laneState n l = 1) ∧
      ((s.dev.drift n).loaded = true → s.dev.keepsDark n = true → DoesLegend (.drCtrlEnable n v) s fun d =>
        d.fld (DR_CTRL_enable n) = 1 ∧ ∀ l < 32, d.laneState n l = s.dev.laneState n l)) ∧
    (s.dev.flag (DR_CTRL_enable n) = true → bitAt v.toNat 0 = false → DoesLegend (.drCtrlEnable n v) s fun d =>
      d.fld (DR_CTRL_enable n) = 0 ∧ d.fld (DR_STATUS_in_service n) = 0 ∧ (d.drift n).holding = false ∧
      n ∉ d.fab.looped ∧ ∀ l < 32, d.laneState n l = 0)) ∧
  (∀ (n l : Nat) (s : State), n < 6 → l < 32 → s.dev.laneState n l = 1 → ((s.dev.drift n).lane l).checked = none →
    (Does (.laneCalDone n l true) s fun d => d.laneState n l = (if s.dev.flag (DR_LANE_CTRL_disable n l) then 6 else 2) ∧ onlyRegs s.dev d) ∧
    (s.dev.mayRecal n l = true → Does (.laneCalDone n l false) s fun d => d.laneState n l = 4) ∧
    (s.dev.mayRecal n l = false → Does (.laneCalDone n l false) s fun d => d.laneState n l = 1 ∧ ((d.drift n).lane l).wantRecal = true ∧
      ((d.drift n).lane l).checked = some false)) ∧
  (∀ (p : Nat) (returned : BitVec 32) (s : State), p < 6 → s.dev.driftFitted p = true → s.dev.flag (DR_CTRL_enable p) = true →
    p ∉ s.dev.fab.looped → (∀ l < 32, s.dev.laneState p l ≠ 1 ∧ s.dev.laneState p l ≠ 3 ∧ s.dev.laneState p l ≠ 4) → (∃ l < 32, s.dev.laneState p l = 2) →
    Does (.loopbackStage p returned) s fun d => p ∈ d.fab.looped ∧ smFind d.fab.leftLoop p = some s.dev.frame ∧
      ∀ l < 32, s.dev.laneState p l = 2 →
        (returned.getLsbD l = true → d.laneState p l = 2) ∧
        (returned.getLsbD l = false → d.laneState p l = 6 ∧ d.fld (DR_LANE_CTRL_disable p l) = 1 ∧ d.bit (FB_LOOP_fail p) l = true)) ∧
  (∀ (n l : Nat) (v : Word64) (s : State), driftWrite s n (DR_LANE_CTRL n l) → l < 32 →
    (s.dev.flag (DR_LANE_CTRL_disable n l) = false → s.dev.laneState n l = 2 → bitAt v.toNat 0 = false →
      (bitAt v.toNat 1 = true → bitAt v.toNat 2 = false → s.dev.mayRecal n l = true →
        Does (.drLaneRecal n l v) s fun d => d.laneState n l = 4 ∧ d.bit (DR_STATUS_in_service n) l = false) ∧
      (bitAt v.toNat 1 = true → bitAt v.toNat 2 = false → s.dev.mayRecal n l = false →
        Does (.drLaneRecal n l v) s fun d => d.laneState n l = 2 ∧ ((d.drift n).lane l).wantRecal = true) ∧
      (bitAt v.toNat 2 = true → s.dev.mayRecal n l = true →
        Does (.drLaneUnquar n l v) s fun d => d.laneState n l = 4)) ∧
    (s.dev.laneState n l = 5 → bitAt v.toNat 0 = s.dev.flag (DR_LANE_CTRL_disable n l) →
      (bitAt v.toNat 1 = true → s.dev.mayRecal n l = true → Does (.drLaneRecal n l v) s fun d => d.laneState n l = 4) ∧
      (bitAt v.toNat 1 = true → s.dev.mayRecal n l = false → Does (.drLaneRecal n l v) s fun d => d.laneState n l = 5 ∧
        ((d.drift n).lane l).wantRecal = true) ∧
      (bitAt v.toNat 1 = false → bitAt v.toNat 2 = true → Does (.drLaneUnquar n l v) s fun d => d.laneState n l = 5 ∧
        ((d.drift n).lane l).wantRecal = ((s.dev.drift n).lane l).wantRecal)) ∧
    (s.dev.flag (DR_LANE_CTRL_disable n l) = false → bitAt v.toNat 0 = true →
      (s.dev.laneState n l = 2 → Does (.drLaneDisable n l v) s fun d => d.laneState n l = 6 ∧ d.fld (DR_LANE_CTRL_disable n l) = 1 ∧
        ∀ j < 32, j ≠ l → d.laneState n j = s.dev.laneState n j) ∧
      (s.dev.laneState n l ≠ 2 → bitAt v.toNat 1 = false → bitAt v.toNat 2 = false → Does (.drLaneDisable n l v) s fun d =>
        d.fld (DR_LANE_CTRL_disable n l) = 1 ∧ ∀ j < 32, d.laneState n j = s.dev.laneState n j)) ∧
    (s.dev.flag (DR_LANE_CTRL_disable n l) = true → bitAt v.toNat 0 = false → s.dev.laneState n l = 6 → s.dev.bit (FB_LOOP_fail n) l = false →
      Does (.drLaneDisable n l v) s fun d => d.laneState n l = 1 ∧ d.fld (DR_LANE_CTRL_disable n l) = 0 ∧
        ∀ j < 32, j ≠ l → d.laneState n j = s.dev.laneState n j) ∧
    (s.dev.flag (DR_LANE_CTRL_disable n l) = true → bitAt v.toNat 0 = false → s.dev.flag (DR_CTRL_enable n) = true →
      s.dev.bit (FB_LOOP_fail n) l = true →
      Does (.drLaneDisable n l v) s fun d => d.fld (DR_STATUS_reason n) = 0x0202 ∧ regsBut [DR_STATUS n] s.dev d ∧ onlyRegs s.dev d))

/-- Contour tables, recalibration, hold, and the states of lanes.
Completes here: contourUpdate, drContourArm, drContourCancel, contourCommit, contourCopyDone, recalStart, recalSweepEnd, recalReturn, autoRecal,
slopeCheck, holdRelease, laneHoldRelease, colourCheckEnd, drCtrlEnable, laneCalDone, loopbackStage, drLaneRecal, drLaneUnquar, drLaneDisable. -/
def Obligations.DriftLanesFollowTheirStatesAndTables : Prop :=
  contoursCommit ∧ lanesRecalibrate ∧ portsHoldAndRelease ∧ lanesTakeTheirStates

/-! ### The fabric (chapter 8) -/

/-- The completion that a command of queue q leaves. -/
def completes (s : State) (c : Cmd) (reason w0 w1 w2 : Nat) (d : Dev) : Prop := ∀ q, c.origin = .queue q →
  d.cp.cpls = s.dev.cp.cpls ++ [⟨q, c.tag, reason, w0 % 2 ^ 32, w1 % 2 ^ 32, w2 % 2 ^ 32, false, c.noIrq⟩]

/-- MAP_LOAD refuses a length that is none of a Map, fields out of range and a Map that contradicts itself, each with its reason in FB_STATUS; a good Map is
in force at once while the fabric is disabled, and otherwise waits for its frame, which must lie 128 frames ahead; MAP_SWITCH brings it into
force then.  EVICT and READMIT announce their change for the next multiple of 256 at least 1,024 frames ahead; ROUTE_QUERY gives the
entries of both versions.  A Map that names this device as master or backup ends its demotion (R49, R266 to R268, R287, R438, R440). -/
def mapsComeIntoForce : Prop :=
  (∀ (id : Nat) (s : State) (c : Cmd), begun s.dev id 0x0400 c →
    let len := c.p 1
    let l := s.dev.hostRead (c.p 0) len
    let m := mapOf l
    let right := 80 ≤ len ∧ len ≤ 64 + 16 * 65536 ∧ len = 64 + 16 * leAt l 8 4
    let refused (r : Nat) := DoesLegend (.mapLoad id) s fun d => d = (s.dev.setFld FB_STATUS_reason r).complete c r
    (¬ right → refused 0x0102) ∧ (right → mapRange l = false → refused 0x0201) ∧
    (right → mapRange l = true → s.dev.mapConsistent m = false → refused 0x0202) ∧
    (right → mapRange l = true → s.dev.mapConsistent m = true →
      (s.dev.flag FB_CTRL_enable = false → DoesLegend (.mapLoad id) s fun d => d.fab.map = some m ∧ d.fab.mapNext = none ∧
        d.fld FB_ID_id = mapFid m ∧ d.fld FB_STATUS_map_gen = m.generation ∧ d.fab.map0 = some m ∧ d.fab.map1 = some m ∧
        d.fab.live0 = [] ∧ d.fab.live1 = [] ∧ ((m.master = mapFid m ∨ m.backup = mapFid m) → d.grid.demoted = false) ∧
        completes s c 0 0 0 0 d) ∧
      (∀ old, s.dev.flag FB_CTRL_enable = true → s.dev.fab.map = some old →
        (c.p 2 < s.dev.frame + 128 → refused 0x0201) ∧
        (s.dev.frame + 128 ≤ c.p 2 → s.dev.mapMayReplace m old = false → refused 0x0202) ∧
        (s.dev.frame + 128 ≤ c.p 2 → s.dev.mapMayReplace m old = true → DoesLegend (.mapLoad id) s fun d =>
          d = { s.dev with fab := { s.dev.fab with mapNext := some ⟨c.p 2, m⟩ } }.complete c 0)))) ∧
  (∀ (s : State) (x : MapLoad), s.dev.fab.mapNext = some x →
    (x.frame ≤ s.dev.frame → DoesLegend .mapSwitch s fun d => d.fab.map = some x.map ∧ d.fab.mapNext = none ∧
      d.fld FB_ID_id = mapFid x.map % 2 ^ 20 ∧ d.fld FB_STATUS_map_gen = x.map.generation % 2 ^ 32 ∧ d.ram = s.dev.ram ∧
      ((x.map.master = mapFid x.map ∨ x.map.backup = mapFid x.map) → d.grid.demoted = false)) ∧
    (s.dev.frame < x.frame → DoesLegend .mapSwitch s fun d => d = s.dev)) ∧
  (∀ (id : Nat) (s : State) (c : Cmd), begun s.dev id 0x0401 c → c.id = id →
    let t := c.p 0 % 2 ^ 20
    let f := roundUp (s.dev.frame + 1024) 256
    (s.dev.inMap t = false → Makes (.evict id) s (s.dev.complete c 0x0702)) ∧
    (s.dev.inMap t = true → (t = s.dev.fid ∨ s.dev.fenced t = true) → Makes (.evict id) s (s.dev.complete c 0x0202)) ∧
    (s.dev.inMap t = true → t ≠ s.dev.fid → s.dev.fenced t = false → s.dev.announcedFor t 1 = none →
      (s.dev.fid, s.dev.fab.nextEpochSeq) ∉ s.dev.fab.seen →
      Does (.evict id) s fun d => d.fab.announced = s.dev.fab.announced ++ [⟨s.dev.fid, s.dev.fab.nextEpochSeq, f, [⟨t, 1⟩]⟩] ∧
        d.fab.nextEpochSeq = s.dev.fab.nextEpochSeq + 1 ∧ d.fld FB_EPOCH_pending = 1 ∧
        d.cp.cmds = s.dev.cp.cmds.map fun y => if y.id = id then { y with phase := .running, aux := [f] } else y)) ∧
  (∀ (id : Nat) (s : State) (c : Cmd), begun s.dev id 0x0402 c → c.id = id →
    let t := c.p 0 % 2 ^ 20
    let f := roundUp (s.dev.frame + 1024) 256
    (s.dev.fenced t = false → Makes (.readmit id) s (s.dev.complete c 0x0202)) ∧
    (∀ m e x h a b, s.dev.fab.map = some m → m.find t = some e → s.dev.fenced t = true → smFind s.dev.canary.heard t = some h → h.state = 4 →
      s.dev.frame ≤ h.arrived + 512 → s.dev.replyOf t = some (x, a, b) → t ≠ s.dev.fid →
      ((a ≠ e.serial ∨ b ≠ s.dev.fld FB_STATUS_map_gen) → Makes (.readmit id) s (s.dev.complete c 0x0204)) ∧
      (a = e.serial → b = s.dev.fld FB_STATUS_map_gen → (s.dev.fid, s.dev.fab.nextEpochSeq) ∉ s.dev.fab.seen →
        Does (.readmit id) s fun d => d.fab.announced = s.dev.fab.announced ++ [⟨s.dev.fid, s.dev.fab.nextEpochSeq, f, [⟨t, 0⟩]⟩] ∧
          d.cp.cmds = s.dev.cp.cmds.map fun y => if y.id = id then { y with phase := .running, aux := [f] } else y))) ∧
  (∀ (id : Nat) (s : State) (c : Cmd), begun s.dev id 0x0403 c →
    let t := c.p 0 % 2 ^ 20
    (fidSheet t = fidSheet s.dev.fid → Makes (.routeQuery id) s (s.dev.complete c 0 (s.dev.route 0 t + s.dev.route 1 t * 2 ^ 16) s.dev.version)) ∧
    (fidSheet t ≠ fidSheet s.dev.fid → Makes (.routeQuery id) s (s.dev.complete c 0 0 s.dev.version)))

/-- Enabling the fabric needs a Map; disabling it clears every outcome of Survey; resurvey forgets what was probed and matched.  A due probe names this
device, its serial, Map generation and plan digest, and a probe received is answered alike; a reply that matches the Map makes its position
live, and one that had been absent comes back by an announced change; the right device with another Map generation or plan digest is bell-only,
and counted; one of another device marks the position absent and extra, and one from where no device is expected extra; a device that never answers is marked
absent, and a port that stayed long enough at its threshold is degraded no more (R268 to R273, R292, R298). -/
def surveyPlacesPartners : Prop :=
  (∀ (v : Word64) (s : State), s.dev.ready = true → s.dev.cp.d3hot = false → s.dev.inBatch FB_CTRL = false →
    (s.dev.flag FB_CTRL_enable = false → bitAt v.toNat 0 = true → bitAt v.toNat 1 = false →
      (s.dev.fab.map = none → Does (.fbCtrlEnable v) s fun d => d.fld FB_STATUS_reason = 0x0201 ∧ regsBut [FB_STATUS] s.dev d ∧ onlyRegs s.dev d) ∧
      (s.dev.fab.map ≠ none → Does (.fbCtrlEnable v) s fun d => d.fld FB_CTRL_enable = 1 ∧ d.fld FB_STATUS_state ≠ 0 ∧
        d.fab = { s.dev.fab with above := d.fab.above } ∧
        ∀ p < 6, (s.dev.livePartners p).length < min 8 (((s.dev.expectedOn p).length + 1) / 2) → d.fld (FB_PLANE_degraded p) = 1)) ∧
    (s.dev.flag FB_CTRL_enable = true → bitAt v.toNat 0 = false → Does (.fbCtrlEnable v) s fun d => d.fld FB_CTRL_enable = 0 ∧
      d.fld FB_STATUS_state = 0 ∧ d.fab.survey = [] ∧
      ∀ p < 6, d.fld (FB_PLANE_live p) = 0 ∧ d.fld (FB_PLANE_absent p) = 0 ∧ d.fld (FB_PLANE_extra p) = 0 ∧ d.fld (FB_PLANE_degraded p) = 0) ∧
    (s.dev.flag FB_CTRL_enable = true → bitAt v.toNat 0 = true → bitAt v.toNat 1 = true → Makes (.fbResurvey v) s { s.dev with fab := { s.dev.fab with
      survey := s.dev.fab.survey.map fun e => (e.1, { e.2 with probeAt := none, matched := false, toProbe := 0, probed := 0, asked := 0 }) } })) ∧
  (∀ (p c : Nat) (s : State), p < 6 → (1 ≤ c ∨ s.dev.isZb p = true) → c < 16 → s.dev.flag FB_CTRL_enable = true → s.dev.gridServes = true →
    s.dev.keepsDark p = false → p ∈ s.dev.fab.looped → s.dev.alignedTo p c = true →
    let y := s.dev.coordVia p c
    (s.dev.isZb p = false → y = (s.dev.coordOn p + c) % 16) ∧
    (s.dev.probeWaits p y = true → Does (.surveyProbeSend p c) s fun d =>
      d.surveyed p y = { s.dev.surveyed p y with
        probeAt := some s.dev.frame
        asked := (s.dev.surveyed p y).asked ||| (s.dev.surveyed p y).probed
        probed := 0 } ∧
      d.net.bells = s.dev.net.bells ++ [⟨p, y, 2, padTo 256 (leBytes 4 s.dev.fid ++ leBytes 1 p ++ leBytes 1 c ++ zeros 2 ++
        leBytes 8 Config.serial.toNat ++ leBytes 4 (s.dev.fld FB_STATUS_map_gen) ++ zeros 4 ++ leBytes 8 (s.dev.fld (FB_PLAN_DIGEST_digest p))), none⟩] ∧
      d.regs = s.dev.regs) ∧
    (s.dev.probeWaits p y = false → Makes (.surveyProbeSend p c) s s.dev)) ∧
  (∀ (rx : Nat) (s : State) (r : RxCell), received s.dev rx r 2 →
    (s.dev.flag FB_CTRL_enable = false → Makes (.surveyProbe rx) s (s.dev.takeRx r)) ∧
    (s.dev.flag FB_CTRL_enable = true → Makes (.surveyProbe rx) s ((s.dev.takeRx r).bell r.port r.cell.hopSrc 3
      (leBytes 4 s.dev.fid ++ leBytes 1 r.port ++ leBytes 1 (leAt r.cell.payload 5 1) ++ zeros 2 ++ leBytes 8 Config.serial.toNat ++
        leBytes 4 (s.dev.fld FB_STATUS_map_gen) ++ leBytes 4 (leAt r.cell.payload 0 4) ++ leBytes 8 (s.dev.fld (FB_PLAN_DIGEST_digest r.port)) ++
        leBytes 4 (s.dev.surveyed r.port r.cell.hopSrc).heardLanes)))) ∧
  (∀ (rx : Nat) (s : State) (r : RxCell), received s.dev rx r 3 → s.dev.flag FB_CTRL_enable = true → r.port < 6 →
    let pl := r.cell.payload
    let p := r.port
    let y := s.dev.coordVia p (leAt pl 5 1)
    let agrees := leAt pl 16 4 = s.dev.fld FB_STATUS_map_gen ∧ leAt pl 24 8 = s.dev.fld (FB_PLAN_DIGEST_digest p)
    (s.dev.isZb p = false → y = (s.dev.coordOn p + leAt pl 5 1) % 16) ∧
    (∀ e, s.dev.expectedAt p y = some e → leAt pl 8 8 = e.serial → leAt pl 0 4 ≠ noFid →
      (agrees → Does (.surveyReply rx) s fun d => d.liveOn p y = true ∧ d.bit (FB_PLANE_absent p) y = false ∧ d.bit (FB_PLANE_extra p) y = false ∧
        d.fab.bellOnly = s.dev.fab.bellOnly ∧
        (s.dev.liveOn p y = false → s.dev.absent e.fid = true → s.dev.announcedFor e.fid 0 = none →
          (s.dev.fid, s.dev.fab.nextEpochSeq) ∉ s.dev.fab.seen →
          (⟨s.dev.fid, s.dev.fab.nextEpochSeq, roundUp (s.dev.frame + 1024) 256, [⟨e.fid, 0⟩]⟩ : Epoch) ∈ d.fab.announced)) ∧
      (¬ agrees → Does (.surveyReply rx) s fun d => d.liveOn p y = false ∧ d.bit (FB_PLANE_absent p) y = false ∧
        d.bit (FB_PLANE_extra p) y = true ∧
        ((s.dev.bit (FB_PLANE_absent p) y = true ∨ s.dev.bit (FB_PLANE_extra p) y = false) → d.fab.bellOnly = s.dev.fab.bellOnly + 1))) ∧
    (∀ e, s.dev.expectedAt p y = some e → leAt pl 8 8 ≠ e.serial →
      Does (.surveyReply rx) s fun d => d.liveOn p y = false ∧ d.bit (FB_PLANE_absent p) y = true ∧ d.bit (FB_PLANE_extra p) y = true ∧
        d.fld FB_STATUS_reason = 0x0204) ∧
    (s.dev.expectedAt p y = none →
      Does (.surveyReply rx) s fun d => d.liveOn p y = false ∧ d.bit (FB_PLANE_absent p) y = false ∧ d.bit (FB_PLANE_extra p) y = true)) ∧
  (∀ (rx : Nat) (s : State) (r : RxCell), received s.dev rx r 4 → r.lane < 31 → leAt r.cell.payload 5 1 = r.lane →
    r.cell.payload.drop 16 = ((List.range 240).map fun i => BitVec.ofNat 8 ((i + 16) ^^^ 0xA5)) →
    Does (.laneProbe rx) s fun d => bitAt (d.surveyed r.port r.cell.hopSrc).heardLanes r.lane = true ∧ d.regs = s.dev.regs) ∧
  (∀ (p y f : Nat) (s : State) (e : MapEntry), p < 6 → y < 16 → s.dev.expectedAt p y = some e → smFind s.dev.fab.leftLoop p = some f →
    s.dev.flag FB_CTRL_enable = true → f + 4194304 ≤ s.dev.frame → (s.dev.surveyed p y).reply = none → s.dev.bit (FB_PLANE_absent p) y = false →
    Does (.surveyAbsentTimeout p y) s fun d => d.bit (FB_PLANE_absent p) y = true ∧ d.liveOn p y = false ∧
      ∃ x ∈ d.faults, x.src = 0x07 ∧ x.level = 1) ∧
  (∀ (p f : Nat) (s : State), p < 6 → smFind s.dev.fab.above p = some f → s.dev.flag (FB_PLANE_degraded p) = true → f + 4096 ≤ s.dev.frame →
    Does (.portDegradedRecovery p) s fun d => d.fld (FB_PLANE_degraded p) = 0 ∧ d.fld (FT_SRC_STAT_active (0x90 + p)) = 0 ∧
      regsBut [FB_PLANE p, FT_SRC_STAT (0x90 + p)] s.dev d ∧ smFind d.fab.above p = none)

/-- Maps and Survey.
Completes here: mapLoad, mapSwitch, evict, readmit, routeQuery, fbCtrlEnable, fbResurvey, surveyProbeSend, surveyProbe, surveyReply, laneProbe,
surveyAbsentTimeout, portDegradedRecovery. -/
def Obligations.MapsAndSurveyPlaceTheDevices : Prop := mapsComeIntoForce ∧ surveyPlacesPartners

/-- A port's plan is armed when its checks pass and refused with the first reason otherwise; it may be cancelled up to 64 frames before its frame; it is
agreed when every live partner announced the same frame and digest, and cancelled otherwise, every partner hearing of it from that frame
on, as by a matching PLAN_CANCEL; at its frame the
next plan is the active one, with its digest; a port whose partner announced another digest four times returns to the default plan, degraded (R279 to
R283). -/
def plansSwitch : Prop :=
  (∀ (p : Nat) (v : Word64) (s : State), p < 6 → s.dev.ready = true → s.dev.cp.d3hot = false → s.dev.inBatch (FB_PLAN_CTRL p) = false →
    let st := s.dev.planState p
    (bitAt v.toNat 0 = true → bitAt v.toNat 1 = false → st ≠ 1 → st ≠ 2 →
      (s.dev.planCheck p = 0 → Does (.fbPlanArm p v) s fun d => d.planState p = 1 ∧ regsBut [FB_PLAN_CTRL p] s.dev d) ∧
      (s.dev.planCheck p ≠ 0 → Does (.fbPlanArm p v) s fun d => d.planState p = st ∧ d.fld (FB_PLAN_CTRL_reason p) = s.dev.planCheck p ∧
        d.fld FB_STATUS_reason = s.dev.planCheck p ∧ regsBut [FB_PLAN_CTRL p, FB_STATUS] s.dev d)) ∧
    (bitAt v.toNat 0 = false → bitAt v.toNat 1 = true → (st = 1 ∨ st = 2) →
      (s.dev.frame + 64 < s.dev.fld (FB_PLAN_FRAME_frame p) → Does (.fbPlanCancel p v) s fun d => d.planState p = 3 ∧
        d.fld (FB_PLAN_CTRL_reason p) = 0 ∧ (⟨p, s.dev.fld (FB_PLAN_FRAME_frame p) - 64, s.dev.fld (FB_PLAN_FRAME_frame p), s.dev.nextDigest p⟩ : PlanStop) ∈ d.fab.cancels) ∧
      (s.dev.fld (FB_PLAN_FRAME_frame p) ≤ s.dev.frame + 64 → Makes (.fbPlanCancel p v) s s.dev))) ∧
  (∀ (p : Nat) (s : State), p < 6 → s.dev.flag FB_CTRL_enable = true → s.dev.isZb p = false → s.dev.planState p = 1 → smFind s.dev.fab.planSent p = none →
    Does (.planAnnounceSend p) s fun d => smFind d.fab.planSent p = some s.dev.frame ∧ d.regs = s.dev.regs ∧
      d.net.bells = s.dev.net.bells ++ ((s.dev.expectedOn p).filter fun y => !s.dev.bit (FB_PLANE_extra p) y).map fun y => ⟨p, y, 6, padTo 256 (leBytes 1 p ++ leBytes 1 1 ++ zeros 6 ++
        leBytes 8 (s.dev.fld (FB_PLAN_FRAME_frame p)) ++ leBytes 8 (s.dev.nextDigest p).toNat ++
        leBytes 8 (s.dev.fld (FB_PLAN_DIGEST_digest p)) ++ leBytes 4 s.dev.fid), none⟩) ∧
  (∀ (rx : Nat) (s : State) (r : RxCell), received s.dev rx r 6 →
    let pl := r.cell.payload
    let p := leAt pl 0 1
    let k := p * 16 + r.cell.hopSrc
    p < 6 → Does (.planAnnounce rx) s fun d => d.regs = s.dev.regs ∧ ∃ x, smFind d.fab.plans k = some x ∧ x.pending = (leAt pl 1 1 == 1) ∧
      x.frame = leAt pl 8 8 ∧ x.digest = leAt pl 16 8 ∧ x.inUse = leAt pl 24 8 ∧
      (leAt pl 24 8 = s.dev.fld (FB_PLAN_DIGEST_digest p) → x.differ = 0) ∧ (4 ≤ x.differ → p ∈ d.fab.fallback)) ∧
  (∀ (rx : Nat) (s : State) (r : RxCell), received s.dev rx r 7 →
    let pl := r.cell.payload
    let p := leAt pl 0 1
    p < 6 → (s.dev.planState p = 1 ∨ s.dev.planState p = 2) → s.dev.frame < leAt pl 8 8 →
    (leAt pl 8 8 = s.dev.fld (FB_PLAN_FRAME_frame p) → leAt pl 16 8 = (s.dev.nextDigest p).toNat →
      Does (.planCancel rx) s fun d => d.planState p = 3 ∧ d.fld (FB_PLAN_CTRL_reason p) = 0x0202 ∧
        (⟨p, s.dev.frame + 1, leAt pl 8 8, s.dev.nextDigest p⟩ : PlanStop) ∈ d.fab.cancels) ∧
    ((leAt pl 8 8 ≠ s.dev.fld (FB_PLAN_FRAME_frame p) ∨ leAt pl 16 8 ≠ (s.dev.nextDigest p).toNat) →
      Makes (.planCancel rx) s (s.dev.takeRx r))) ∧
  (∀ (p : Nat) (s : State), p < 6 → s.dev.planState p = 1 →
    let f := s.dev.fld (FB_PLAN_FRAME_frame p)
    let agrees (y : Nat) := ∃ x, smFind s.dev.fab.plans (p * 16 + y) = some x ∧ x.pending = true ∧ x.frame = f ∧ x.digest = (s.dev.nextDigest p).toNat
    (f ≤ s.dev.frame + 64 → s.dev.frame < f → (∀ y ∈ s.dev.livePartners p, agrees y) →
      Does (.planAgreementCheck p) s fun d => d.planState p = 2 ∧ regsBut [FB_PLAN_CTRL p] s.dev d ∧ onlyRegs s.dev d) ∧
    (f ≤ s.dev.frame + 64 → (∃ y ∈ s.dev.livePartners p, ¬ agrees y) →
      Does (.planAgreementCheck p) s fun d => d.planState p = 3 ∧ d.fld (FB_PLAN_CTRL_reason p) = 0x0202 ∧
        (s.dev.frame < f → ∀ y, s.dev.expectedAt p y ≠ none → y < 16 → s.dev.bit (FB_PLANE_extra p) y = false →
          ∃ b ∈ d.net.bells, b.port = p ∧ b.coord = y ∧ b.kind = 7)) ∧
    (s.dev.frame + 64 < f → Makes (.planAgreementCheck p) s s.dev)) ∧
  (∀ (p : Nat) (s : State), p < 6 → s.dev.planState p = 2 → s.dev.fld (FB_PLAN_FRAME_frame p) ≤ s.dev.frame →
    Does (.planSwitch p) s fun d => d.planState p = 0 ∧ d.reg (FB_PLAN_DIGEST p) = s.dev.nextDigest p ∧
      ∀ i < 960, d.reg (planActive p + 8 * i) = s.dev.reg (planNext p + 8 * i)) ∧
  (∀ (p : Nat) (s : State), p < 6 → p ∈ s.dev.fab.fallback → s.dev.frame % 64 = 0 →
    Does (.planFallback p) s fun d => d.planState p = 4 ∧ d.reg (FB_PLAN_DIGEST p) = defaultPlanDigest ∧ p ∉ d.fab.fallback ∧
      d.faults = s.dev.faults ++ [⟨0x90 + p, 1, portDetail p 0 0, 0⟩] ∧
      ∀ i < 960, d.reg (planActive p + 8 * i) = BitVec.ofNat 64 (defaultPlanWord i))

/-- The first copy of an epoch announce is kept and forwarded to every live partner, and one that names this device fenced fences it; the version not in
force is built for the earliest announced frame, and comes into force then, counted, with the announces up to it forgotten (R292 to R295, R436). -/
def epochsSwitch : Prop :=
  (∀ (rx : Nat) (s : State) (r : RxCell), received s.dev rx r 8 →
    let e := epochOf r.cell.payload
    ((e.origin, e.seq) ∈ s.dev.fab.seen → Makes (.epochAnnounce rx) s (s.dev.takeRx r)) ∧
    ((e.origin, e.seq) ∉ s.dev.fab.seen → s.dev.fab.map ≠ none →
      ((∀ c ∈ e.changes, ¬ (c.fid = s.dev.fid ∧ c.state = 1)) → Does (.epochAnnounce rx) s fun d =>
        d.fab.announced = s.dev.fab.announced ++ [e] ∧ (e.origin, e.seq) ∈ d.fab.seen ∧ d.fld FB_EPOCH_pending = 1 ∧
        d.net.bells = s.dev.net.bells ++ (List.range 6).flatMap fun p => (s.dev.livePartners p).map fun y => ⟨p, y, 8, padTo 256 (epochBytes e), none⟩) ∧
      ((∃ c ∈ e.changes, c.fid = s.dev.fid ∧ c.state = 1) → s.dev.selfFenced = false → Does (.epochAnnounce rx) s fun d =>
        d.fab.announced = s.dev.fab.announced ++ [e] ∧ d.fld FT_CANARY_STATUS_state = 3))) ∧
  (∀ (f : Nat) (s : State) (m : FabMap), s.dev.nextSwitch = some f → s.dev.fab.map = some m → s.dev.fab.built ≠ some f →
    let v := 1 - s.dev.version
    let l := s.dev.nextLive m f
    Does .routeBuild s fun d => d.fab.built = some f ∧ d.liveSet v = l ∧ d.verMap v = some m ∧ d.version = s.dev.version ∧
      d.liveSet s.dev.version = s.dev.liveSet s.dev.version ∧
      (s.dev.fid ≠ noFid → ∀ i < 4096, d.route v (fidSheet s.dev.fid * 4096 + i) = routeEntry m l s.dev.fid (fidSheet s.dev.fid * 4096 + i)) ∧
      (f ≤ s.dev.frame → d.faults = s.dev.faults ++ [⟨0x08, 1, 0, 0⟩] ∧
        d.fld FB_DROP_CNT_late_epoch = min (s.dev.fld FB_DROP_CNT_late_epoch + 1) (2 ^ 16 - 1)) ∧
      (s.dev.frame < f → d.faults = s.dev.faults)) ∧
  (∀ (f : Nat) (s : State), s.dev.fab.built = some f →
    (f ≤ s.dev.frame → Does .epochSwitch s fun d => d.fld FB_EPOCH_count = (s.dev.fld FB_EPOCH_count + 1) % 2 ^ 32 ∧
      d.version = (s.dev.fld FB_EPOCH_count + 1) % 2 ∧ d.fab.built = none ∧ d.fab.lastSwitch = f ∧
      d.fab.announced = s.dev.fab.announced.filter (fun e => decide (f < e.frame)) ∧ d.fab.map = s.dev.fab.map) ∧
    (s.dev.frame < f → Makes .epochSwitch s s.dev))

/-- Slot plans and routing epochs.
Completes here: fbPlanArm, fbPlanCancel, planAnnounceSend, planAnnounce, planCancel, planAgreementCheck, planSwitch, planFallback, epochAnnounce,
routeBuild, epochSwitch. -/
def Obligations.PlansAndEpochsSwitchAtTheirFrames : Prop := plansSwitch ∧ epochsSwitch

/-! ### Row memory (chapter 9) -/

/-- The cells that wait to be launched, in order. -/
def waitingCells (d : Dev) : List Cell := d.net.waiting.map Waiting.cell

/-- ROW_REQUEST_SEND: a request of a load, store or atomic that must not wait goes to another member as one cell of Table 9-5, of class 0, or 1 for an
atomic, under a seq value that nothing outstanding uses, the next after the last one given out (R336, log entry 117); a request that has no route there (the
fabric disabled, this device unmapped, the member not in the Map, absent, or without a valid routing entry for classes 0 and 1) ends with NO_ROUTE, one to
a fenced member with PEER_FENCED; a request behind a full window, or that overlaps one in a granule where either
writes, changes nothing; a copy's request that no import entry covers fails its copy with OUT_OF_REGION, and nothing of the copy that
is still unsent goes (R290, R291, R306 to R309, R311, R314, R315, R318). -/
def requestsAreSent : Prop :=
  (∀ (id c : Nat) (s : State) (r : RowReq), s.dev.findReq id = some r → r.sent = false → (r.owner = .copyRead c ∨ r.owner = .copyWrite c) →
    s.dev.reqWaits r = false → s.dev.reqHeld r = false → s.dev.pathGate 0 (s.dev.memberFid r.member) = none →
    s.dev.importFor r.member r.addr r.len = none →
    Does (.rowRequestSend id) s fun d => d.ram = s.dev.ram ∧ d.regs = s.dev.regs ∧ d.net = s.dev.net ∧
      (∀ q ∈ d.row.reqs, q ∈ s.dev.row.reqs ∧ (q.sent = false → q.owner ≠ .copyRead c)) ∧
      ∀ x, s.dev.findCopy c = some x → d.findCopy c = some { x with fails := x.fails ++ [(r.member * 2 ^ 48 + r.addr, 0x0502)] }) ∧
  ∀ (id a : Nat) (s : State) (r : RowReq), s.dev.findReq id = some r → r.sent = false → r.owner = .access a →
    let f := s.dev.memberFid r.member
    let routed := s.dev.flag FB_CTRL_enable = true ∧ s.dev.fld FB_STATUS_state ≠ 3 ∧ s.dev.inMap f = true ∧ s.dev.absent f = false
    (s.dev.reqWaits r = false → r.member ≠ fidX s.dev.fid → ¬ routed → Makes (.rowRequestSend id) s (s.dev.answer r (.fail 0x0702))) ∧
    (s.dev.reqWaits r = false → r.member ≠ fidX s.dev.fid → routed → s.dev.fenced f = true →
      Makes (.rowRequestSend id) s (s.dev.answer r (.fail 0x0701))) ∧
    (s.dev.reqWaits r = false → r.member ≠ fidX s.dev.fid → f ≠ s.dev.fid → routed → s.dev.fenced f = false →
      s.dev.routable s.dev.version 0 f = false → Makes (.rowRequestSend id) s (s.dev.answer r (.fail 0x0702))) ∧
    (s.dev.reqWaits r = false → r.member ≠ fidX s.dev.fid → routed → s.dev.fenced f = false →
      (f = s.dev.fid ∨ s.dev.routable s.dev.version 0 f = true) → Does (.rowRequestSend id) s fun d =>
      d.findReq id = some { r with sent := true, seq := s.dev.freshSeq } ∧ d.row.seqNext = (s.dev.freshSeq + 1) % 2 ^ 16 ∧
      waitingCells d = waitingCells s.dev ++ [s.dev.newCell (match r.kind with | .atomic _ => 1 | _ => 0)
        (rowOp (match r.kind with | .read => 0 | .write => 1 | .atomic _ => 2) (match r.kind with | .atomic n => n | _ => 0) r.mask 0) s.dev.freshSeq
        (s.dev.memberFid r.member) (leBytes 8 r.addr ++ leBytes 4 r.key ++ leBytes 2 r.region ++ leBytes 2 r.len ++ leBytes 8 r.sb ++ leBytes 8 r.sc ++
          r.data) (32 + r.data.length) 0] ∧
      d.regs = s.dev.regs ∧ d.ram = s.dev.ram ∧ d.cores = s.dev.cores) ∧
    (s.dev.row.reqs.countP (·.sent) + s.dev.row.msgs.countP (·.sent) < 4096 → s.dev.seqUsed s.dev.freshSeq = false) ∧
    (4096 ≤ s.dev.row.reqs.countP (·.sent) + s.dev.row.msgs.countP (·.sent) → Makes (.rowRequestSend id) s s.dev) ∧
    (∀ q ∈ s.dev.row.reqs, q.sent = true → q.member = r.member → (q.kind ≠ .read ∨ r.kind ≠ .read) →
      q.addr / 32 ≤ (r.addr + r.len - 1) / 32 → r.addr / 32 ≤ (q.addr + q.len - 1) / 32 → Makes (.rowRequestSend id) s s.dev)

/-- Whether region entry g of a device lets member x do an operation (0 read, 1 write, 2 atomic) on n bytes at a (R310). -/
def regionLets (d : Dev) (op x g key a n : Nat) : Prop :=
  d.flag (HF_REGION_BASE_valid g) = true ∧ d.fld (HF_REGION_KEY_key g) = key ∧ d.bit (HF_REGION_KEY_src_mask g) x = true ∧
  (op = 0 → d.flag (HF_REGION_BASE_read g) = true) ∧ (op = 1 → d.flag (HF_REGION_BASE_write g) = true) ∧
  (op = 2 → d.flag (HF_REGION_BASE_atomic g) = true) ∧ d.fld (HF_REGION_BASE_base g) * 4096 ≤ a ∧
  a + n ≤ (d.fld (HF_REGION_LIMIT_limit g) + 1) * 4096 ∧ d.present a n = true

/-- The cell of another member whose row type is t waits to be taken. -/
def requested (d : Dev) (rx : Nat) (r : RxCell) (cls t : Nat) : Prop :=
  d.rxCell rx = some r ∧ r.cell.cls = cls ∧ bitsOf r.cell.op 31 28 = t

/-- A read or write request that its region entry lets through is served and answered once: a read with data cells of at most 256 bytes, the last one
shorter, a write with an acknowledgement once memory holds its bytes.  A refusal changes no memory, is counted and recorded, and
goes back with its reason: KEY_MISMATCH before OUT_OF_REGION, and OUT_OF_REGION for all while serve is 0 (R310, R312, R316, R317, R319). -/
def requestsAreServed : Prop :=
  ∀ (rx t : Nat) (s : State) (r : RxCell), (t = 0 ∨ t = 1) → requested s.dev rx r 0 t →
    let c : Instr := if t = 0 then .rowReadRequest rx else .rowWriteRequest rx
    let pl := r.cell.payload
    let a := leAt pl 0 6
    let key := leAt pl 8 4
    let g := leAt pl 12 2 % 4096
    let n := leAt pl 14 2
    let x := fidX r.cell.src
    let back (op : Nat) (data : List Byte) : Cell := s.dev.newCell 0 op r.cell.seq r.cell.src data data.length 0
    let refused (reason : Nat) := Does c s fun d => d.ram = s.dev.ram ∧ waitingCells d = waitingCells s.dev ++ [back (rowOp 0xF 0 reason 0) []] ∧
      wget (d.reg HF_ROW_REFUSED) 63 48 = reason ∧ wget (d.reg HF_ROW_REFUSED) 19 0 = r.cell.src % 2 ^ 20 ∧
      wget (d.reg HF_ROW_REFUSED) 43 32 = g ∧ wget (d.reg HF_ROW_REFUSED) 47 44 = t ∧ d.rxCell rx = none ∧
      d.fld (HF_REGION_CNT_refusals g) = min (s.dev.fld (HF_REGION_CNT_refusals g) + 1) (2 ^ 32 - 1)
    s.dev.held a n = false →
    (s.dev.flag HF_ROW_CTRL_serve = false → refused 0x0502) ∧
    (s.dev.flag HF_ROW_CTRL_serve = true →
      ((s.dev.flag (HF_REGION_BASE_valid g) = false ∨ s.dev.fld (HF_REGION_KEY_key g) ≠ key ∨
        s.dev.bit (HF_REGION_KEY_src_mask g) x = false) → refused 0x0501) ∧
      (s.dev.flag (HF_REGION_BASE_valid g) = true → s.dev.fld (HF_REGION_KEY_key g) = key → s.dev.bit (HF_REGION_KEY_src_mask g) x = true →
        ¬ regionLets s.dev t x g key a n → refused 0x0502) ∧
      (t = 0 → regionLets s.dev 0 x g key a n → Does c s fun d =>
        d.ram = (s.dev.scrub a n).ram ∧
        waitingCells d = waitingCells s.dev ++ (List.range ((n + 255) / 256)).map (fun i =>
          back (rowOp 8 0 ((s.dev.scrub a n).maskOf a n / 2 ^ (16 * i)) i) (((s.dev.scrub a n).bytesAt a n).drop (256 * i) |>.take 256))) ∧
      (t = 1 → regionLets s.dev 1 x g key a n → Does c s fun d =>
        d.ram = (s.dev.writeMasked a (sliceB pl 32 n) (bitsOf r.cell.op 23 8)).ram ∧
        waitingCells d = waitingCells s.dev ++ [back (rowOp 9 0 0 0) []]))

/-- A row atomic of a kind of Table 9-6 that its entry lets through reaches the atomic unit, which answers its requester; one of a reserved kind is
refused with BAD_FIELD (R310, R321). -/
def atomicsReachTheUnit : Prop :=
  ∀ (rx : Nat) (s : State) (r : RxCell), requested s.dev rx r 1 2 → s.dev.flag HF_ROW_CTRL_serve = true →
    let pl := r.cell.payload
    let a := leAt pl 0 6
    let g := leAt pl 12 2 % 4096
    let n := leAt pl 14 2
    let kind := bitsOf r.cell.op 27 24
    s.dev.held a n = false → regionLets s.dev 2 (fidX r.cell.src) g (leAt pl 8 4) a n →
    (kind ≤ 13 → Does (.rowAtomicRequest rx) s fun d => waitingCells d = waitingCells s.dev ∧ (d.ram = s.dev.ram ∨ d.ram = (s.dev.readWord a).ram) ∧
      d.row.atoms.length = s.dev.row.atoms.length + 1 ∧ ∃ j ∈ d.row.atoms, j.id = s.dev.nextId ∧ j.addr = a ∧ j.kind = kind ∧
      j.sb = leAt pl 16 8 ∧ j.sc = leAt pl 24 8 ∧ j.region = g ∧ j.reply = .remote r.cell.src r.cell.seq) ∧
    (13 < kind → Does (.rowAtomicRequest rx) s fun d => d.row.atoms = s.dev.row.atoms ∧ d.ram = s.dev.ram ∧
      waitingCells d = waitingCells s.dev ++ [s.dev.newCell 1 (rowOp 0xF 0 0x0103 0) r.cell.seq r.cell.src [] 0 0])

/-- ATOMIC_EXECUTE: an atomic whose narrow access has started, with no earlier one on its granule, reads the old value, unless it has read it when its
access started (a plain write that lands in between is then lost: R323), and writes the new one of its
kind: add, minimum and maximum, signed, unsigned and floating, and compare and swap; nothing is written where the word is poisoned.
The answer carries the old value; one whose word has become absent is refused with OUT_OF_REGION, recorded and counted (R312, R322 to R325). -/
def atomicsExecute : Prop :=
  ∀ (slot src seq : Nat) (s : State) (j : AtomJob), s.dev.row.atoms.find? (fun x => x.id == slot) = some j → j.reply = .remote src seq →
    let n := if j.kind = 1 ∨ 9 ≤ j.kind ∧ j.kind ≤ 13 then 8 else 4
    let w := 8 * n
    let t := s.dev.readWord j.addr
    let read := j.old.getD (ofLe (t.bytesAt j.addr n), t.poisonAt j.addr)
    let old := read.1 % 2 ^ w
    let sb := j.sb % 2 ^ w
    let signed (v : Nat) : Int := (BitVec.ofNat w v).toInt
    let reply (bad : Bool) : Cell := s.dev.newCell 1 (rowOp 0xA j.kind (if bad then 1 else 0) 0) seq src (leBytes 8 read.1) 8 0
    j.granted = true → ((s.dev.row.atoms.takeWhile fun x => x.id != slot).all fun x => x.addr / 32 != j.addr / 32) = true →
    s.dev.held j.addr n = false →
    (s.dev.present j.addr n = false → Does (.atomicExecute slot) s fun d => d.ram = s.dev.ram ∧
      waitingCells d = waitingCells s.dev ++ [s.dev.newCell 1 (rowOp 0xF 0 0x0502 0) seq src [] 0 0] ∧
      wget (d.reg HF_ROW_REFUSED) 63 48 = 0x0502 ∧ wget (d.reg HF_ROW_REFUSED) 47 44 = 2 ∧ ∀ x ∈ d.row.atoms, x.id ≠ slot) ∧
    (s.dev.present j.addr n = true → read.2 = true → Does (.atomicExecute slot) s fun d => d.ram = t.ram ∧ waitingCells d = waitingCells s.dev ++ [reply true] ∧
      d.regs = t.regs ∧ ∀ x ∈ d.row.atoms, x.id ≠ slot) ∧
    (s.dev.present j.addr n = true → read.2 = false → ∀ new, (match j.kind with
        | 0 => new = (old + sb) % 2 ^ w
        | 1 => new = (old + sb) % 2 ^ w
        | 2 => new = (fpWrite true (addNum (fpRead (BitVec.ofNat 32 old)) (fpRead (BitVec.ofNat 32 sb)))).toNat
        | 7 => new = atomMinMax minNum old sb
        | 8 => new = atomMinMax maxNum old sb
        | 3 => new = if signed sb < signed old then sb else old
        | 4 => new = if signed old < signed sb then sb else old
        | 5 => new = min old sb
        | 6 => new = max old sb
        | 9 => new = if signed sb < signed old then sb else old
        | 10 => new = if signed old < signed sb then sb else old
        | 11 => new = min old sb
        | 12 => new = max old sb
        | 13 => new = if old = j.sc % 2 ^ w then sb else old
        | _ => False) →
      Does (.atomicExecute slot) s fun d => d.ram = (t.writeClean j.addr (leBytes n new)).ram ∧
        waitingCells d = waitingCells s.dev ++ [reply false] ∧ ∀ x ∈ d.row.atoms, x.id ≠ slot)

/-- What the row sends back ends its request once: the data cells of a read are joined at their places, an acknowledgement ends a write, a reply
carries an atomic's old value, a refusal and the timeout of a launched request fail it with their reasons; a reply that no outstanding request
waits for is discarded and counted as late (R314, R316, R317, R334, R336). -/
def answersEndRequests : Prop :=
  (∀ (rx cls t : Nat) (c : Instr) (s : State) (r : RxCell) (q : RowReq),
    (c, cls, t) ∈ [(.readData rx, 0, 8), (.writeAck rx, 0, 9), (.atomicReply rx, 1, 0xA), (.rowRefusal rx, 0, 0xF), (.rowRefusal rx, 1, 0xF)] →
    requested s.dev rx r cls t →
    let u := s.dev.dropRx r
    let fits (q : RowReq) : Prop := q.sent = true ∧ q.seq = r.cell.seq ∧ s.dev.memberFid q.member = r.cell.src ∧ q.member ≠ fidX s.dev.fid ∧
      (t = 8 → q.kind = .read) ∧ (t = 9 → q.kind = .write) ∧ (t = 0xA → ∃ k, q.kind = .atomic k)
    (q ∈ s.dev.row.reqs → fits q → (∀ p ∈ s.dev.row.reqs, p ≠ q → p.seq ≠ q.seq) →
      (t = 9 → Makes c s (u.answer q .ack)) ∧
      (t = 0xA → Makes c s (u.answer q (.old (leAt r.cell.payload 0 q.len) (bitAt (bitsOf r.cell.op 23 8) 0)))) ∧
      (t = 0xF → Makes c s (u.answer q (.fail (bitsOf r.cell.op 23 8)))) ∧
      (t = 8 → let i := bitsOf r.cell.op 7 0
        (∀ p ∈ q.parts, p.1 ≠ i) → 256 * i < q.len →
        let q' := { q with parts := q.parts ++ [(i, sliceB r.cell.payload 0 (min 256 (q.len - 256 * i)), bitsOf r.cell.op 23 8)] }
        (q'.parts.length = (q.len + 255) / 256 → Makes c s (u.answer q' (.data q'.joined.1 q'.joined.2))) ∧
        (q'.parts.length ≠ (q.len + 255) / 256 → Makes c s (u.modReq q.id fun _ => q')))) ∧
    ((∀ p ∈ s.dev.row.reqs, ¬ fits p) → Makes c s (u.countSat HF_ROW_CNT_late 1))) ∧
  (∀ (id : Nat) (s : State) (q : RowReq), s.dev.findReq id = some q →
    (q.launched ≠ none → q.deadline ≤ s.dev.frame → Makes (.rowRequestTimeout id) s ((s.dev.countSat HF_ROW_CNT_timeouts 1).answer q (.fail 0x0601))) ∧
    (q.launched = none ∨ s.dev.frame < q.deadline → Makes (.rowRequestTimeout id) s s.dev))

/-- The only answer of an SLD puts the loaded value in its register and the program goes on; a poisoned one traps with 0x03, and a failed one with
0x05, or 0x06 for TIMEOUT_REMOTE, at the address it asked for (R174, R189, Table 9-11). -/
def answersEndLoads : Prop :=
  ∀ (d : Dev) (q : RowReq) (id : Nat) (a : Access), q.owner = .access id → d.findAccess id = some a → a.id = id → a.kind = .sld → a.live = true →
    a.core < 960 → d.coreState a.core = 1 → d.pc a.core < 8191 → (d.core a.core).loadId = id → a.got = [] → a.fails = [] → a.len = q.len → q.off = 0 →
    (∀ r ∈ d.row.reqs, r.id ≠ q.id → r.owner ≠ .access id) → (∀ j ∈ d.row.atoms, j.reply ≠ .access id) →
    (∀ l : List Byte, l.length = q.len → q.len ≤ 8 →
      (let e := d.answer q (.data l 0)
       (e.core a.core).sreg (wget a.word 47 43) = (if wget a.word 47 43 = 0 then 0 else loadValue a.word l) ∧ e.pc a.core = d.pc a.core + 1 ∧
         (e.core a.core).loadId = 0 ∧ coresBut a.core d e ∧ regsBut [SQ_STATUS a.core] d e ∧ e.ram = d.ram) ∧
      (1 ≤ q.len → let e := d.answer q (.data l 1)
       e.coreState a.core = 2 ∧ e.reg (SQ_TRAP a.core) = BitVec.ofNat 64 (0x03 + a.pc % 2 ^ 13 * 2 ^ 16) ∧ coresBut a.core d e ∧
         (e.core a.core).s = (d.core a.core).s)) ∧
    (∀ reason < 65536, let e := d.answer q (.fail reason)
      e.coreState a.core = 2 ∧ e.reg (SQ_TRAP_ADDR a.core) = BitVec.ofNat 64 a.addr ∧ coresBut a.core d e ∧
        e.reg (SQ_TRAP a.core) = BitVec.ofNat 64 ((if reason = 0x0601 then 0x06 else 0x05) + a.pc % 2 ^ 13 * 2 ^ 16 + reason * 2 ^ 48))

/-- MESSAGE_SEND of the first message to its destination and mailbox, with the window open and its source present, sends its bytes as one cell for each 256,
under one fresh seq value; a destination that is fenced or has no route ends it at once, an absent source with CFG_RANGE, and a message behind another to the same
mailbox, or whose copy stands behind another of its queue that writes its source, waits (R160, R290, R306, R309, R329, R330). -/
def messagesAreSent : Prop :=
  ∀ (id : Nat) (s : State) (m : Msg) (c : Copy), s.dev.row.msgs.find? (fun x => x.id == id) = some m → s.dev.findCopy m.copy = some c →
    m.sent = false → m.dst ≠ s.dev.fid → s.dev.held c.message.1 c.message.2 = false →
    (((s.dev.row.msgs.takeWhile fun x => x.id != id).any fun x => x.dst == m.dst && x.mailbox == m.mailbox) = true →
      Makes (.messageSend id) s s.dev) ∧
    (s.dev.copyBehind c = true → Makes (.messageSend id) s s.dev) ∧
    (s.dev.copyBehind c = false → ((s.dev.row.msgs.takeWhile fun x => x.id != id).any fun x => x.dst == m.dst && x.mailbox == m.mailbox) = false →
      s.dev.row.reqs.countP (·.sent) + s.dev.row.msgs.countP (·.sent) < 4096 →
      let routed := s.dev.flag FB_CTRL_enable = true ∧ s.dev.fld FB_STATUS_state ≠ 3 ∧ s.dev.inMap m.dst = true ∧ s.dev.absent m.dst = false
      let fails (e : Nat) := Makes (.messageSend id) s ((s.dev.dropMsg m.id).failCopy m.copy 0 e)
      (¬ routed → fails 0x0702) ∧ (routed → s.dev.fenced m.dst = true → fails 0x0701) ∧
      (routed → s.dev.fenced m.dst = false → s.dev.routable s.dev.version 2 m.dst = false → fails 0x0702) ∧
      (routed → s.dev.fenced m.dst = false → s.dev.routable s.dev.version 2 m.dst = true → s.dev.present c.message.1 c.message.2 = false →
        fails 0x0201) ∧
      (routed → s.dev.fenced m.dst = false → s.dev.present c.message.1 c.message.2 = true → s.dev.routable s.dev.version 2 m.dst = true →
        let a := c.message.1
        let n := c.message.2
        let t := s.dev.scrub a n
        let part (i : Nat) : List Byte := (t.bytesAt a n).drop (256 * i) |>.take 256
        Does (.messageSend id) s fun d =>
          waitingCells d = waitingCells s.dev ++ (List.range ((n + 255) / 256)).map (fun i => s.dev.newCell 2
            (msgDataOp m.mailbox i ((n + 255) / 256 - 1) ((wordsOf (a + 256 * i) (min 256 (n - 256 * i))).any t.poisonAt)) t.freshSeq m.dst (part i)
            (part i).length 0) ∧
          (∀ x ∈ d.row.msgs, x.id = id → x.sent = true ∧ x.seq = t.freshSeq ∧ x.data = t.bytesAt a n) ∧ d.ram = t.ram))

/-- A message whose cells are all in enters its mailbox while it is enabled, present and has room: prod rises by the entry's size, the message is counted,
its tally rises, the buffers are freed and the sender is told; a mailbox that is disabled or absent refuses it with OUT_OF_REGION, a full one with QUEUE_FULL,
as does serve 0 with OUT_OF_REGION.  An earlier cell is kept with its buffer (R276, R331, R333). -/
def messagesAreReceived : Prop :=
  ∀ (rx : Nat) (s : State) (r : RxCell), s.dev.rxCell rx = some r → r.cell.cls = 2 → bitsOf r.cell.op 31 28 = 0 → r.lane < 30 →
    (∀ a ∈ s.dev.row.asm, ¬ (a.src = r.cell.src ∧ a.mailbox = bitsOf r.cell.op 27 18 ∧ a.seq = r.cell.seq)) →
    let mb := bitsOf r.cell.op 27 18
    let last := bitsOf r.cell.op 9 2
    let i := bitsOf r.cell.op 17 10
    let data := sliceB r.cell.payload 0 r.cell.len
    let size := 2 ^ s.dev.fld (HF_MBOX_CTRL_log2_size mb)
    let entry := 64 + 64 * ((data.length + 63) / 64)
    let used := (s.dev.fld (HF_MBOX_PROD_prod mb) + 2 ^ 64 - s.dev.fld (HF_MBOX_CONS_cons mb)) % 2 ^ 64
    let back (op : Nat) : Cell := s.dev.newCell 2 op r.cell.seq r.cell.src [] 0 0
    let refused (reason : Nat) := Does (.messageData rx) s fun d => waitingCells d = waitingCells s.dev ++ [back (msgRefuseOp mb reason)] ∧
      d.ram = s.dev.ram ∧ d.fld (HF_MBOX_PROD_prod mb) = s.dev.fld (HF_MBOX_PROD_prod mb) ∧ d.row.asm = s.dev.row.asm.filter (fun x => x.id != s.dev.nextId) ∧
      d.fld (HF_MBOX_CNT_refused mb) = min (s.dev.fld (HF_MBOX_CNT_refused mb) + 1) (2 ^ 32 - 1)
    let there : Bool := s.dev.flag (HF_MBOX_CTRL_enable mb) && s.dev.present (s.dev.fld (HF_MBOX_CTRL_base mb) * 65536) size
    (0 < last → i ≤ last → Does (.messageData rx) s fun d => ∃ a, d.row.asm = (s.dev.row.asm.filter (fun x => x.id != s.dev.nextId)) ++ [a] ∧
      a.src = r.cell.src ∧ a.mailbox = mb ∧ a.seq = r.cell.seq ∧ a.last = last ∧ a.first = r.frame ∧ a.limit = s.dev.fld HF_ROW_TIMEOUT_msg ∧
      a.parts = [(i, data, bitAt r.cell.op 1)] ∧ d.net.freed = s.dev.net.freed ∧ waitingCells d = waitingCells s.dev ∧ d.ram = s.dev.ram) ∧
    (last = 0 → i = 0 → s.dev.ringHeld mb = false →
      (s.dev.flag HF_ROW_CTRL_serve = false → refused 0x0502) ∧
      (s.dev.flag HF_ROW_CTRL_serve = true → there = false → refused 0x0502) ∧
      (s.dev.flag HF_ROW_CTRL_serve = true → there = true → size < used + entry → refused 0x0302) ∧
      (s.dev.flag HF_ROW_CTRL_serve = true → there = true → used + entry ≤ size →
        Does (.messageData rx) s fun d => waitingCells d = waitingCells s.dev ++ [back (msgAcceptOp mb)] ∧
          d.fld (HF_MBOX_PROD_prod mb) = (s.dev.fld (HF_MBOX_PROD_prod mb) + entry) % 2 ^ 64 ∧
          d.fld (HF_MBOX_CNT_accepted mb) = min (s.dev.fld (HF_MBOX_CNT_accepted mb) + 1) (2 ^ 32 - 1) ∧
          (s.dev.flag (HF_MBOX_TALLY_tally_en mb) = true → let t := s.dev.fld (HF_MBOX_TALLY_tally mb)
            d.fld (HF_TALLY_count t) = (s.dev.fld (HF_TALLY_count t) + 1) % 2 ^ 32) ∧
          cntGet d.net.freed (bufKey r.port r.cell.hopSrc false) = cntGet s.dev.net.freed (bufKey r.port r.cell.hopSrc false) + 1))

/-- Acceptance ends a message; refusal, and the timeout of a launched one, fail its copy with their reasons (R331, R334). -/
def messagesEnd : Prop :=
  (∀ (rx t : Nat) (c : Instr) (s : State) (r : RxCell), (c, t) ∈ [(.messageAccepted rx, 8), (.messageRefused rx, 0xF)] →
    s.dev.rxCell rx = some r → r.cell.cls = 2 → bitsOf r.cell.op 31 28 = t →
    ∀ m, s.dev.msgFor r.cell = some m →
      (t = 8 → Makes c s ((s.dev.dropRx r).dropMsg m.id)) ∧
      (t = 0xF → bitsOf r.cell.op 17 2 ≠ 0 → Makes c s (((s.dev.dropRx r).dropMsg m.id).failCopy m.copy 0 (bitsOf r.cell.op 17 2)))) ∧
  (∀ (id : Nat) (s : State) (m : Msg), s.dev.row.msgs.find? (fun x => x.id == id) = some m →
    (m.launched ≠ none → m.deadline ≤ s.dev.frame → Does (.messageTimeout id) s fun d =>
      d.fld HF_ROW_CNT_timeouts = min (s.dev.fld HF_ROW_CNT_timeouts + 1) (2 ^ 16 - 1) ∧ (∀ x ∈ d.row.msgs, x.id ≠ id) ∧
      ∀ c, s.dev.findCopy m.copy = some c → d.findCopy m.copy = some { c with fails := c.fails ++ [(0, 0x0601)] }) ∧
    (m.launched = none ∨ s.dev.frame < m.deadline → Makes (.messageTimeout id) s s.dev))

/-- The next narrow access of a stack starts once the bucket holds its tokens, and takes them, and the other users of that stack come before its unit's next;
before that it is counted, once, as having waited; an atomic's access that starts lets the atomic run (R203 to R205). -/
def narrowAccessesTakeTokens : Prop :=
  ∀ (n : Nat) (s : State) (x : Narrow), n < 16 → s.dev.row.narrow.find? (fun y => y.stack == n) = some x →
    (x.cost * 6400 ≤ s.dev.tokens n → Does (.narrowAccessStart n) s fun d => d.tokens n = s.dev.tokens n - x.cost * 6400 ∧
      d.fld (MC_NARROW_STAT_granted n) = (s.dev.fld (MC_NARROW_STAT_granted n) + 1) % 2 ^ 32 ∧ ((∀ id, x.user ≠ .atomic id) → regsBut [MC_NARROW_STAT n] s.dev d ∧ d.ram = s.dev.ram) ∧
      d.row.narrow.length + (if x.left ≤ 1 then 1 else 0) = s.dev.row.narrow.length ∧
      (∀ (i : Nat) (y : Narrow), d.row.narrow[i]? = some y → y.stack = n → s.dev.narrowUnit y.user = s.dev.narrowUnit x.user →
        ∀ (j : Nat) (z : Narrow), d.row.narrow[j]? = some z → i < j → z.stack = n ∧ s.dev.narrowUnit z.user = s.dev.narrowUnit x.user) ∧
      ∀ id, x.user = .atomic id → ∀ j ∈ d.row.atoms, j.id = id → j.granted = true) ∧
    (s.dev.tokens n < x.cost * 6400 → Does (.narrowAccessStart n) s fun d => d.row.atoms = s.dev.row.atoms ∧ d.tokens n = s.dev.tokens n ∧
      d.row.narrow.length = s.dev.row.narrow.length ∧
      d.fld (MC_NARROW_STAT_waited n) = if x.waited then s.dev.fld (MC_NARROW_STAT_waited n) else (s.dev.fld (MC_NARROW_STAT_waited n) + 1) % 2 ^ 32)

/-- Row requests are sent, served and answered.
Completes here: sld, rowRequestSend, rowReadRequest, rowWriteRequest, readData, writeAck, atomicReply, rowRefusal, rowRequestTimeout. -/
def Obligations.RowRequestsAreSentServedAndAnswered : Prop :=
  requestsAreSent ∧ requestsAreServed ∧ answersEndRequests ∧ answersEndLoads

/-- Atomics run one at a time on a granule.
Completes here: narrowAccessStart, rowAtomicRequest, atomicExecute. -/
def Obligations.AtomicsRunInTheAtomicUnit : Prop := atomicsReachTheUnit ∧ atomicsExecute ∧ narrowAccessesTakeTokens

/-- Messages travel into mailboxes.
Completes here: messageSend, messageData, messageAccepted, messageRefused, messageTimeout. -/
def Obligations.MessagesReachMailboxesOrFail : Prop := messagesAreSent ∧ messagesAreReceived ∧ messagesEnd

/-! ### Collectives (chapter 10) -/

/-- CE_SUBMIT of a record at a present address holds it when every check passes and otherwise refuses it: CE_SUBMIT_STAT takes the reason and the tag, and a
named tally rises with its error flag.  A record in memory that is being initialised waits for its end.  COLL_START reads its record through the narrow path,
submits alike and is answered with the reason at once when it is refused (R150, R203, R208, R344, R345). -/
def recordsAreSubmitted : Prop :=
  (∀ (v : Word64) (s : State), s.dev.ready = true → s.dev.cp.d3hot = false → s.dev.inBatch CE_SUBMIT = false →
    let a := wget v 47 6 * 64
    let t := s.dev.scrub a 128
    let c := collOf (t.bytesAt a 128) t.nextId none
    let r := t.checkRecord c
    let stat (d : Dev) (reason tag : Nat) : Dev := d.setReg CE_SUBMIT_STAT (BitVec.ofNat 64 (reason * 2 ^ 48 + tag))
    (s.dev.held a 128 = true → Makes (.ceSubmit v) s { s.dev with coll := { s.dev.coll with submits := s.dev.coll.submits ++ [a] } }) ∧
    (s.dev.held a 128 = false →
      (s.dev.present a 128 = false → Makes (.ceSubmit v) s (stat s.dev 0x0201 0)) ∧
      (s.dev.present a 128 = true → t.poisoned a 128 = true → Makes (.ceSubmit v) s (stat t 0x0B01 0)) ∧
      (s.dev.present a 128 = true → t.poisoned a 128 = false →
        (r = 0 → Does (.ceSubmit v) s fun d => d.coll.held = s.dev.coll.held ++ [c] ∧ regsBut [CE_STATUS] t d ∧ d.ram = t.ram ∧
          d.fld CE_STATUS_held = (s.dev.coll.held.length + 1) % 2 ^ 7) ∧
        (r ≠ 0 → c.tally = none → Makes (.ceSubmit v) s (stat t r c.tag)) ∧
        (∀ x, r ≠ 0 → r < 65536 → c.tally = some x → Does (.ceSubmit v) s fun d => d.coll = s.dev.coll ∧
          d.fld CE_SUBMIT_STAT_reason = r ∧ d.fld CE_SUBMIT_STAT_tag = c.tag ∧ d.fld (HF_TALLY_error x) = 1 ∧
          d.fld (HF_TALLY_count x) = (t.fld (HF_TALLY_count x) + 1) % 2 ^ 32)))) ∧
  (∀ (id : Nat) (s : State) (c : Cmd), begun s.dev id 0x0500 c → c.id = id →
    let a := c.p 0
    let n := narrowAsked s.dev c (if a % 64 = 0 ∧ s.dev.present a 128 = true then [(a, 128)] else [])
    let t := n.scrub a 128
    let x := collOf (t.bytesAt a 128) t.nextId (some id)
    let r := if a % 64 ≠ 0 then 0x0103 else t.checkRecord x
    (s.dev.held a 128 = true → Makes (.collStart id) s s.dev) ∧
    (s.dev.held a 128 = false → n.narrowBusy (.command id) = true → Makes (.collStart id) s n) ∧
    (s.dev.held a 128 = false → n.narrowBusy (.command id) = false →
      (s.dev.present a 128 = false → Makes (.collStart id) s ((n.setReg CE_SUBMIT_STAT (BitVec.ofNat 64 (0x0201 * 2 ^ 48))).complete c 0x0201)) ∧
      (s.dev.present a 128 = true → t.poisoned a 128 = false →
        (r = 0 → Does (.collStart id) s fun d => d.coll.held = s.dev.coll.held ++ [x] ∧
          d.cp.cmds = t.cp.cmds.map fun y => if y.id = id then { y with phase := .running, aux := [] } else y) ∧
        (r ≠ 0 → x.tally = none → Makes (.collStart id) s
          ((t.setReg CE_SUBMIT_STAT (BitVec.ofNat 64 (r * 2 ^ 48 + x.tag))).complete c r)) ∧
        (∀ w, r ≠ 0 → x.tally = some w → Makes (.collStart id) s
          ((((t.setReg CE_SUBMIT_STAT (BitVec.ofNat 64 (r * 2 ^ 48 + x.tag))).setFld (HF_TALLY_error w) 1).bumpTally w 1).complete c r)))))

/-- The checks of a record in their order: reserved values, the group and the row of Table 10-2, DIRECT's box, the units it needs, its counts, another of its group
with its start or tag, fenced members, members without a route, the 64 places, and the engine's enable (R344). -/
def recordsAreCheckedInOrder : Prop := ∀ (d : Dev) (c : Coll),
  let box := d.boxOf c.group
  let units := (c.kind = 7 ∨ c.kind = 8) → d.flag CE_STATUS_apply_present = true
  let twin := ∃ x ∈ d.coll.held, x.group = c.group ∧ (x.start = c.start ∨ x.tag = c.tag)
  ((c.kind = 0 ∨ 8 < c.kind ∨ 4096 ≤ c.group ∨ 3 < c.alg ∨ 2 < c.wire ∨ 2 < c.op) → d.checkRecord c = 0x0103) ∧
  (d.recordClean c = true → (d.flag (CE_GROUP_BOX_valid c.group) = false ∨ c.rowOk = false ∨ d.directOk c = false) → d.checkRecord c = 0x0202) ∧
  (d.recordClean c = true → d.flag (CE_GROUP_BOX_valid c.group) = true → c.rowOk = true → d.directOk c = true →
    (¬ units → d.checkRecord c = 0x0401) ∧
    (units →
      ((c.start < d.frame + 64 ∨ d.frame + 2 ^ 28 < c.start ∨ c.deadline < 64 ∨ 2 ^ 24 < c.deadline ∨ (c.kind ≠ 6 ∧ (c.count = 0 ∨ 2 ^ 38 < c.count)) ∨
          (c.kind = 4 ∧ boxSize box ≤ c.root)) →
        d.checkRecord c = 0x0201) ∧
      (d.countsOk c = true → twin → d.checkRecord c = 0x0202) ∧
      (d.countsOk c = true → ¬ twin → d.rollbackLate c = false →
        ((∃ f ∈ members box, d.fenced f = true) → d.checkRecord c = 0x0701) ∧
        ((∀ f ∈ members box, d.fenced f = false) → (∃ f ∈ members box, d.absent f = true ∨ d.inMap f = false) → d.checkRecord c = 0x0702) ∧
        ((∀ f ∈ members box, d.fenced f = false ∧ d.absent f = false ∧ d.inMap f = true) →
          d.checkRecord c = if 64 ≤ d.coll.held.length then 0x0302 else if d.flag CE_CTRL_enable = true then 0 else 0x0202))))

/-- A bell record for a device has a way: an axis partner, or one that the routing tables reach (R352). -/
def reaches (d : Dev) (f : Nat) : Prop := d.pathsTo f ≠ [] ∨ d.nextHop d.version 4 f ≠ none

/-- Command c ends the collective that an abort record names: it is held no more and counted as failed, and the record's reason, origin, group and tag
stand in CE_ABORT with the frame; the first copy for a group and tag goes to every group partner and is kept for its repetitions, a later one is not
(R352, R373, R377). -/
def aborts (c : Instr) (s : State) (payload : List Byte) : Prop :=
  let g := leAt payload 0 2
  let tag := leAt payload 4 4
  let seen := ∃ a ∈ s.dev.coll.aborts, a.group = g ∧ a.tag = tag
  (∀ x, s.dev.collNamed g tag = some x → x.completed = false → g < 4096 → leAt payload 16 2 ≠ 0 → Does c s fun d =>
    (∀ y ∈ d.coll.held, y.id ≠ x.id) ∧ (g, tag) ∈ d.coll.ended ∧
    d.fld (CE_GROUP_CNT_failed g) = min (s.dev.fld (CE_GROUP_CNT_failed g) + 1) (2 ^ 32 - 1) ∧ d.fld CE_ABORT_LAST_reason = leAt payload 16 2 ∧
    d.fld CE_ABORT_LAST_origin = leAt payload 20 4 % 2 ^ 20 ∧ d.fld CE_ABORT_LAST_group = g ∧ d.fld CE_ABORT_TAG_tag = tag ∧
    d.fld CE_ABORT_FRAME_frame = s.dev.frame ∧ ∃ e ∈ d.faults, e.src = 0x0A ∧ e.level = 0) ∧
  (¬ seen → Does c s fun d => d.coll.aborts = (⟨s.dev.nextId, g, tag, payload, s.dev.frame, s.dev.frame + 64⟩ :: s.dev.coll.aborts).take 256 ∧
    ∀ f ∈ s.dev.groupPartners g, reaches s.dev f → ∃ b ∈ d.net.bells, b.kind = 0x20 ∧ b.payload = padTo 256 payload) ∧
  (seen → Does c s fun d => d.coll.aborts = s.dev.coll.aborts)

/-- Aborts come from a deadline that passes before the data phase has ended, from COLL_CANCEL, and from COLL_ABORT records; each is repeated every 64 frames for
1,024 frames.  Clearing CE_CTRL.enable aborts every held collective (R372, R373, R376, Table 10-10). -/
def collectivesAreAborted : Prop :=
  (∀ (rx : Nat) (s : State) (r : RxCell), received s.dev rx r 0x20 → aborts (.collAbort rx) s r.cell.payload) ∧
  (∀ (id : Nat) (s : State) (c : Coll), s.dev.findColl id = some c →
    (c.dataDone = false → c.start + c.deadline ≤ s.dev.frame →
      aborts (.collDeadline id) s (abortBytes c.group c.tag c.start 0x0602 s.dev.fid s.dev.frame)) ∧
    ((c.dataDone = true ∨ s.dev.frame < c.start + c.deadline) → Makes (.collDeadline id) s s.dev)) ∧
  (∀ (id : Nat) (s : State) (c : Cmd), begun s.dev id 0x0501 c →
    let g := c.p 0 % 4096
    let tag := c.p 1 % 2 ^ 32
    (∀ x, s.dev.collNamed g tag = some x → aborts (.collCancel id) s (abortBytes g tag x.start 0x0802 s.dev.fid s.dev.frame) ∧
      Makes (.collCancel id) s ((s.dev.abortColl g tag x.start 0x0802).complete c 0 1)) ∧
    (s.dev.collNamed g tag = none → Makes (.collCancel id) s ((s.dev.abortColl g tag 0 0x0802).complete c 0 0))) ∧
  (∀ (id : Nat) (s : State) (a : CollAbort), s.dev.coll.aborts.find? (fun x => x.id == id) = some a →
    (a.next ≤ s.dev.frame → s.dev.frame ≤ a.since + 1024 → Does (.collAbortRepeat id) s fun d =>
      d.coll.aborts = (s.dev.coll.aborts.map fun x => if x.id == id then { x with next := a.next + 64 } else x) ∧ d.regs = s.dev.regs ∧
      ∀ f ∈ s.dev.groupPartners a.group, reaches s.dev f → ∃ b ∈ d.net.bells, b.kind = 0x20 ∧ b.payload = padTo 256 a.payload) ∧
    ((s.dev.frame < a.next ∨ a.since + 1024 < s.dev.frame) → Makes (.collAbortRepeat id) s s.dev)) ∧
  (∀ (v : Word64) (s : State), s.dev.ready = true → s.dev.cp.d3hot = false → s.dev.inBatch CE_CTRL = false →
    (bitAt v.toNat 0 = true → Makes (.ceCtrlEnable v) s (s.dev.setFld CE_CTRL_enable 1)) ∧
    (bitAt v.toNat 0 = false → s.dev.flag CE_CTRL_enable = true → Does (.ceCtrlEnable v) s fun d => d.coll.held = [] ∧ d.fld CE_CTRL_enable = 0) ∧
    (bitAt v.toNat 0 = false → s.dev.flag CE_CTRL_enable = false → Makes (.ceCtrlEnable v) s (s.dev.setFld CE_CTRL_enable 0)))

/-- The write of a group's box is refused while a collective of the group is held, while the engine runs, and where it would move the box of a descriptor that is
valid; otherwise the box stands as written, and valid clears, with a reason, unless every lo is at most its hi, the box holds this device and another, and the Map
covers it (R24, R340, R341). -/
def groupsAreDescribed : Prop :=
  ∀ (g : Nat) (v : Word64) (s : State), g < 4096 → s.dev.ready = true → s.dev.cp.d3hot = false → s.dev.inBatch (CE_GROUP_BOX g) = false →
    let b := [(wget v 27 24, wget v 31 28), (wget v 35 32, wget v 39 36), (wget v 43 40, wget v 47 44), (wget v 51 48, wget v 55 52)]
    let good := (∀ x ∈ b, x.1 ≤ x.2) ∧ 2 ≤ boxSize b ∧ inBox b s.dev.fid = true ∧ ∃ m, s.dev.fab.map = some m ∧ wget v 31 28 < m.ex ∧ wget v 39 36 < m.ey ∧
      wget v 47 44 < m.ez ∧ wget v 55 52 < m.sheets ∧ (m.twoD = true → wget v 43 40 = 0 ∧ wget v 47 44 = 0) ∧ (m.atlas = false → wget v 51 48 = wget v 55 52)
    let old := s.dev.reg (CE_GROUP_BOX g)
    let moves := wget v 55 24 ≠ wget old 55 24
    let busy := (∃ c ∈ s.dev.coll.held, c.group = g) ∨ (wget old 63 63 = 1 ∧ moves) ∨
      (s.dev.flag CE_CTRL_enable = true ∧ (moves ∨ wget v 63 63 ≠ wget old 63 63))
    (busy → Does (.ceGroupValid g v) s fun d => d.fld CE_STATUS_reason = 0x0301 ∧ regsBut [CE_STATUS] s.dev d ∧
      onlyRegs s.dev d) ∧
    (¬ busy → Does (.ceGroupValid g v) s fun d => d.boxOf g = b ∧ d.coll = s.dev.coll ∧
      regsBut [CE_GROUP_BOX g, CE_STATUS] s.dev d ∧
      (good → d.fld (CE_GROUP_BOX_valid g) = wget v 63 63 ∧ d.reg CE_STATUS = s.dev.reg CE_STATUS) ∧
      (¬ good → d.fld (CE_GROUP_BOX_valid g) = 0 ∧ (wget v 63 63 = 1 → d.fld CE_STATUS_reason = 0x0201)))

/-- A cell of class 3 waits with the collective it names; it aborts one whose start frame differs, and one that names no held collective is discarded when that
collective has ended here, and is aborted otherwise (R351). -/
def collectiveCellsAreMatched : Prop :=
  ∀ (rx : Nat) (s : State) (r : RxCell), s.dev.rxCell rx = some r → r.cell.cls = 3 →
    let g := bitsOf r.cell.op 27 16
    let f := bitsOf r.cell.op 9 0
    let tag := bitsOf r.cell.acct 63 32
    (∀ x, s.dev.collNamed g tag = some x → s.dev.findColl x.id = some x →
      (x.start % 1024 = f → Does (.collectiveCell rx) s fun d => d.findColl x.id = some { x with cells := x.cells ++ [r] } ∧ d.rxCell rx = none ∧
        d.net.freed = s.dev.net.freed ∧ d.regs = s.dev.regs ∧ d.ram = s.dev.ram) ∧
      (x.start % 1024 ≠ f → aborts (.collectiveCell rx) s (abortBytes g tag x.start 0x0801 s.dev.fid s.dev.frame))) ∧
    (s.dev.collNamed g tag = none →
      ((g, tag) ∈ s.dev.coll.ended → Does (.collectiveCell rx) s fun d => d.fld CE_SAT_late = min (s.dev.fld CE_SAT_late + 1) (2 ^ 16 - 1) ∧
        regsBut [CE_SAT] s.dev d ∧ d.coll = s.dev.coll ∧ d.ram = s.dev.ram) ∧
      ((g, tag) ∉ s.dev.coll.ended → aborts (.collectiveCell rx) s (abortBytes g tag f 0x0801 s.dev.fid s.dev.frame)))

/-- A collective begins at its start frame once every earlier one of its group is gone, and not before.  Its data phase opens once its scale table has come
through the narrow path and no memory that it needs is being initialised.  An absent range aborts it, and poison that it reads ends it.  A barrier without a
seal completes at once, counted and with its tally; with a seal, it sends COLL_DONE of stage 0 to its partners on the first axis (R150, R203, R208, R346, R353,
R374, R375, R378). -/
def collectivesBegin : Prop :=
  ∀ (id : Nat) (s : State) (c : Coll), s.dev.findColl id = some c → c.id = id →
    let ranges := (s.dev.view c).ranges
    let mayOpen := c.opened = false ∧ (c.begun ≠ none ∨ s.dev.mayBegin c = true)
    (c.opened = true → Makes (.collBegin id) s s.dev) ∧
    (c.begun = none → (s.dev.flag CE_CTRL_enable = false ∨ s.dev.frame < c.start ∨
        (∃ x ∈ s.dev.coll.held, x.id ≠ id ∧ x.group = c.group ∧ (x.begun ≠ none ∨ x.start < c.start))) → Makes (.collBegin id) s s.dev) ∧
    (mayOpen → (∃ r ∈ ranges, s.dev.present r.1 r.2 = false) →
      aborts (.collBegin id) s (abortBytes c.group c.tag c.start 0x0201 s.dev.fid s.dev.frame)) ∧
    ((∀ r ∈ ranges, s.dev.present r.1 r.2 = true) →
      (c.opened = false → s.dev.mayBegin c = true → (∃ r ∈ ranges, s.dev.held r.1 r.2 = true) → Does (.collBegin id) s fun d =>
        (∃ x, d.findColl id = some x ∧ x.begun = some s.dev.frame ∧ x.opened = false ∧ x.seed = s.dev.reg CE_SR_SEED) ∧
        regsBut [CE_STATUS] s.dev d ∧ d.ram = s.dev.ram) ∧
      (c.opened = false → c.begun ≠ none → ((∃ r ∈ ranges, s.dev.held r.1 r.2 = true) ∨ s.dev.narrowBusy (.tables id) = true) →
        Makes (.collBegin id) s s.dev) ∧
      (c.opened = false → c.begun ≠ none → (∀ r ∈ ranges, s.dev.held r.1 r.2 = false) → s.dev.narrowBusy (.tables id) = false →
        let reads := s.dev.collReads (s.dev.view c)
        let t := (reads ++ (s.dev.view c).scales).foldl (fun d r => d.scrub r.1 r.2) s.dev
        s.dev.collNamed c.group c.tag = some c → (∃ r ∈ reads, t.poisoned r.1 r.2 = true) → Does (.collBegin id) s fun d =>
          ∀ y ∈ d.coll.held, y.id ≠ id)) ∧
    (c.opened = false → s.dev.mayBegin c = true → c.kind = 6 → c.group < 4096 → c.dataDone = false → c.completed = false →
      (∀ t, c.seal = false → c.tally = some t → Does (.collBegin id) s fun d => (∀ y ∈ d.coll.held, y.id ≠ id) ∧
        d.fld (CE_GROUP_CNT_completed c.group) = min (s.dev.fld (CE_GROUP_CNT_completed c.group) + 1) (2 ^ 32 - 1) ∧
        d.fld (HF_TALLY_count t) = (s.dev.fld (HF_TALLY_count t) + 1) % 2 ^ 32 ∧ d.fld (HF_TALLY_error t) = s.dev.fld (HF_TALLY_error t) ∧
        d.ram = s.dev.ram) ∧
      (∀ a rest, c.seal = true → c.heard = [] → c.sentDone = 0 → boxAxes (s.dev.boxOf c.group) = a :: rest → Does (.collBegin id) s fun d =>
        (∃ x, d.findColl id = some x ∧ x.begun = some s.dev.frame ∧ x.dataDone = true ∧ x.completed = false ∧ x.sentDone = 1) ∧ d.ram = s.dev.ram ∧
        ∀ f ∈ axisPartners (s.dev.boxOf c.group) s.dev.fid a, reaches s.dev f → ∃ b ∈ d.net.bells, b.kind = 0x21 ∧
          leAt b.payload 0 2 = c.group ∧ leAt b.payload 2 1 = 0 ∧ leAt b.payload 4 4 = c.tag ∧ leAt b.payload 8 8 = c.start))

/-- The engine leaves a cell of a collective whose data phase has not opened, or whose memory is being initialised, or whose chunk has no room in accumulation
memory; an absent range aborts the collective.  It discards a cell that has no place in the collective, adds a contribution to the running sum of its chunk
while others are missing, and writes a block of an all-gather that is whole at the place of its rank (R208, R337, R339, R342, R343, R348, R353). -/
def collectiveCellsAreTaken : Prop :=
  ∀ (rx : Nat) (s : State) (c : Coll) (r : RxCell), s.dev.coll.held.find? (fun x => x.cells.any (·.id == rx)) = some c →
    s.dev.findColl c.id = some c → c.cells.find? (fun x => x.id == rx) = some r →
    let v := s.dev.view c
    let data := r.cell.payload.take r.cell.len
    let p := r.cell.collPart
    let si := r.cell.collStage
    (c.opened = false → Makes (.collCellAccept rx) s s.dev) ∧
    (c.opened = true → (∃ r ∈ v.ranges, s.dev.present r.1 r.2 = false) →
      aborts (.collCellAccept rx) s (abortBytes c.group c.tag c.start 0x0201 s.dev.fid s.dev.frame)) ∧
    (c.opened = true → (∀ r ∈ v.ranges, s.dev.present r.1 r.2 = true) →
      ((∃ r ∈ v.ranges, s.dev.held r.1 r.2 = true) → Makes (.collCellAccept rx) s s.dev) ∧
      ((∀ r ∈ v.ranges, s.dev.held r.1 r.2 = false) →
        (v.placeOf r.cell = none → Does (.collCellAccept rx) s fun d =>
          d.findColl c.id = some { c with cells := c.cells.filter fun x => x.id != rx } ∧ d.regs = s.dev.regs ∧ d.ram = s.dev.ram) ∧
        (∀ st q pos, v.placeOf r.cell = some (st, q, pos) →
          (s.dev.roomFor v p st si q = false → Makes (.collCellAccept rx) s s.dev) ∧
          (s.dev.roomFor v p st si q = true →
            (let old := c.slot p si q
             (st.mode = .reduce ∨ st.mode = .whole) → r.cell.collType ≠ 2 → old.own = none → Does (.collCellAccept rx) s fun d =>
              d.ram = s.dev.ram ∧ d.regs = s.dev.regs ∧ ∃ x y, d.findColl c.id = some x ∧ y ∈ x.slots ∧ y.item = q ∧ y.stage = si ∧
                y.cells = old.cells ++ [⟨r.cell.src, false, pos, data, r.cell.collAcct⟩] ∧
                y.sum = c.addAt old.sum (pos * (2048 / c.wireFmt.bits)) (v.cellValues p q si data)) ∧
            (∀ e, c.kind = 3 → c.fmt.bits = 8 * e → 0 < c.count → c.count * e ≤ 256 → data.length = c.count * e → r.cell.collType ≠ 2 →
              (v.stages 0).length = si + 1 → p = 0 → (c.slot 0 si q).cells = [] → 2 ≤ c.toWrite →
              c.completed = false → Does (.collCellAccept rx) s fun d =>
                d.ram = (s.dev.writeClean (c.dst + q * c.count * e) data).ram ∧ ∃ x, d.findColl c.id = some x ∧ x.toWrite = c.toWrite - 1)))))

/-- A COLL_DONE record is kept, once for each member and stage, with the larger lag; the last one that the last stage waits for seals the collective, which is counted as completed
and enters the lag history.  Its own records go out again every 16 frames until 1,024 frames after the seal (R374, R378, R379). -/
def collectivesAreSealed : Prop :=
  (∀ (rx : Nat) (s : State) (r : RxCell) (c : Coll), received s.dev rx r 0x21 →
    let pl := r.cell.payload
    let stage := leAt pl 2 1
    let axes := boxAxes (s.dev.boxOf c.group)
    let repeated := ∃ h ∈ c.heard, h.1 = stage ∧ h.2.1 = r.cell.src
    s.dev.collNamed (leAt pl 0 2) (leAt pl 4 4) = some c → s.dev.findColl c.id = some c →
    ((c.start ≠ leAt pl 8 8 ∨ repeated) → Makes (.collDone rx) s (s.dev.takeRx r)) ∧
    (c.start = leAt pl 8 8 → ¬ repeated → c.dataDone = false → Does (.collDone rx) s fun d => d.regs = s.dev.regs ∧ ∃ x, d.findColl c.id = some x ∧
      x.heard = c.heard ++ [(stage, r.cell.src, leAt pl 16 2)] ∧ x.slowLag = max c.slowLag (leAt pl 18 2)) ∧
    (c.start = leAt pl 8 8 → ¬ repeated → c.dataDone = true → c.completed = false → c.toSum = 0 → c.group < 4096 → c.sentDone = axes.length →
      (∀ a, axes.getLast? = some a → ∀ f ∈ axisPartners (s.dev.boxOf c.group) s.dev.fid a,
        (stage + 1 = axes.length ∧ f = r.cell.src) ∨ ∃ h ∈ c.heard, h.1 + 1 = axes.length ∧ h.2.1 = f) →
      Does (.collDone rx) s fun d => (∀ y ∈ d.coll.held, y.id ≠ c.id) ∧
        d.fld (CE_GROUP_CNT_completed c.group) = min (s.dev.fld (CE_GROUP_CNT_completed c.group) + 1) (2 ^ 32 - 1) ∧
        d.fld CE_STATUS_hist_head = (s.dev.fld CE_STATUS_hist_head + 1) % 64 ∧ d.ram = s.dev.ram)) ∧
  (∀ (id : Nat) (s : State) (x : CollDones), s.dev.coll.dones.find? (fun y => y.coll == id) = some x →
    (∀ f, x.sealedAt = some f → f + 1024 < s.dev.frame → Makes (.collDoneRepeat id) s
      { s.dev with coll := { s.dev.coll with dones := s.dev.coll.dones.filter fun y => y.coll != id } }) ∧
    ((∀ f, x.sealedAt = some f → s.dev.frame ≤ f + 1024) → Does (.collDoneRepeat id) s fun d => d.regs = s.dev.regs ∧
      (∀ r ∈ x.recs, r.2.1 + 16 ≤ s.dev.frame → ∀ f ∈ axisPartners (s.dev.boxOf x.group) s.dev.fid r.1, reaches s.dev f →
        ∃ b ∈ d.net.bells, b.kind = 0x21 ∧ b.payload = padTo 256 r.2.2) ∧
      ∀ y ∈ d.coll.dones, y.coll = id → ∀ r ∈ y.recs, s.dev.frame < r.2.1 + 16))

/-- A member answers a request for digests with its pair, sent and received; the reply is compared both ways, each difference is an integrity event and a
fault, and a DIGEST_COMPARE that asked every partner ends with the number of differences when the last has answered (R381, R400). -/
def digestsAreCompared : Prop :=
  (∀ (rx : Nat) (s : State) (r : RxCell), received s.dev rx r 0x22 →
    let tag := leAt r.cell.payload 0 4
    let f := leAt r.cell.payload 4 4
    let x := s.dev.digestsFor tag f
    (reaches s.dev f → Does (.digestReq rx) s fun d => d.regs = s.dev.regs ∧ ∃ p y, d.net.bells = s.dev.net.bells ++ [⟨p, y, 0x23,
      padTo 256 (leBytes 4 tag ++ leBytes 4 s.dev.fid ++ leBytes 8 x.1.toNat ++ leBytes 8 x.2.toNat), some ⟨s.dev.fid, f, 0, 0⟩⟩]) ∧
    (¬ reaches s.dev f → Makes (.digestReq rx) s (s.dev.takeRx r))) ∧
  (∀ (rx : Nat) (s : State) (r : RxCell), received s.dev rx r 0x23 →
    let pl := r.cell.payload
    let tag := leAt pl 0 4
    let f := leAt pl 4 4
    let x := s.dev.digestsFor tag f
    let asked := s.dev.cp.cmds.filter fun c => c.opcode == 0x0502 && c.phase == .running && c.p 1 % 2 ^ 32 == tag
    (leAt pl 8 8 = x.2.toNat → leAt pl 16 8 = x.1.toNat →
      (asked = [] → Makes (.digestRep rx) s (s.dev.takeRx r)) ∧
      (∀ c n, asked = [c] → c.aux = [n, f] → Makes (.digestRep rx) s ((s.dev.takeRx r).complete c 0 n))) ∧
    (leAt pl 8 8 ≠ x.2.toNat → leAt pl 16 8 = x.1.toNat → asked = [] → Does (.digestRep rx) s fun d => regsBut [CE_INTEG, CE_INTEG_TAG] s.dev d ∧
      d.fld CE_INTEG_count = min (s.dev.fld CE_INTEG_count + 1) (2 ^ 16 - 1) ∧ d.fld CE_INTEG_source = 2 ∧ d.fld CE_INTEG_direction = 0 ∧
      d.fld CE_INTEG_partner = f % 2 ^ 20 ∧ d.fld CE_INTEG_TAG_tag = tag ∧
      d.faults = s.dev.faults ++ [⟨0x0A, 1, f % 2 ^ 20, tag + 0x0803 * 2 ^ 32⟩])) ∧
  (∀ (id : Nat) (s : State) (c : Cmd), begun s.dev id 0x0502 c → c.id = id →
    let partners := s.dev.groupPartners (c.p 0 % 4096)
    (s.dev.flag CE_STATUS_digest_present = false → Makes (.digestCompare id) s (s.dev.complete c 0x0401)) ∧
    (s.dev.flag CE_STATUS_digest_present = true → partners = [] → Makes (.digestCompare id) s (s.dev.complete c 0 0)) ∧
    (s.dev.flag CE_STATUS_digest_present = true → partners ≠ [] → Does (.digestCompare id) s fun d =>
      d.cp.cmds = (s.dev.cp.cmds.map fun y => if y.id = id then { y with phase := .running, aux := 0 :: partners } else y) ∧ d.regs = s.dev.regs ∧
      ∀ f ∈ partners, reaches s.dev f → ∃ b ∈ d.net.bells, b.kind = 0x22 ∧ leAt b.payload 0 4 = c.p 1 % 2 ^ 32))

/-- Collectives are submitted, checked and bound to groups.
Completes here: collStart, ceSubmit, ceGroupValid. -/
def Obligations.CollectivesAreSubmittedAndChecked : Prop := recordsAreSubmitted ∧ recordsAreCheckedInOrder ∧ groupsAreDescribed

/-- Collectives begin, take cells, and are sealed or aborted.
Completes here: collCancel, digestCompare, ceCtrlEnable, collBegin, collectiveCell, collCellAccept, collDeadline, collAbort, collAbortRepeat,
collDone, collDoneRepeat, digestReq, digestRep. -/
def Obligations.CollectivesRunToTheirSealOrAbort : Prop :=
  collectivesBegin ∧ collectiveCellsAreMatched ∧ collectiveCellsAreTaken ∧ collectivesAreSealed ∧ collectivesAreAborted ∧ digestsAreCompared

/-! ### Faults, margins and the Canary (chapter 12) -/

/-- FAULT_EVENT takes the oldest event, or, where none waits, lets the errors of the free value Config.strikes (log 156) strike guarded words and
takes the first that they raise: its source is pending at the higher of its previous level and the final level of R419, the events are
counted, a record of 32 bytes enters the log, and FT_STATUS shows the fault; while FT_CTRL.enable is clear no action is taken, and the stop action stops
every running core of the source's die, or every one.  A source that never raises leaves nothing behind.  An error in a word of a headframe memory is raised at
once, as corrected or as uncorrectable (R209, R417 to R421, R424, R425). -/
def eventsAreClassified : Prop :=
  (∀ s : State, s.dev.faults = [] → DoesLegend .faultEvent s fun d => (s.dev.struck.faults = [] → d = s.dev.struck) ∧
    ∀ es : List (Nat × Nat), s.dev.nextStrikes = [⟨.headframe, es⟩] →
      let a := veinDecode (strikeDiff es)
      ((a = .check ∨ ∃ x y, a = .data x y) →
        d.fld (FT_SRC_STAT_pending 0x71) = 1 ∧ d.fld (FT_SRC_STAT_events 0x71) = min (s.dev.fld (FT_SRC_STAT_events 0x71) + 1) (2 ^ 32 - 1)) ∧
      ((a = .bad ∨ a = .poisoned) →
        d.fld (FT_SRC_STAT_pending 0x70) = 1 ∧ 2 ≤ d.fld (FT_SRC_STAT_level 0x70) ∧
        d.fld (FT_SRC_STAT_events 0x70) = min (s.dev.fld (FT_SRC_STAT_events 0x70) + 1) (2 ^ 32 - 1))) ∧
  ∀ (s : State) (e : FaultEv) (t : List FaultEv),
    let was := s.dev.struck
    was.faults = e :: t →
    (was.srcFits e.src = false → DoesLegend .faultEvent s fun d => d = { was with faults := t }) ∧
    (was.srcFits e.src = true →
      let i := e.src
      let closed := ∃ f, smFind was.ft.opened i = some f ∧ f + was.fld (FT_SRC_CFG_window i) ≤ was.frame
      let thr := was.fld (FT_SRC_CFG_threshold i)
      let esc := ∃ j < 256, was.fld (FT_SRC_STAT_pending j) = 1 ∧ 1 ≤ was.fld (FT_SRC_STAT_level j) ∧
        was.fld (FT_SRC_CFG_class j) = was.fld (FT_SRC_CFG_class i)
      ∀ n hit up, n = min 4095 ((if closed then 0 else was.fld (FT_SRC_STAT_count i)) + 1) → (hit = 1 ↔ thr ≠ 0 ∧ thr ≤ n) → (up = 1 ↔ esc) →
        hit ≤ 1 → up ≤ 1 →
        let level := min 3 ((if hit = 1 then max e.level 2 else e.level) + up)
        DoesLegend .faultEvent s fun d =>
          d.fld (FT_SRC_STAT_pending i) = 1 ∧
          d.fld (FT_SRC_STAT_level i) = max (if was.fld (FT_SRC_STAT_pending i) = 1 then was.fld (FT_SRC_STAT_level i) else 0) level ∧
          d.fld (FT_SRC_STAT_count i) = (if hit = 1 then 0 else n) ∧
          d.fld (FT_SRC_STAT_events i) = min (was.fld (FT_SRC_STAT_events i) + 1) (2 ^ 32 - 1) ∧
          d.fld FT_STATUS_fault = 1 ∧ d.fld FT_STATUS_last = i ∧ level ≤ d.fld FT_STATUS_level ∧
          (∃ acts, d.ft.log = (if 1024 ≤ was.ft.log.length then was.ft.log.drop 1 else was.ft.log) ++
            [leBytes 8 was.frame ++ leBytes 1 i ++ leBytes 1 e.level ++ leBytes 1 level ++ leBytes 1 acts ++ leBytes 2 (if hit = 1 then 0 else n) ++
              leBytes 1 (hit + 2 * up) ++ [0] ++ leBytes 8 e.d0 ++ leBytes 8 e.d1]) ∧
          (was.fld FT_CTRL_enable = 0 → d.cores = was.cores ∧ d.drifts = was.drifts ∧ d.faults = t ∧ d.canary = was.canary ∧
            d.ram = was.ram ∧ d.row = was.row) ∧
          (was.fld FT_CTRL_enable = 1 →
            (bitAt (was.actMask i level) 1 = true → ∀ k ∈ srcCores i, was.coreState k = 1 → d.coreState k = 3) ∧
            (bitAt (was.actMask i level) 3 = true → was.selfFenced = false → d.fld FT_CANARY_STATUS_state = 3)))

/-- FT_CLEAR and FAULT_CLEAR remove pending and the level of a source that is not active and keep its count, and refuse an active one with FAULT_ACTIVE.
TELEMETRY_READ writes the margins of its set (R423, R443). -/
def faultsAreClearedAndRead : Prop :=
  (∀ (i : Nat) (s : State) (c : Instr), i < 256 →
    (c = .ftClearWrite (BitVec.ofNat 64 i) ∧ s.dev.ready = true ∧ s.dev.cp.d3hot = false ∧ s.dev.inBatch FT_CLEAR = false ∨
      ∃ id x, c = .faultClear id ∧ begun s.dev id 0x0600 x ∧ x.p 0 % 256 = i) →
    (s.dev.fld (FT_SRC_STAT_active i) = 1 → Does c s fun d => d.fld FT_STATUS_reason = 0x0C01 ∧ d.reg (FT_SRC_STAT i) = s.dev.reg (FT_SRC_STAT i)) ∧
    (s.dev.fld (FT_SRC_STAT_active i) = 0 → Does c s fun d => d.fld (FT_SRC_STAT_pending i) = 0 ∧ d.fld (FT_SRC_STAT_level i) = 0 ∧
      d.fld (FT_SRC_STAT_count i) = s.dev.fld (FT_SRC_STAT_count i) ∧ d.fld (FT_SRC_STAT_events i) = s.dev.fld (FT_SRC_STAT_events i) ∧
      ((∀ j < 256, j ≠ i → s.dev.fld (FT_SRC_STAT_pending j) = 0) → d.fld FT_STATUS_fault = 0 ∧ d.fld FT_STATUS_pending = 0) ∧
      ∀ j, j ≠ i → d.reg (FT_SRC_STAT j) = s.dev.reg (FT_SRC_STAT j))) ∧
  (∀ (id : Nat) (s : State) (c : Cmd), begun s.dev id 0x0602 c →
    let set := c.p 2 % 256
    let es := s.dev.marginEntries set
    (3 < set → Makes (.telemetryRead id) s (s.dev.complete c 0x0201)) ∧
    (set ≤ 3 → c.p 1 < 16 + 8 * es.length → Makes (.telemetryRead id) s (s.dev.complete c 0x0102)) ∧
    (set ≤ 3 → 16 + 8 * es.length ≤ c.p 1 → Does (.telemetryRead id) s fun d => completes s c 0 0 0 0 d ∧
      d.host = (s.dev.hostWrite (c.p 0) (leBytes 1 set ++ [0] ++ leBytes 2 es.length ++ zeros 4 ++ leBytes 8 s.dev.ft.sampledAt ++ es.flatten)).host))

/-- MARGIN_SAMPLE keeps, every 1,024 frames, the voltage margin of each die in service with the least since the last read, and raises die-voltage below the threshold; in other
frames, and twice in one, it changes nothing (R442). -/
def marginsAreSampled : Prop :=
  ∀ (v t : List Int) (s : State),
    ((s.dev.frame % 1024 ≠ 0 ∨ s.dev.ft.sampledAt = s.dev.frame) → Makes (.marginSample v t) s s.dev) ∧
    (s.dev.frame % 1024 = 0 → s.dev.ft.sampledAt ≠ s.dev.frame → v.length = 12 → t.length = 96 → Does (.marginSample v t) s fun d =>
      d.ft.sampledAt = s.dev.frame ∧ ∀ n < 12, s.dev.dieUp n = true →
        (∃ least, smFind d.ft.margins (64 * n) = some (v.getD n 0, least) ∧ least ≤ v.getD n 0 ∧
          ∀ x, smFind s.dev.ft.margins (64 * n) = some x → least ≤ x.2) ∧
        (v.getD n 0 < s.dev.fld FT_MARGIN_THRESH_voltage → d.fld (FT_SRC_STAT_active (0xA8 + n)) = 1 ∧
          ∃ x ∈ d.faults, x.src = 0xA8 + n ∧ x.level = 1))

/-- A HEARTBEAT as Table 12-5 lays it out, to the device f. -/
def heartbeatTo (d : Dev) (f : Nat) : List Byte :=
  padTo 256 (leBytes 4 d.fid ++ leBytes 1 (d.fld FT_CANARY_STATUS_state) ++
    leBytes 1 (if d.fld FT_STATUS_fault = 1 then d.fld FT_STATUS_level else 0xFF) ++ leBytes 1 (if d.fenced f then 1 else 0) ++ [0] ++
    leBytes 8 d.frame ++ leBytes 4 (d.fld FB_EPOCH_count) ++ leBytes 4 (d.fld FB_STATUS_map_gen) ++ leBytes 4 f)

/-- Heartbeats go out every 64 frames to every live partner on every serving port and to the ZB peer; one that arrives is kept with its sender, and ends a suspicion that is
older than it; one that was due and did not come in eight frames is a miss, and a row member that missed FT_CANARY_TIMING.missed in a row is suspected
(R427, R428, R436). -/
def heartbeatsAreSentAndJudged : Prop :=
  (∀ s : State,
    ((s.dev.flag FB_CTRL_enable = false ∨ s.dev.frame % 64 ≠ 0 ∨ s.dev.canary.beatAt = some s.dev.frame) → Makes .heartbeatSend s s.dev) ∧
    (s.dev.flag FB_CTRL_enable = true → s.dev.frame % 64 = 0 → s.dev.fid ≠ noFid → s.dev.canary.beatAt ≠ some s.dev.frame → Does .heartbeatSend s fun d =>
      d.canary.beatAt = some s.dev.frame ∧ d.regs = s.dev.regs ∧
      (∀ p y, p < 6 → y < 16 → s.dev.isZb p = false → y ≠ fidCoord s.dev.fid (p / 2) → s.dev.liveOn p y = true → s.dev.portServes p = true →
        s.dev.mayBell p y 0x10 = true → ⟨p, y, 0x10, heartbeatTo s.dev (fidWith s.dev.fid (p / 2) y), none⟩ ∈ d.net.bells) ∧
      (∀ p y, p < 6 → s.dev.isZb p = true → y ∈ s.dev.livePartners p → ⟨p, y, 0x10, heartbeatTo s.dev (s.dev.partnerAt p y), none⟩ ∈ d.net.bells))) ∧
  (∀ (rx : Nat) (s : State) (r : RxCell), received s.dev rx r 0x10 →
    let pl := r.cell.payload
    let f := leAt pl 0 4
    let sent := leAt pl 8 8
    (bitAt (leAt pl 6 1) 1 = false → (bitAt (leAt pl 6 1) 0 = false → Does (.heartbeat rx) s fun d =>
        (∃ h, smFind d.canary.heard f = some h ∧ h.sent = sent ∧ h.arrived = r.frame ∧ h.state = leAt pl 4 1 ∧ (r.frame ≤ sent + 8 → sent ∈ h.inTime)) ∧
        (f = s.dev.memberFid (fidX f) → f ≠ s.dev.fid → d.fld (FT_CANARY_PEER_last_frame (fidX f)) = sent % 2 ^ 32 ∧
          (∀ b, smFind s.dev.canary.suspects (fidX f) = some b → b < sent → smFind d.canary.suspects (fidX f) = none) ∧
          (∀ b, smFind s.dev.canary.suspects (fidX f) = some b → sent ≤ b → smFind d.canary.suspects (fidX f) = some b))) ∧
      (bitAt (leAt pl 6 1) 0 = true → s.dev.flag FB_CTRL_enable = true → s.dev.selfFenced = false →
        Does (.heartbeat rx) s fun d => d.fld FT_CANARY_STATUS_state = 3)) ∧
    (bitAt (leAt pl 6 1) 1 = true → leAt pl 24 4 ≠ s.dev.fid →
      ((s.dev.selfFenced = true ∨ 6 ≤ leAt pl 7 1) → Makes (.heartbeat rx) s (s.dev.takeRx r)) ∧
      (∀ p y, s.dev.selfFenced = false → leAt pl 7 1 < 6 → s.dev.nextHop s.dev.version 4 (leAt pl 24 4) = some (p, y) → Does (.heartbeat rx) s fun d =>
        d.net.bells = s.dev.net.bells ++ [⟨p, y, 0x10, padTo 256 (putLe pl 7 1 (leAt pl 7 1 + 1)),
          some ⟨r.cell.src, leAt pl 24 4, leAt pl 7 1 + 1, 0⟩⟩] ∧ d.regs = s.dev.regs ∧ d.canary = s.dev.canary))) ∧
  (∀ (x f : Nat) (s : State), s.dev.partnerX x = some f → x < 16 →
    let due := (s.dev.frame - 8) / 64 * 64
    let came := ∃ h, smFind s.dev.canary.heard f = some h ∧ due ∈ h.inTime
    let n := s.dev.fld (FT_CANARY_PEER_missed x) + 1
    ((s.dev.flag FB_CTRL_enable = false ∨ s.dev.frame < 8 ∨ smFind s.dev.canary.checked x = some due) → Makes (.heartbeatMiss x) s s.dev) ∧
    (s.dev.flag FB_CTRL_enable = true → 8 ≤ s.dev.frame → smFind s.dev.canary.checked x = none →
      (came → Does (.heartbeatMiss x) s fun d => d.fld (FT_CANARY_PEER_missed x) = 0 ∧ regsBut [FT_CANARY_PEER x] s.dev d ∧
        smFind d.canary.checked x = some due ∧ d.canary.suspects = s.dev.canary.suspects) ∧
      (¬ came → liveState (s.dev.liveSet s.dev.version) f = 0 → s.dev.suspects x = false → s.dev.rowLive x = true →
        (s.dev.fld FT_CANARY_TIMING_missed ≤ n → Does (.heartbeatMiss x) s fun d => d.fld (FT_CANARY_PEER_missed x) = min n 255 ∧
          smFind d.canary.suspects x = some s.dev.frame ∧ d.fld (FT_CANARY_PEER_suspected x) = 1 ∧ d.faults = s.dev.faults ++ [⟨0x0B, 0, f, 0⟩]) ∧
        (n < s.dev.fld FT_CANARY_TIMING_missed → Does (.heartbeatMiss x) s fun d => d.fld (FT_CANARY_PEER_missed x) = min n 255 ∧
          d.canary.suspects = s.dev.canary.suspects ∧ d.faults = s.dev.faults))))

/-- SUSPECT goes to the row from the frame after suspicion began and every 16 frames, while the Canary votes; a vote of a row member is kept from its last copy for 64 frames, or
until RETRACT, and the registers show the votes that stand and whether they are a quorum (R430, R431). -/
def suspicionsAreVotedOn : Prop :=
  (∀ (x b : Nat) (s : State), smFind s.dev.canary.suspects x = some b →
    let due := (smFind s.dev.canary.voted x = none ∧ b < s.dev.frame) ∨ ∃ f, smFind s.dev.canary.voted x = some f ∧ f + 16 ≤ s.dev.frame
    (¬ (s.dev.flag FT_CANARY_CTRL_enable = true ∧ due) → Makes (.suspectSend x) s s.dev) ∧
    (s.dev.flag FT_CANARY_CTRL_enable = true → due → Does (.suspectSend x) s fun d =>
      smFind d.canary.voted x = some s.dev.frame ∧ d.regs = s.dev.regs ∧
      ∀ y ∈ s.dev.rowPeers, s.dev.mayBell 0 y 0x11 = true → ⟨0, y, 0x11, padTo 256 (leBytes 4 s.dev.fid ++ leBytes 4 (s.dev.memberFid x) ++
        leBytes 8 b ++ leBytes 1 s.dev.rowCount ++ leBytes 1 (s.dev.voters x).length), none⟩ ∈ d.net.bells)) ∧
  (∀ (rx v t : Nat) (c : Instr) (s : State) (r : RxCell), s.dev.rowX (leAt r.cell.payload 0 4) = some v → s.dev.rowX (leAt r.cell.payload 4 4) = some t →
    let shown (d : Dev) : Prop := t < 16 → d.fld (FT_CANARY_PEER_votes t) = (if d.rowLive t then (d.voters t).length else 0) ∧
      d.fld (FT_CANARY_PEER_quorum t) = if d.flag FT_CANARY_CTRL_enable && d.hasQuorum t then 1 else 0
    (c = .suspect rx → received s.dev rx r 0x11 →
      (v ≠ fidX s.dev.fid → s.dev.rowLive t = true → Does c s fun d =>
        d.canary.votes = ⟨t, v, r.frame⟩ :: s.dev.canary.votes.filter (fun w => !(w.suspect == t && w.voter == v)) ∧ shown d) ∧
      ((v = fidX s.dev.fid ∨ s.dev.rowLive t = false) → Makes c s (s.dev.takeRx r))) ∧
    (c = .retract rx → received s.dev rx r 0x12 → Does c s fun d =>
      d.canary.votes = s.dev.canary.votes.filter (fun w => !(w.suspect == t && w.voter == v)) ∧ shown d)) ∧
  (∀ (t v : Nat) (s : State),
    ((∃ w ∈ s.dev.canary.votes, w.suspect = t ∧ w.voter = v ∧ w.at_ + 64 ≤ s.dev.frame) → Does (.voteLapse t v) s fun d =>
      d.canary.votes = s.dev.canary.votes.filter fun w => !(w.suspect == t && w.voter == v)) ∧
    ((∀ w ∈ s.dev.canary.votes, w.suspect = t → w.voter = v → s.dev.frame < w.at_ + 64) → Makes (.voteLapse t v) s s.dev))

/-- The fencing of row member x is announced by this device for the next multiple of 256 at least 1,024 frames ahead. -/
def fences (s : State) (x : Nat) (d : Dev) : Prop :=
  d.fab.announced = s.dev.fab.announced ++ [⟨s.dev.fid, s.dev.fab.nextEpochSeq, roundUp (s.dev.frame + 1024) 256, [⟨s.dev.memberFid x, 1⟩]⟩]

/-- A quorum held for FT_CANARY_TIMING.confirm frames is a verdict; the voter with the lowest x announces the fencing at once, the others after 64 frames unless it has
become known; SELF_DEAD is a verdict in the frame of its arrival (R432, R434). -/
def verdictsFence : Prop :=
  (∀ (x : Nat) (s : State), x < 16 → x ≠ fidX s.dev.fid → s.dev.memberFid x ≠ s.dev.fid → s.dev.fab.map ≠ none → s.dev.selfFenced = false →
    (s.dev.fid, s.dev.fab.nextEpochSeq) ∉ s.dev.fab.seen →
    (∀ f, smFind s.dev.canary.quorum x = some f → s.dev.flag FT_CANARY_CTRL_enable = true → s.dev.hasQuorum x = true → x ∉ s.dev.canary.reached →
      (f + s.dev.fld FT_CANARY_TIMING_confirm ≤ s.dev.frame →
        (s.dev.suspects x = true → (s.dev.voters x).head? = some (fidX s.dev.fid) → s.dev.fenceKnown (s.dev.memberFid x) = false →
          Does (.canaryVerdict x) s fun d => x ∈ d.canary.reached ∧ fences s x d ∧ d.faults = s.dev.faults ++ [⟨0x0B, 1, s.dev.memberFid x, 0⟩]) ∧
        (s.dev.suspects x = true → (s.dev.voters x).head? ≠ some (fidX s.dev.fid) → Does (.canaryVerdict x) s fun d => x ∈ d.canary.reached ∧
          smFind d.canary.verdicts x = some s.dev.frame ∧ d.fab = s.dev.fab ∧ d.faults = s.dev.faults ++ [⟨0x0B, 1, s.dev.memberFid x, 0⟩])) ∧
      (s.dev.frame < f + s.dev.fld FT_CANARY_TIMING_confirm → Makes (.canaryVerdict x) s s.dev)) ∧
    (∀ f, smFind s.dev.canary.verdicts x = some f →
      (s.dev.flag FT_CANARY_CTRL_enable = true → f + 64 ≤ s.dev.frame → Does (.verdictAnnounceFallback x) s fun d => smFind d.canary.verdicts x = none ∧
        (s.dev.fenceKnown (s.dev.memberFid x) = true → d.fab = s.dev.fab) ∧ (s.dev.fenceKnown (s.dev.memberFid x) = false → fences s x d)) ∧
      ((s.dev.flag FT_CANARY_CTRL_enable = false ∨ s.dev.frame < f + 64) → Makes (.verdictAnnounceFallback x) s s.dev)) ∧
    (∀ rx r, received s.dev rx r 0x13 → s.dev.rowX (leAt r.cell.payload 0 4) = some x →
      (s.dev.flag FT_CANARY_CTRL_enable = true → s.dev.rowLive x = true → x ∉ s.dev.canary.reached → s.dev.fenceKnown (s.dev.memberFid x) = false →
        let first := (List.range 16).find? fun y => y != x && s.dev.rowLive y
        (first = some (fidX s.dev.fid) → Does (.selfDead rx) s fun d => x ∈ d.canary.reached ∧ fences s x d) ∧
        (first ≠ some (fidX s.dev.fid) → Does (.selfDead rx) s fun d => x ∈ d.canary.reached ∧ smFind d.canary.verdicts x = some r.frame ∧
          d.fab = s.dev.fab)) ∧
      (s.dev.flag FT_CANARY_CTRL_enable = false → Makes (.selfDead rx) s (s.dev.takeRx r))))

/-- A device in minority for FT_CANARY_TIMING.confirm frames, with its Canary enabled, is FENCED and raises canary-minority.  The Canary is enabled only beside the fabric, and a
FENCED device without a severe fault becomes ready to rejoin (R430, R437, R439). -/
def canaryStates : Prop :=
  (∀ (f : Nat) (s : State), s.dev.canary.minorityAt = some f →
    (s.dev.flag FT_CANARY_CTRL_enable = true → s.dev.inMinority = true → s.dev.selfFenced = false → f + s.dev.fld FT_CANARY_TIMING_confirm ≤ s.dev.frame →
      Does .minorityFence s fun d => d.fld FT_CANARY_STATUS_state = 3 ∧ ∃ x ∈ d.faults, x.src = 0x0D ∧ x.level = 3) ∧
    ((s.dev.flag FT_CANARY_CTRL_enable = false ∨ s.dev.inMinority = false ∨ s.dev.frame < f + s.dev.fld FT_CANARY_TIMING_confirm) →
      Makes .minorityFence s s.dev)) ∧
  (∀ (v : Word64) (s : State), s.dev.ready = true → s.dev.cp.d3hot = false → s.dev.inBatch FT_CANARY_CTRL = false →
    let st := s.dev.fld FT_CANARY_STATUS_state
    (bitAt v.toNat 1 = false →
      (bitAt v.toNat 0 = true → s.dev.flag FT_CANARY_CTRL_enable = false → s.dev.flag FB_CTRL_enable = false → Does (.ftCanaryEnable v) s fun d =>
        d.fld FT_STATUS_reason = 0x0202 ∧ regsBut [FT_STATUS] s.dev d ∧ onlyRegs s.dev d) ∧
      (bitAt v.toNat 0 = true → s.dev.flag FB_CTRL_enable = true → Does (.ftCanaryEnable v) s fun d => d.fld FT_CANARY_CTRL_enable = 1 ∧
        d.fld FT_CANARY_STATUS_state = if st = 0 then 1 else st) ∧
      (bitAt v.toNat 0 = false → Does (.ftCanaryEnable v) s fun d => d.fld FT_CANARY_CTRL_enable = 0 ∧
        d.fld FT_CANARY_STATUS_state = if st = 1 ∨ st = 2 then 0 else st)) ∧
    (bitAt v.toNat 1 = true → (bitAt v.toNat 0 = false ∨ s.dev.flag FB_CTRL_enable = true) →
      ((st ≠ 3 ∨ ∃ i < 256, (i < 0x0B ∨ 0x0D < i) ∧ s.dev.fld (FT_SRC_STAT_pending i) = 1 ∧ 2 ≤ s.dev.fld (FT_SRC_STAT_level i)) →
        Does (.ftCanaryRejoin v) s fun d => d.fld FT_STATUS_reason = 0x0C01 ∧ regsBut [FT_STATUS] s.dev d) ∧
      (st = 3 → (∀ i < 256, (i < 0x0B ∨ 0x0D < i) → s.dev.fld (FT_SRC_STAT_pending i) = 1 → s.dev.fld (FT_SRC_STAT_level i) < 2) →
        Does (.ftCanaryRejoin v) s fun d => d.fld FT_CANARY_STATUS_state = 4)))

/-- The fault classifier.
Completes here: faultClear, telemetryRead, faultEvent, ftClearWrite, marginSample. -/
def Obligations.FaultsAreClassifiedLoggedAndCleared : Prop := eventsAreClassified ∧ faultsAreClearedAndRead ∧ marginsAreSampled

/-- The Canary.
Completes here: ftCanaryEnable, ftCanaryRejoin, heartbeatSend, heartbeat, heartbeatMiss, suspectSend, suspect, retract, voteLapse, canaryVerdict,
verdictAnnounceFallback, selfDead, minorityFence. -/
def Obligations.TheCanaryFencesWhatFailed : Prop := heartbeatsAreSentAndJudged ∧ suspicionsAreVotedOn ∧ verdictsFence ∧ canaryStates

/-! ### Temperature and power (chapter 13) -/

/-- Zone z of a device lies at its advisory level or above. -/
def atAdvisory (d : Dev) (z : Nat) : Prop := 16 * (d.fld (TM_ZONE_CFG_advisory z) : Int) ≤ d.sfld (TM_ZONE_temp z)

/-- SENSOR_SAMPLE gives every fitted zone the highest of its unmasked sensors, an invalid one counting as critical plus 1 °C; a reading stands in its sensor's register, and one of count 0 or
out of -40 to 150 °C makes the sensor invalid.  A zone reaches advisory, critical and shutdown with two samples in a row at or above the level and leaves advisory below it less the
hysteresis; critical stretches the clocks and raises 0xE3, shutdown turns the module off (R444 to R447, R449, R451 to R453). -/
def samplesJudgeZones : Prop :=
  (∀ (l : List SensorReading) (s : State), s.dev.pw.phase ≠ .on → Makes (.sensorSample l) s s.dev) ∧
  (∀ (l : List SensorReading) (s : State), s.dev.pw.phase = .on → Does (.sensorSample l) s fun d => d.tm.tick = s.dev.tm.tick + 1 ∧
    ∀ z < 40, s.dev.zoneFitted z = true → d.unmasked z ≠ [] →
      (∀ j ∈ d.unmasked z, d.counted z j ≤ d.sfld (TM_ZONE_temp z)) ∧ ∃ j ∈ d.unmasked z, d.counted z j = d.sfld (TM_ZONE_temp z)) ∧
  (∀ (r : SensorReading) (s : State), s.dev.pw.phase = .on → r.zone < 24 → r.sensor < zoneSensors r.zone → s.dev.zoneFitted r.zone = true →
    s.dev.flag (TM_SENS_invalid r.zone r.sensor) = false →
    (-640 ≤ r.temp → r.temp ≤ 2400 → 0 < r.count → smFind s.dev.tm.runs (r.zone * 32 + r.sensor) = none → Does (.sensorSample [r]) s fun d =>
      d.sfld (TM_SENS_temp r.zone r.sensor) = r.temp ∧ d.fld (TM_SENS_count r.zone r.sensor) = r.count % 2 ^ 16 ∧
      d.flag (TM_SENS_invalid r.zone r.sensor) = false) ∧
    ((r.temp < -640 ∨ 2400 < r.temp ∨ r.count = 0 ∨ ∃ n, smFind s.dev.tm.runs (r.zone * 32 + r.sensor) = some (r.count, n) ∧ 1023 ≤ n) →
      Does (.sensorSample [r]) s fun d => d.flag (TM_SENS_invalid r.zone r.sensor) = true ∧
        (s.dev.flag (TM_SENS_masked r.zone r.sensor) = false → ∃ x ∈ d.faults, x.src = 0xE0))) ∧
  (∀ (z : Nat) (p : Int) (s : State), s.dev.pw.phase = .on → z < 40 → s.dev.zoneFitted z = true → (s.dev.zone z).prev = some p →
    let x := s.dev.zone z
    let t := (s.dev.zoneTemp z).1
    let crit : Int := 16 * criticalC z
    let adv : Int := 16 * s.dev.fld (TM_ZONE_CFG_advisory z)
    (x.crit = false → crit ≤ t → crit ≤ p → Does (.sensorSample []) s fun d => (d.zone z).crit = true ∧ d.fld TM_STATUS_critical = 1 ∧
      d.fld TM_CLOCK_stretch_thermal = 1 ∧ ∃ e ∈ d.faults, e.src = 0xE3 ∧ e.level = 2) ∧
    (x.adv = false → x.rejudge = false → x.enf = false → s.dev.flag TM_CTRL_enable = true → adv ≤ t → adv ≤ p → Does (.sensorSample []) s fun d =>
      (d.zone z).adv = true ∧ (d.zone z).grace = some (s.dev.frame + s.dev.fld TM_GRACE_frames) ∧ d.fld TM_STATUS_advisory = 1 ∧
      ∃ e ∈ d.faults, e.src = 0xE1) ∧
    (x.adv = false → x.rejudge = false → (t < adv ∨ p < adv) → Does (.sensorSample []) s fun d => (d.zone z).adv = false) ∧
    (x.adv = true → x.rejudge = false → t < adv - 16 * s.dev.fld (TM_ZONE_CFG_hysteresis z) → Does (.sensorSample []) s fun d =>
      (d.zone z).adv = false ∧ (d.zone z).grace = none) ∧
    (crit + 160 ≤ t → crit + 160 ≤ p → Does (.sensorSample []) s fun d => d.pw.phase ≠ .on))

/-- After its grace time a zone still at advisory lowers the dies of its set at nominal by a step; it steps on every millisecond, and after release every 10 ms up again, each bounded by the
floor and by nominal; the stretch of a critical zone ends after a millisecond below.  Before their times these change nothing.  Clearing TM_CTRL.enable
restores every thermal ceiling at once (R451, R452, R455). -/
def zonesThrottle : Prop :=
  (∀ (z f : Nat) (s : State), (s.dev.zone z).grace = some f →
    ((s.dev.frame < f ∨ s.dev.flag TM_CTRL_enable = false ∨ (s.dev.zone z).adv = false) → Makes (.graceExpiry z) s s.dev) ∧
    (f ≤ s.dev.frame → s.dev.flag TM_CTRL_enable = true → (s.dev.zone z).adv = true → atAdvisory s.dev z → Does (.graceExpiry z) s fun d =>
      (∀ n ∈ throttleSet z, s.dev.thermalCeil n = 2200 →
        d.thermalCeil n = min 2200 (max (2200 - s.dev.fld TM_THROTTLE_step) (s.dev.fld TM_THROTTLE_floor))) ∧
      (∀ n, (n ∉ throttleSet z ∨ s.dev.thermalCeil n ≠ 2200) → d.thermalCeil n = s.dev.thermalCeil n) ∧
      (d.zone z).grace = none ∧ (d.zone z).enf = true ∧ (d.zone z).forced = true)) ∧
  (∀ (z : Nat) (s : State),
    let x := s.dev.zone z
    let due := s.dev.flag TM_CTRL_enable = true ∧ x.adv = true ∧ x.forced = true ∧ x.stepAt + 500 ≤ s.dev.tm.tick ∧ atAdvisory s.dev z
    (¬ due → Makes (.thermalStepDown z) s s.dev) ∧
    (due → Does (.thermalStepDown z) s fun d => (d.zone z).stepAt = s.dev.tm.tick ∧ (d.zone z).enf = true ∧
      (∀ n ∈ throttleSet z, d.thermalCeil n = min (s.dev.thermalCeil n)
        (max (s.dev.thermalCeil n - s.dev.fld TM_THROTTLE_step) (s.dev.fld TM_THROTTLE_floor))) ∧
      ∀ n, n ∉ throttleSet z → d.thermalCeil n = s.dev.thermalCeil n)) ∧
  (∀ (z t : Nat) (s : State), (s.dev.zone z).relAt = some t →
    (s.dev.tm.tick < t + 5000 → Makes (.thermalStepUp z) s s.dev) ∧
    (t + 5000 ≤ s.dev.tm.tick → Does (.thermalStepUp z) s fun d => ∀ n ∈ throttleSet z, d.thermalCeil n =
      if s.dev.heldByOther z n then s.dev.thermalCeil n else min 2200 (s.dev.thermalCeil n + s.dev.fld TM_THROTTLE_step))) ∧
  (∀ (z : Nat) (s : State), smWf (fun _ => ({} : Zone)) s.dev.tm.zones = true →
    (((s.dev.zone z).crit = false ∨ (s.dev.zone z).calm < 500) → Makes (.criticalStretchEnd z) s s.dev) ∧
    ((s.dev.zone z).crit = true → 500 ≤ (s.dev.zone z).calm → Does (.criticalStretchEnd z) s fun d => (d.zone z).crit = false ∧
      ((∀ y, y ≠ z → (s.dev.zone y).crit = false) → d.fld TM_CLOCK_stretch_thermal = 0 ∧ d.fld TM_STATUS_critical = 0))) ∧
  (∀ (v : Word64) (s : State), s.dev.ready = true → s.dev.cp.d3hot = false → s.dev.inBatch TM_CTRL = false →
    (bitAt v.toNat 0 = true → Makes (.tmCtrlEnable v) s (s.dev.setFld TM_CTRL_enable 1)) ∧
    (bitAt v.toNat 0 = false → Does (.tmCtrlEnable v) s fun d => d.fld TM_CTRL_enable = 0 ∧ (∀ n, d.thermalCeil n = 2200) ∧
      d.fld TM_CLOCK_thermal = 2200 ∧ d.fld TM_STATUS_enforced = 0))

/-- A power sample inside the input range shows volts, amperes and watts, and fills or drains the bucket by the excess over the sustained limit; two samples above the peak limit stretch
every die.  Main input below 36 V for 25 samples turns the module off.  The power ceiling steps down while the bucket is full and up while it is below half with 100 W
to spare; the stretch ends after a millisecond at or below the peak limit (R457 to R461). -/
def powerIsLimited : Prop :=
  (∀ (mv ma aux stby : Nat) (s : State),
    let p := mv * ma
    let lim := min (min (s.dev.fld TM_PWR_LIMIT_sustained) 4800 * 1000000) (100 * mv * 1000)
    let peak := min (5600 * 1000000) (120 * mv * 1000)
    (s.dev.pw.phase ≠ .on → Makes (.powerSample mv ma aux stby) s s.dev) ∧
    (s.dev.pw.phase = .on → 40000 ≤ mv → mv ≤ 60000 → 11400 ≤ aux → aux ≤ 12600 → 3135 ≤ stby → stby ≤ 3465 → Does (.powerSample mv ma aux stby) s fun d =>
      d.tm.bucket = (if lim < p then min 8000000000000 (s.dev.tm.bucket + (p - lim) * 2) else s.dev.tm.bucket - (lim - p) * 2) ∧
      d.fld TM_PWR_volts = min (mv / 10) 65535 ∧ d.fld TM_PWR_amps = min (ma / 10) 65535 ∧ d.fld TM_PWR_watts = min (p / 1000000) 65535 ∧
      d.fld TM_PWR_LIMIT_in_force = lim / 1000000 ∧ d.pw.phase = .on ∧
      (peak < p → 1 ≤ s.dev.tm.nOver → s.dev.flag TM_CLOCK_stretch_power = false → d.fld TM_CLOCK_stretch_power = 1 ∧ d.fld TM_STATUS_power = 1 ∧
        ∃ x ∈ d.faults, x.src = 0xEB ∧ x.level = 1) ∧
      ((p ≤ peak ∨ s.dev.tm.nOver = 0) → d.flag TM_CLOCK_stretch_power = s.dev.flag TM_CLOCK_stretch_power)) ∧
    (s.dev.pw.phase = .on → mv < 36000 → 24 ≤ s.dev.tm.mainLow → Does (.powerSample mv ma aux stby) s fun d => d.pw.phase ≠ .on)) ∧
  (∀ s : State,
    let due := s.dev.pw.phase = .on ∧ 8000000000000 ≤ s.dev.tm.bucket ∧ s.dev.tm.pStepAt + 50 ≤ s.dev.tm.ptick ∧ s.dev.fld TM_THROTTLE_floor < s.dev.tm.power
    let v := max (s.dev.tm.power - s.dev.fld TM_THROTTLE_step) (s.dev.fld TM_THROTTLE_floor)
    (¬ due → Makes .powerStepDown s s.dev) ∧
    (due → Does .powerStepDown s fun d => d.tm.power = v ∧ d.fld TM_CLOCK_power = v % 2 ^ 12 ∧ d.tm.pStepAt = s.dev.tm.ptick ∧
      d.faults = s.dev.faults ++ [⟨0xEA, 0, 0, 0⟩])) ∧
  (∀ s : State,
    let due := s.dev.pw.phase = .on ∧ s.dev.tm.power < 2200 ∧ s.dev.tm.bucket < 4000000000000 ∧ s.dev.tm.pStepAt + 5000 ≤ s.dev.tm.ptick ∧
      s.dev.tm.watts + 100000000 ≤ s.dev.sustained s.dev.pw.mainMv
    let v := min 2200 (s.dev.tm.power + s.dev.fld TM_THROTTLE_step)
    (¬ due → Makes .powerStepUp s s.dev) ∧
    (due → Does .powerStepUp s fun d => d.tm.power = v ∧ d.fld TM_CLOCK_power = v ∧ d.tm.pStepAt = s.dev.tm.ptick)) ∧
  (∀ s : State,
    (s.dev.flag TM_CLOCK_stretch_power = true → 500 ≤ s.dev.tm.nUnder → Does .powerStretchEnd s fun d => d.fld TM_CLOCK_stretch_power = 0) ∧
    ((s.dev.flag TM_CLOCK_stretch_power = false ∨ s.dev.tm.nUnder < 500) → Makes .powerStretchEnd s s.dev))

/-- CLOCK_LIMIT sets the host ceiling, 0 or from the floor to 2,200 MHz, and is answered THROTTLED when the clock lies below it; THERMAL_READ writes 344 bytes and begins the peaks anew
(R468, R469). -/
def thermalCommands : Prop :=
  (∀ (id : Nat) (s : State) (c : Cmd), begun s.dev id 0x0901 c →
    let v := c.p 0 % 2 ^ 16
    (v ≠ 0 → (v < s.dev.fld TM_THROTTLE_floor ∨ 2200 < v) → Makes (.clockLimit id) s (s.dev.complete c 0x0201)) ∧
    ((v = 0 ∨ s.dev.fld TM_THROTTLE_floor ≤ v ∧ v ≤ 2200) → Does (.clockLimit id) s fun d => d.fld TM_CLOCK_host = v ∧
      completes s c (if v ≠ 0 ∧ d.fld TM_CLOCK_effective < v then 0x0902 else 0)
        (match s.dev.diesUp with | n :: _ => d.effective n | [] => 0) 0 0 d)) ∧
  (∀ (id : Nat) (s : State) (c : Cmd), begun s.dev id 0x0900 c →
    (c.p 1 < 344 → Makes (.thermalRead id) s (s.dev.complete c 0x0102)) ∧
    (344 ≤ c.p 1 → Does (.thermalRead id) s fun d => completes s c 0 0 0 0 d ∧ (∀ e ∈ d.tm.zones, e.2.hostPeak = none) ∧
      d.host = (s.dev.hostWrite (c.p 0) (leBytes 2 40 ++ zeros 6 ++ leBytes 8 s.dev.tm.sampledAt ++ (List.range 40).flatMap s.dev.zoneEntry ++
        leBytes 8 (s.dev.reg TM_PWR).toNat)).host))

/-- Temperature and power.
Completes here: thermalRead, clockLimit, sensorSample, graceExpiry, thermalStepDown, thermalStepUp, criticalStretchEnd, powerSample, powerStepDown,
powerStepUp, powerStretchEnd, tmCtrlEnable. -/
def Obligations.HeatAndPowerAreLimited : Prop := samplesJudgeZones ∧ zonesThrottle ∧ powerIsLimited ∧ thermalCommands

/-! ### Rules of the specification stated whole -/

/-- R154: scalar register s0 reads 0, and what is written to it is not kept; a scalar operation whose destination is s0 leaves every core as it was.
Completes here: sAdd, sSub, sMul, sAnd, sOr, sXor, sShl, sShr, sSra, slt, sltu, sMin, sMax, li. -/
def Obligations.ScalarRegisterZeroReadsZeroAndKeepsNothing : Prop :=
  (∀ c : Core, c.sreg 0 = 0) ∧ (∀ (c : Core) (v : Word64) (i : Nat), (c.setS 0 v).sreg i = c.sreg i) ∧
  ∀ row ∈ scalarTable, ∀ (k : Nat) (s : State), s.dev.issues k 0 row.2.1 = true → s.dev.pc k < 8191 → wget (s.dev.instr k) 47 43 = 0 →
    Does (row.1 k) s fun d => ∀ j, d.core j = s.dev.core j

/-- R325: an atomic on a poisoned word leaves memory as it is and answers its requester with the old value, marked poisoned.
Completes here: atomicExecute. -/
def Obligations.AtomicsOnPoisonedWordsLeaveMemory : Prop :=
  ∀ (slot : Nat) (s : State) (j : AtomJob), s.dev.row.atoms.find? (fun x => x.id == slot) = some j → j.granted = true →
    ((s.dev.row.atoms.takeWhile fun x => x.id != slot).all fun x => x.addr / 32 != j.addr / 32) = true →
    let n := if j.kind = 1 ∨ 9 ≤ j.kind ∧ j.kind ≤ 13 then 8 else 4
    let t := s.dev.readWord j.addr
    let read := j.old.getD (ofLe (t.bytesAt j.addr n), t.poisonAt j.addr)
    s.dev.held j.addr n = false → s.dev.present j.addr n = true → read.2 = true →
    Does (.atomicExecute slot) s fun d => d.ram = t.ram ∧
      (∀ p, s.dev.place j.addr = some p → s.dev.chkAt p.key = poisonMark →
        d.ram.cells = s.dev.ram.cells ∧ d.ram.chk = s.dev.ram.chk) ∧
      d = Dev.atomAnswer { t with row := { s.dev.row with atoms := s.dev.row.atoms.filter fun x => x.id != slot } } j (.old read.1 true) ∧
      ∀ src seq, j.reply = .remote src seq → waitingCells d = waitingCells s.dev ++
        [s.dev.newCell 1 (rowOp 0xA j.kind 1 0) seq src (leBytes 8 read.1) 8 0]

/-- R336: a reply for a request or message that is not outstanding, and so has failed, is discarded and counted in HF_ROW_CNT.late.
Completes here: readData, writeAck, atomicReply, rowRefusal, messageAccepted, messageRefused. -/
def Obligations.LateRepliesAreDiscardedAndCounted : Prop :=
  (∀ (rx cls t : Nat) (c : Instr) (s : State) (r : RxCell),
    (c, cls, t) ∈ [(.readData rx, 0, 8), (.writeAck rx, 0, 9), (.atomicReply rx, 1, 0xA), (.rowRefusal rx, 0, 0xF), (.rowRefusal rx, 1, 0xF)] →
    requested s.dev rx r cls t →
    (∀ q ∈ s.dev.row.reqs, ¬ (q.sent = true ∧ q.seq = r.cell.seq ∧ s.dev.memberFid q.member = r.cell.src)) → Does c s fun d =>
      d.fld HF_ROW_CNT_late = min (s.dev.fld HF_ROW_CNT_late + 1) (2 ^ 16 - 1) ∧ regsBut [HF_ROW_CNT] s.dev d ∧ d.row = s.dev.row ∧
        d.ram = s.dev.ram ∧ d.cores = s.dev.cores ∧ d.rxCell rx = none) ∧
  (∀ (rx t : Nat) (c : Instr) (s : State) (r : RxCell), (c, t) ∈ [(.messageAccepted rx, 8), (.messageRefused rx, 0xF)] → requested s.dev rx r 2 t →
    (∀ m ∈ s.dev.row.msgs, ¬ (m.sent = true ∧ m.seq = r.cell.seq ∧ m.dst = r.cell.src ∧ m.mailbox = bitsOf r.cell.op 27 18)) → Does c s fun d =>
      d.fld HF_ROW_CNT_late = min (s.dev.fld HF_ROW_CNT_late + 1) (2 ^ 16 - 1) ∧ regsBut [HF_ROW_CNT] s.dev d ∧ d.row = s.dev.row ∧
        d.ram = s.dev.ram ∧ d.cores = s.dev.cores ∧ d.rxCell rx = none)

/-- R332: a message incomplete HF_ROW_TIMEOUT.msg frames after its first cell came is discarded, the buffers of its cells are free, and no reply is sent;
before that it stays.  The frame of arrival of its first cell and the time are kept from that cell on.
Completes here: messageData, messageAssemblyTimeout. -/
def Obligations.IncompleteMessagesAreDiscarded : Prop :=
  (∀ (rx : Nat) (s : State) (r : RxCell), requested s.dev rx r 2 0 →
    let last := r.cell.msgLast
    0 < last → r.cell.msgIndex ≤ last →
    (∀ a ∈ s.dev.row.asm, ¬ (a.src = r.cell.src ∧ a.mailbox = r.cell.msgMailbox ∧ a.seq = r.cell.seq)) → Does (.messageData rx) s fun d =>
      ∃ a ∈ d.row.asm, a.id = s.dev.nextId ∧ a.first = r.frame ∧ a.limit = s.dev.fld HF_ROW_TIMEOUT_msg ∧ a.bufs = [(r.port, r.cell.hopSrc, r.lane == 30)]) ∧
  ∀ (id : Nat) (s : State) (a : Assembly), s.dev.row.asm.find? (fun x => x.id == id) = some a →
    (a.first + a.limit ≤ s.dev.frame → Does (.messageAssemblyTimeout id) s fun d => (∀ x ∈ d.row.asm, x.id ≠ id) ∧
      waitingCells d = waitingCells s.dev ∧ d.net.bells = s.dev.net.bells ∧ d.regs = s.dev.regs ∧ d.ram = s.dev.ram ∧
      ∀ p y cage, cntGet d.net.freed (bufKey p y cage) = cntGet s.dev.net.freed (bufKey p y cage) +
        a.bufs.countP fun b => bufKey b.1 b.2.1 b.2.2 == bufKey p y cage) ∧
    (s.dev.frame < a.first + a.limit → Makes (.messageAssemblyTimeout id) s s.dev)

/-- R426: FAULT_LOG_READ writes the records added since the previous one, oldest first, as many as its buffer holds; the others stay.  w0 gives the records written,
w1 those lost since the previous read, which the log counts up to 0xFFFF_FFFF.  Another length than a multiple of 32 from 32 to 32,768 is BAD_LENGTH.
Completes here: faultLogRead. -/
def Obligations.FaultLogReadsTakeTheOldestRecords : Prop :=
  (∀ (id : Nat) (s : State) (c : Cmd), begun s.dev id 0x0601 c →
    let len := c.p 1
    ((len % 32 ≠ 0 ∨ len < 32 ∨ 32768 < len) → Makes (.faultLogRead id) s (s.dev.complete c 0x0102)) ∧
    (len % 32 = 0 → 32 ≤ len → len ≤ 32768 →
      let out := s.dev.ft.log.take (len / 32)
      Does (.faultLogRead id) s fun d => d.ft.log = s.dev.ft.log.drop (len / 32) ∧ d.ft.lost = 0 ∧
        d.host = (s.dev.hostWrite (c.p 0) out.flatten).host ∧ completes s c 0 out.length s.dev.ft.lost 0 d)) ∧
  ∀ (d : Dev) (r : List (BitVec 8)),
    (d.ft.log.length < 1024 → (d.addLog r).ft.log = d.ft.log ++ [r] ∧ (d.addLog r).ft.lost = d.ft.lost) ∧
    (1024 ≤ d.ft.log.length → (d.addLog r).ft.log = d.ft.log.drop 1 ++ [r] ∧ (d.addLog r).ft.lost = min (d.ft.lost + 1) 0xFFFFFFFF)

/-! ### Reset, the canonical form, and cells on the glass -/

/-- At reset no command waits, registers read what the register tables give, and every memory is in its canonical form and reads 0 (the model's choice for memory,
log entry 4). -/
def Obligations.ResetLeavesTheTabledValues : Prop :=
  State.reset.pending = [] ∧ State.reset.dev.Canonical ∧ (∀ a, State.reset.dev.byteAt a = 0) ∧
  (∀ x ∈ [(GD_STATUS_state, 0), (FT_CTRL_enable, 1), (FT_CANARY_TIMING_confirm, 768), (FT_CANARY_TIMING_missed, 8), (FT_MARGIN_THRESH_voltage, 25),
      (FT_MARGIN_THRESH_timing, 20), (FT_MARGIN_THRESH_optical, 200), (FT_MARGIN_THRESH_wavelength, 80), (TM_CTRL_enable, 1), (TM_GRACE_frames, 24414),
      (TM_THROTTLE_floor, 1000), (TM_THROTTLE_step, 100), (TM_CLOCK_effective, 2200), (TM_PWR_LIMIT_sustained, 4800), (CE_CTRL_enable, 0),
      (CE_GROUP_OPT_sample_k 7, 15), (CE_GROUP_OPT_margin 7, 1), (CE_GROUP_OPT_auto_threshold 7, 0x40000), (TM_ZONE_CFG_hysteresis 3, 3),
      (TM_ZONE_CFG_advisory 3, 95), (TM_ZONE_CFG_advisory 23, 70), (FT_SRC_CFG_act1 9, 1), (FT_SRC_CFG_threshold 9, 64)],
    State.reset.dev.fld x.1 = x.2)

/-- Every command keeps the canonical form of registers, memories, host memory and cores: keys strictly rising, and no entry that reads as an unlisted one does. -/
def Obligations.EveryStepKeepsTheCanonicalForm : Prop :=
  ∀ s s' : State, s.dev.Canonical → step s = .next s' → s'.dev.Canonical

/-- A cell whose fields fit their bits travels as 288 scrambled bytes, and reading those bytes gives the cell back: no bit of header, payload or accounting is
dropped (R232 to R235, R238). -/
def Obligations.CellsReadBackFromTheirWireForm : Prop :=
  ∀ c : Cell, c.wf = true → c.wire.length = 288 ∧ readWire c.wire = some c
end

