-- ==== Sys2Proof/Laws/Bits.lean ====
section
/-!
SUPPORT. Sys2Proof/Laws/Bits.lean: the laws of sparse maps (read after write, the canonical form kept), of bit fields and
of little-endian bytes.
-/

namespace Sys2Proof.Machine

variable {α : Type}

/-! ### Sparse maps: read after write -/

@[simp] theorem smFind_nil (k : Nat) : smFind ([] : List (Nat × α)) k = none := rfl

theorem smFind_cons (a : Nat) (v : α) (t : List (Nat × α)) (k : Nat) :
    smFind ((a, v) :: t) k = if a = k then some v else smFind t k := rfl

/-- Unlisting a key makes it unlisted, and leaves every other key alone. -/
theorem smFind_unlist (m : List (Nat × α)) (k j : Nat) :
    smFind (m.filter fun e => !decide (e.1 = k)) j = if j = k then none else smFind m j := by
  induction m with
  | nil => simp
  | cons e t ih =>
    obtain ⟨a, v⟩ := e
    by_cases ha : a = k
    · subst ha
      by_cases hj : j = a
      · subst hj; simpa using ih
      · simp [ih, hj, smFind_cons, Ne.symm hj]
    · simp only [List.filter_cons, ha, decide_false, Bool.not_false, if_true, smFind_cons, ih]
      by_cases hj : j = k
      · subst hj; simp [ha]
      · simp [hj]

/-- What a key lists after a write: the new value, nothing where that is the default, and other keys as before. -/
theorem smFind_smPut [DecidableEq α] (dflt : Nat → α) (m : List (Nat × α)) (k j : Nat) (v : α) :
    smFind (smPut dflt m k v) j = if j = k then (if v = dflt k then none else some v) else smFind m j := by
  induction m with
  | nil =>
    by_cases hj : j = k
    · by_cases hv : v = dflt k <;> simp [smPut, smFind_cons, hv, hj]
    · by_cases hv : v = dflt k <;> simp [smPut, smFind_cons, hv, hj, Ne.symm hj]
  | cons e t ih =>
    obtain ⟨a, w⟩ := e
    unfold smPut
    by_cases h1 : a < k
    · simp only [h1, if_true, smFind_cons, ih]
      by_cases hj : j = k
      · subst hj; simp [Nat.ne_of_lt h1]
      · simp [hj]
    · simp only [h1, if_false]
      by_cases hv : v = dflt k
      · rw [if_pos hv, smFind_unlist]; simp [hv]
      · simp only [hv, if_false]
        by_cases hk : k = a
        · subst hk
          by_cases hj : j = k
          · simp [smFind_cons, hj]
          · simp [smFind_cons, hj, Ne.symm hj]
        · by_cases hj : j = k
          · simp [smFind_cons, hk, hj]
          · simp [smFind_cons, hk, hj, Ne.symm hj]

/-- Read after write of a sparse map. -/
theorem smGet_smPut [DecidableEq α] (dflt : Nat → α) (m : List (Nat × α)) (k j : Nat) (v : α) :
    smGet dflt (smPut dflt m k v) j = if j = k then v else smGet dflt m j := by
  unfold smGet
  rw [smFind_smPut]
  by_cases hj : j = k
  · by_cases hv : v = dflt k <;> simp [hj, hv]
  · simp [hj]

@[simp] theorem smGet_smPut_same [DecidableEq α] (dflt : Nat → α) (m : List (Nat × α)) (k : Nat) (v : α) :
    smGet dflt (smPut dflt m k v) k = v := by simp [smGet_smPut]

theorem smGet_smPut_other [DecidableEq α] (dflt : Nat → α) (m : List (Nat × α)) {k j : Nat} (h : j ≠ k) (v : α) :
    smGet dflt (smPut dflt m k v) j = smGet dflt m j := by simp [smGet_smPut, h]

@[simp] theorem smGet_nil (dflt : Nat → α) (k : Nat) : smGet dflt [] k = dflt k := rfl

/-- What a key lists after smSet. -/
theorem smFind_smSet (m : List (Nat × α)) (k j : Nat) (v : α) :
    smFind (smSet m k v) j = if j = k then some v else smFind m j := by
  induction m with
  | nil =>
    by_cases hj : j = k
    · simp [smSet, smFind_cons, hj]
    · simp [smSet, smFind_cons, hj, Ne.symm hj]
  | cons e t ih =>
    obtain ⟨a, w⟩ := e
    unfold smSet
    by_cases h1 : k < a
    · by_cases hj : j = k
      · simp [h1, smFind_cons, hj]
      · simp [h1, smFind_cons, hj, Ne.symm hj]
    · simp only [h1, if_false]
      by_cases hk : k = a
      · subst hk
        by_cases hj : j = k
        · simp [smFind_cons, hj]
        · simp [smFind_cons, hj, Ne.symm hj]
      · simp only [hk, if_false, smFind_cons, ih]
        by_cases hj : j = k
        · subst hj; simp [Ne.symm hk]
        · simp [hj]

theorem smFind_smDel (m : List (Nat × α)) (k j : Nat) :
    smFind (smDel m k) j = if j = k then none else smFind m j := smFind_unlist m k j

/-- What a range of keys reads as after smClear. -/
theorem smFind_smClear (m : List (Nat × α)) (lo hi j : Nat) :
    smFind (smClear m lo hi) j = if lo ≤ j ∧ j < hi then none else smFind m j := by
  induction m with
  | nil => simp [smClear]
  | cons e t ih =>
    obtain ⟨a, v⟩ := e
    unfold smClear at ih ⊢
    by_cases ha : lo ≤ a ∧ a < hi
    · rw [List.filter_cons_of_neg (by simp [ha.1, ha.2]), ih, smFind_cons]
      by_cases hj : a = j
      · subst hj; simp [ha]
      · simp [hj]
    · rw [List.filter_cons_of_pos (by simp; omega), smFind_cons, smFind_cons, ih]
      by_cases hj : a = j
      · subst hj; simp [ha]
      · simp [hj]

theorem smGet_smClear (dflt : Nat → α) (m : List (Nat × α)) (lo hi j : Nat) :
    smGet dflt (smClear m lo hi) j = if lo ≤ j ∧ j < hi then dflt j else smGet dflt m j := by
  unfold smGet
  rw [smFind_smClear]
  split <;> simp_all

/-! ### Sparse maps: the canonical form -/

theorem smAbove_cons [DecidableEq α] (dflt : Nat → α) (lo a : Nat) (v : α) (t : List (Nat × α)) :
    smAbove dflt lo ((a, v) :: t) = true ↔ lo ≤ a ∧ v ≠ dflt a ∧ smAbove dflt (a + 1) t = true := by
  simp [smAbove, and_assoc]

theorem smAbove_mono [DecidableEq α] {dflt : Nat → α} {lo lo' : Nat} (h : lo' ≤ lo) :
    ∀ {m : List (Nat × α)}, smAbove dflt lo m = true → smAbove dflt lo' m = true
  | [], _ => rfl
  | (a, v) :: t, hm => by
    rw [smAbove_cons] at hm ⊢
    exact ⟨h.trans hm.1, hm.2⟩

theorem smAbove_filter [DecidableEq α] {dflt : Nat → α} (p : Nat × α → Bool) :
    ∀ {lo : Nat} {m : List (Nat × α)}, smAbove dflt lo m = true → smAbove dflt lo (m.filter p) = true
  | _, [], _ => rfl
  | lo, (a, v) :: t, hm => by
    rw [smAbove_cons] at hm
    by_cases hp : p (a, v) = true
    · rw [List.filter_cons_of_pos hp, smAbove_cons]
      exact ⟨hm.1, hm.2.1, smAbove_filter p hm.2.2⟩
    · rw [List.filter_cons_of_neg hp]
      exact smAbove_mono (Nat.le_succ_of_le hm.1) (smAbove_filter p hm.2.2)

theorem smAbove_smPut [DecidableEq α] {dflt : Nat → α} (k : Nat) (v : α) :
    ∀ {lo : Nat} {m : List (Nat × α)}, lo ≤ k → smAbove dflt lo m = true → smAbove dflt lo (smPut dflt m k v) = true
  | lo, [], hk, _ => by
    unfold smPut
    by_cases hv : v = dflt k
    · simp [hv, smAbove]
    · simp [hv, smAbove, hk]
  | lo, (a, w) :: t, hk, hm => by
    unfold smPut
    by_cases h1 : a < k
    · simp only [h1, if_true]
      rw [smAbove_cons] at hm ⊢
      exact ⟨hm.1, hm.2.1, smAbove_smPut k v h1 hm.2.2⟩
    · simp only [h1, if_false]
      by_cases hv : v = dflt k
      · rw [if_pos hv]; exact smAbove_filter _ hm
      · simp only [hv, if_false]
        rw [smAbove_cons] at hm
        by_cases hka : k = a
        · subst hka
          rw [if_pos rfl, smAbove_cons]
          exact ⟨hk, hv, hm.2.2⟩
        · rw [if_neg hka, smAbove_cons, smAbove_cons]
          exact ⟨hk, hv, by omega, hm.2.1, hm.2.2⟩

/-- Every write keeps the canonical form. -/
theorem smWf_smPut [DecidableEq α] {dflt : Nat → α} {m : List (Nat × α)} (h : smWf dflt m = true) (k : Nat) (v : α) :
    smWf dflt (smPut dflt m k v) = true := smAbove_smPut k v (Nat.zero_le k) h

/-- Clearing a range keeps the canonical form. -/
theorem smWf_smClear [DecidableEq α] {dflt : Nat → α} {m : List (Nat × α)} (h : smWf dflt m = true) (lo hi : Nat) :
    smWf dflt (smClear m lo hi) = true := smAbove_filter _ h

theorem smWf_filter [DecidableEq α] {dflt : Nat → α} {m : List (Nat × α)} (h : smWf dflt m = true) (p : Nat × α → Bool) :
    smWf dflt (m.filter p) = true := smAbove_filter p h

@[simp] theorem smWf_nil [DecidableEq α] (dflt : Nat → α) : smWf dflt [] = true := rfl

/-- Two canonical maps that list the same values are the same list: equal maps are equal data. -/
theorem smAbove_ext [DecidableEq α] {dflt : Nat → α} :
    ∀ {lo : Nat} {m n : List (Nat × α)}, smAbove dflt lo m = true → smAbove dflt lo n = true →
      (∀ k, smFind m k = smFind n k) → m = n
  | _, [], [], _, _, _ => rfl
  | _, [], (b, w) :: _, _, _, he => by have := he b; simp [smFind_cons] at this
  | _, (a, v) :: _, [], _, _, he => by have := he a; simp [smFind_cons] at this
  | lo, (a, v) :: t, (b, w) :: u, hm, hn, he => by
    have below : ∀ {lo k : Nat} {m : List (Nat × α)}, smAbove dflt lo m = true → k < lo → smFind m k = none := by
      intro lo k m
      induction m generalizing lo with
      | nil => simp
      | cons e t ih =>
        obtain ⟨c, x⟩ := e
        intro h hk
        rw [smAbove_cons] at h
        rw [smFind_cons, if_neg (by omega)]
        exact ih h.2.2 (by omega)
    rw [smAbove_cons] at hm hn
    have hab : a = b := by
      rcases Nat.lt_trichotomy a b with h | h | h
      · have := he a
        rw [smFind_cons, if_pos rfl, smFind_cons, if_neg (by omega), below hn.2.2 (by omega)] at this
        simp at this
      · exact h
      · have := he b
        rw [smFind_cons, if_neg (by omega), smFind_cons, if_pos rfl, below hm.2.2 (by omega)] at this
        simp at this
    subst hab
    have hv : v = w := by simpa [smFind_cons] using he a
    subst hv
    have : t = u := smAbove_ext hm.2.2 hn.2.2 fun k => by
      by_cases hk : k = a
      · subst hk; rw [below hm.2.2 (by omega), below hn.2.2 (by omega)]
      · simpa [smFind_cons, Ne.symm hk] using he k
    rw [this]

/-! ### Bit fields -/

theorem bitsOf_lt (v hi lo : Nat) : bitsOf v hi lo < 2 ^ (hi + 1 - lo) := Nat.mod_lt _ (by positivity)

theorem bitsOf_testBit (v hi lo i : Nat) : (bitsOf v hi lo).testBit i = (decide (i < hi + 1 - lo) && v.testBit (lo + i)) := by
  simp [bitsOf, Nat.testBit_mod_two_pow, Nat.testBit_shiftRight]

/-- v splits into the bits above, in and below a field. -/
theorem bits_split (v lo w : Nat) :
    v = (v >>> (lo + w)) * 2 ^ (lo + w) + (v >>> lo) % 2 ^ w * 2 ^ lo + v % 2 ^ lo := by
  have h1 : v = v / 2 ^ lo * 2 ^ lo + v % 2 ^ lo := by rw [Nat.mul_comm]; exact (Nat.div_add_mod v (2 ^ lo)).symm
  have h2 : v / 2 ^ lo = v / 2 ^ lo / 2 ^ w * 2 ^ w + v / 2 ^ lo % 2 ^ w := by
    rw [Nat.mul_comm]; exact (Nat.div_add_mod _ (2 ^ w)).symm
  rw [Nat.shiftRight_eq_div_pow, Nat.shiftRight_eq_div_pow, pow_add, ← Nat.div_div_eq_div_mul]
  generalize v / 2 ^ lo / 2 ^ w = p at *
  generalize v / 2 ^ lo % 2 ^ w = q at *
  rw [h2] at h1
  calc v = (p * 2 ^ w + q) * 2 ^ lo + v % 2 ^ lo := h1
    _ = _ := by ring

theorem putBits_eq (v hi lo x : Nat) (h : lo ≤ hi) :
    putBits v hi lo x = (v >>> (hi + 1)) * 2 ^ (hi + 1) + (x % 2 ^ (hi + 1 - lo)) * 2 ^ lo + v % 2 ^ lo := by
  have hs := bits_split v lo (hi + 1 - lo)
  have hw : lo + (hi + 1 - lo) = hi + 1 := by omega
  rw [hw] at hs
  unfold putBits bitsOf
  omega

/-- Bit i of a number with a field replaced: the field's bits are the new ones, the others stay. -/
theorem putBits_testBit (v hi lo x i : Nat) (h : lo ≤ hi) :
    (putBits v hi lo x).testBit i = if lo ≤ i ∧ i ≤ hi then x.testBit (i - lo) else v.testBit i := by
  have key : putBits v hi lo x =
      (v >>> (hi + 1)) <<< (hi + 1) ||| ((x % 2 ^ (hi + 1 - lo)) <<< lo ||| v % 2 ^ lo) := by
    have hx : x % 2 ^ (hi + 1 - lo) < 2 ^ (hi + 1 - lo) := Nat.mod_lt _ (by positivity)
    have hv : v % 2 ^ lo < 2 ^ lo := Nat.mod_lt _ (by positivity)
    have hlow : (x % 2 ^ (hi + 1 - lo)) * 2 ^ lo + v % 2 ^ lo < 2 ^ (hi + 1) := by
      have hp : (2 : Nat) ^ (hi + 1) = 2 ^ (hi + 1 - lo) * 2 ^ lo := by rw [← pow_add]; congr 1; omega
      have : (x % 2 ^ (hi + 1 - lo) + 1) * 2 ^ lo ≤ 2 ^ (hi + 1 - lo) * 2 ^ lo := Nat.mul_le_mul_right _ hx
      rw [hp]; linarith
    rw [putBits_eq v hi lo x h, ← Nat.shiftLeft_add_eq_or_of_lt hv, ← Nat.shiftLeft_add_eq_or_of_lt
      (by rw [Nat.shiftLeft_eq]; exact hlow)]
    simp only [Nat.shiftLeft_eq]; omega
  rw [key]
  simp only [Nat.testBit_or, Nat.testBit_shiftLeft, Nat.testBit_shiftRight, Nat.testBit_mod_two_pow]
  by_cases h1 : lo ≤ i
  · by_cases h2 : i ≤ hi
    · have : ¬ (i ≥ hi + 1) := by omega
      have h3 : ¬ i < lo := by omega
      have h4 : i - lo < hi + 1 - lo := by omega
      simp [h1, h2, this, h3, h4]
    · have h3 : ¬ i < lo := by omega
      have h4 : ¬ (i - lo < hi + 1 - lo) := by omega
      have h5 : hi + 1 + (i - (hi + 1)) = i := by omega
      simp [h1, h2, h3, h4, h5]; intro; omega
  · have : ¬ (i ≥ hi + 1) := by omega
    simp [h1, this]; omega

theorem putBits_lt {v hi lo x n : Nat} (h : lo ≤ hi) (hn : hi < n) (hv : v < 2 ^ n) : putBits v hi lo x < 2 ^ n := by
  refine Nat.lt_pow_two_of_testBit _ fun i hi' => ?_
  rw [putBits_testBit v hi lo x i h, if_neg (by omega)]
  exact Nat.testBit_lt_two_pow (lt_of_lt_of_le hv (Nat.pow_le_pow_right (by norm_num) hi'))

/-- Reading the field just written. -/
theorem wget_wput_same (w : Word64) {hi lo : Nat} (h : lo ≤ hi) (hn : hi < 64) (x : Nat) :
    wget (wput w hi lo x) hi lo = x % 2 ^ (hi + 1 - lo) := by
  have hlt := putBits_lt (x := x) h hn w.isLt
  unfold wget wput
  rw [BitVec.toNat_ofNat, Nat.mod_eq_of_lt hlt]
  apply Nat.eq_of_testBit_eq
  intro i
  rw [bitsOf_testBit, putBits_testBit _ _ _ _ _ h, Nat.testBit_mod_two_pow]
  by_cases hi' : i < hi + 1 - lo
  · have : lo ≤ lo + i ∧ lo + i ≤ hi := by omega
    simp [hi', this]
  · simp [hi']

/-- Reading a field apart from the one just written. -/
theorem wget_wput_other (w : Word64) {hi lo hi' lo' : Nat} (h : lo ≤ hi) (hn : hi < 64)
    (hd : hi' < lo ∨ hi < lo') (x : Nat) : wget (wput w hi lo x) hi' lo' = wget w hi' lo' := by
  have hlt := putBits_lt (x := x) h hn w.isLt
  unfold wget wput
  rw [BitVec.toNat_ofNat, Nat.mod_eq_of_lt hlt]
  apply Nat.eq_of_testBit_eq
  intro i
  rw [bitsOf_testBit, bitsOf_testBit, putBits_testBit _ _ _ _ _ h]
  by_cases hi2 : i < hi' + 1 - lo'
  · rw [if_neg (by omega)]
  · simp [hi2]

/-! ### Little-endian bytes (R14) -/

@[simp] theorem leBytes_length (n v : Nat) : (leBytes n v).length = n := by
  induction n generalizing v with
  | zero => rfl
  | succ n ih => simp [leBytes, ih]

theorem ofLe_leBytes (n v : Nat) : ofLe (leBytes n v) = v % 2 ^ (8 * n) := by
  induction n generalizing v with
  | zero => simp [leBytes, ofLe, Nat.mod_one]
  | succ n ih =>
    simp only [leBytes, ofLe, ih, BitVec.toNat_ofNat]
    have : 2 ^ (8 * (n + 1)) = 256 * 2 ^ (8 * n) := by rw [Nat.mul_add, pow_add]; norm_num; ring
    rw [this, Nat.mod_mul]

theorem ofLe_lt (l : List Byte) : ofLe l < 2 ^ (8 * l.length) := by
  induction l with
  | nil => simp [ofLe]
  | cons b t ih =>
    simp only [ofLe, List.length_cons]
    have hb := b.isLt
    have : 2 ^ (8 * (t.length + 1)) = 256 * 2 ^ (8 * t.length) := by rw [Nat.mul_add, pow_add]; norm_num; ring
    rw [this]; omega

/-- Bytes are the little-endian bytes of the number they spell. -/
theorem leBytes_ofLe (l : List Byte) : leBytes l.length (ofLe l) = l := by
  induction l with
  | nil => rfl
  | cons b t ih =>
    simp only [ofLe, List.length_cons, leBytes]
    have hb := b.isLt
    have h1 : (b.toNat + 256 * ofLe t) / 256 = ofLe t := by omega
    have h2 : BitVec.ofNat 8 (b.toNat + 256 * ofLe t) = b := by
      apply BitVec.eq_of_toNat_eq; simp [BitVec.toNat_ofNat]
      omega
    rw [h1, h2, ih]

@[simp] theorem sliceB_length (l : List Byte) (off n : Nat) : (sliceB l off n).length = n := by
  simp only [sliceB, List.length_append, List.length_replicate, List.length_take, List.length_drop]
  omega

theorem leAt_lt (l : List Byte) (off n : Nat) : leAt l off n < 2 ^ (8 * n) := by
  have := ofLe_lt (sliceB l off n)
  rwa [sliceB_length] at this

end Sys2Proof.Machine
end

