-- ==== Sys2Proof/Laws/State.lean ====
section
/-!
SUPPORT. Sys2Proof/Laws/State.lean: what each named update of the device changes, field by field, so that no proof unfolds
a record update; and that every command answers a next state with the queue it was given.
-/

namespace Sys2Proof.Machine

@[simp] theorem act_eq (s : State) (f : Dev → Dev) : s.act f = .next { s with dev := f s.dev } := rfl

/-! ### setReg -/

@[simp] theorem Dev.setReg_regs (d : Dev) (off : Nat) (v : Word64) : (d.setReg off v).regs = smPut regReset d.regs off v := rfl
@[simp] theorem Dev.setReg_next (d : Dev) (off : Nat) (v : Word64) : (d.setReg off v).next = d.next := rfl
@[simp] theorem Dev.setReg_ram (d : Dev) (off : Nat) (v : Word64) : (d.setReg off v).ram = d.ram := rfl
@[simp] theorem Dev.setReg_host (d : Dev) (off : Nat) (v : Word64) : (d.setReg off v).host = d.host := rfl
@[simp] theorem Dev.setReg_cores (d : Dev) (off : Nat) (v : Word64) : (d.setReg off v).cores = d.cores := rfl
@[simp] theorem Dev.setReg_row (d : Dev) (off : Nat) (v : Word64) : (d.setReg off v).row = d.row := rfl
@[simp] theorem Dev.setReg_cp (d : Dev) (off : Nat) (v : Word64) : (d.setReg off v).cp = d.cp := rfl
@[simp] theorem Dev.setReg_svc (d : Dev) (off : Nat) (v : Word64) : (d.setReg off v).svc = d.svc := rfl
@[simp] theorem Dev.setReg_grid (d : Dev) (off : Nat) (v : Word64) : (d.setReg off v).grid = d.grid := rfl
@[simp] theorem Dev.setReg_net (d : Dev) (off : Nat) (v : Word64) : (d.setReg off v).net = d.net := rfl
@[simp] theorem Dev.setReg_drifts (d : Dev) (off : Nat) (v : Word64) : (d.setReg off v).drifts = d.drifts := rfl
@[simp] theorem Dev.setReg_fab (d : Dev) (off : Nat) (v : Word64) : (d.setReg off v).fab = d.fab := rfl
@[simp] theorem Dev.setReg_coll (d : Dev) (off : Nat) (v : Word64) : (d.setReg off v).coll = d.coll := rfl
@[simp] theorem Dev.setReg_canary (d : Dev) (off : Nat) (v : Word64) : (d.setReg off v).canary = d.canary := rfl
@[simp] theorem Dev.setReg_ft (d : Dev) (off : Nat) (v : Word64) : (d.setReg off v).ft = d.ft := rfl
@[simp] theorem Dev.setReg_tm (d : Dev) (off : Nat) (v : Word64) : (d.setReg off v).tm = d.tm := rfl
@[simp] theorem Dev.setReg_pw (d : Dev) (off : Nat) (v : Word64) : (d.setReg off v).pw = d.pw := rfl
@[simp] theorem Dev.setReg_tap (d : Dev) (off : Nat) (v : Word64) : (d.setReg off v).tap = d.tap := rfl
@[simp] theorem Dev.setReg_flash (d : Dev) (off : Nat) (v : Word64) : (d.setReg off v).flash = d.flash := rfl
@[simp] theorem Dev.setReg_fw (d : Dev) (off : Nat) (v : Word64) : (d.setReg off v).fw = d.fw := rfl
@[simp] theorem Dev.setReg_faults (d : Dev) (off : Nat) (v : Word64) : (d.setReg off v).faults = d.faults := rfl
@[simp] theorem Dev.setReg_freeCtr (d : Dev) (off : Nat) (v : Word64) : (d.setReg off v).freeCtr = d.freeCtr := rfl
@[simp] theorem Dev.setReg_nextId (d : Dev) (off : Nat) (v : Word64) : (d.setReg off v).nextId = d.nextId := rfl

/-! ### setFld -/

@[simp] theorem Dev.setFld_regs (d : Dev) (f : Fld) (v : Nat) : (d.setFld f v).regs = smPut regReset d.regs f.off (wput (d.reg f.off) f.hi f.lo v) := rfl
@[simp] theorem Dev.setFld_next (d : Dev) (f : Fld) (v : Nat) : (d.setFld f v).next = d.next := rfl
@[simp] theorem Dev.setFld_ram (d : Dev) (f : Fld) (v : Nat) : (d.setFld f v).ram = d.ram := rfl
@[simp] theorem Dev.setFld_host (d : Dev) (f : Fld) (v : Nat) : (d.setFld f v).host = d.host := rfl
@[simp] theorem Dev.setFld_cores (d : Dev) (f : Fld) (v : Nat) : (d.setFld f v).cores = d.cores := rfl
@[simp] theorem Dev.setFld_row (d : Dev) (f : Fld) (v : Nat) : (d.setFld f v).row = d.row := rfl
@[simp] theorem Dev.setFld_cp (d : Dev) (f : Fld) (v : Nat) : (d.setFld f v).cp = d.cp := rfl
@[simp] theorem Dev.setFld_svc (d : Dev) (f : Fld) (v : Nat) : (d.setFld f v).svc = d.svc := rfl
@[simp] theorem Dev.setFld_grid (d : Dev) (f : Fld) (v : Nat) : (d.setFld f v).grid = d.grid := rfl
@[simp] theorem Dev.setFld_net (d : Dev) (f : Fld) (v : Nat) : (d.setFld f v).net = d.net := rfl
@[simp] theorem Dev.setFld_drifts (d : Dev) (f : Fld) (v : Nat) : (d.setFld f v).drifts = d.drifts := rfl
@[simp] theorem Dev.setFld_fab (d : Dev) (f : Fld) (v : Nat) : (d.setFld f v).fab = d.fab := rfl
@[simp] theorem Dev.setFld_coll (d : Dev) (f : Fld) (v : Nat) : (d.setFld f v).coll = d.coll := rfl
@[simp] theorem Dev.setFld_canary (d : Dev) (f : Fld) (v : Nat) : (d.setFld f v).canary = d.canary := rfl
@[simp] theorem Dev.setFld_ft (d : Dev) (f : Fld) (v : Nat) : (d.setFld f v).ft = d.ft := rfl
@[simp] theorem Dev.setFld_tm (d : Dev) (f : Fld) (v : Nat) : (d.setFld f v).tm = d.tm := rfl
@[simp] theorem Dev.setFld_pw (d : Dev) (f : Fld) (v : Nat) : (d.setFld f v).pw = d.pw := rfl
@[simp] theorem Dev.setFld_tap (d : Dev) (f : Fld) (v : Nat) : (d.setFld f v).tap = d.tap := rfl
@[simp] theorem Dev.setFld_flash (d : Dev) (f : Fld) (v : Nat) : (d.setFld f v).flash = d.flash := rfl
@[simp] theorem Dev.setFld_fw (d : Dev) (f : Fld) (v : Nat) : (d.setFld f v).fw = d.fw := rfl
@[simp] theorem Dev.setFld_faults (d : Dev) (f : Fld) (v : Nat) : (d.setFld f v).faults = d.faults := rfl
@[simp] theorem Dev.setFld_freeCtr (d : Dev) (f : Fld) (v : Nat) : (d.setFld f v).freeCtr = d.freeCtr := rfl
@[simp] theorem Dev.setFld_nextId (d : Dev) (f : Fld) (v : Nat) : (d.setFld f v).nextId = d.nextId := rfl

/-! ### countSat -/

@[simp] theorem Dev.countSat_next (d : Dev) (f : Fld) (n : Nat) : (d.countSat f n).next = d.next := rfl
@[simp] theorem Dev.countSat_ram (d : Dev) (f : Fld) (n : Nat) : (d.countSat f n).ram = d.ram := rfl
@[simp] theorem Dev.countSat_host (d : Dev) (f : Fld) (n : Nat) : (d.countSat f n).host = d.host := rfl
@[simp] theorem Dev.countSat_cores (d : Dev) (f : Fld) (n : Nat) : (d.countSat f n).cores = d.cores := rfl
@[simp] theorem Dev.countSat_row (d : Dev) (f : Fld) (n : Nat) : (d.countSat f n).row = d.row := rfl
@[simp] theorem Dev.countSat_cp (d : Dev) (f : Fld) (n : Nat) : (d.countSat f n).cp = d.cp := rfl
@[simp] theorem Dev.countSat_svc (d : Dev) (f : Fld) (n : Nat) : (d.countSat f n).svc = d.svc := rfl
@[simp] theorem Dev.countSat_grid (d : Dev) (f : Fld) (n : Nat) : (d.countSat f n).grid = d.grid := rfl
@[simp] theorem Dev.countSat_net (d : Dev) (f : Fld) (n : Nat) : (d.countSat f n).net = d.net := rfl
@[simp] theorem Dev.countSat_drifts (d : Dev) (f : Fld) (n : Nat) : (d.countSat f n).drifts = d.drifts := rfl
@[simp] theorem Dev.countSat_fab (d : Dev) (f : Fld) (n : Nat) : (d.countSat f n).fab = d.fab := rfl
@[simp] theorem Dev.countSat_coll (d : Dev) (f : Fld) (n : Nat) : (d.countSat f n).coll = d.coll := rfl
@[simp] theorem Dev.countSat_canary (d : Dev) (f : Fld) (n : Nat) : (d.countSat f n).canary = d.canary := rfl
@[simp] theorem Dev.countSat_ft (d : Dev) (f : Fld) (n : Nat) : (d.countSat f n).ft = d.ft := rfl
@[simp] theorem Dev.countSat_tm (d : Dev) (f : Fld) (n : Nat) : (d.countSat f n).tm = d.tm := rfl
@[simp] theorem Dev.countSat_pw (d : Dev) (f : Fld) (n : Nat) : (d.countSat f n).pw = d.pw := rfl
@[simp] theorem Dev.countSat_tap (d : Dev) (f : Fld) (n : Nat) : (d.countSat f n).tap = d.tap := rfl
@[simp] theorem Dev.countSat_flash (d : Dev) (f : Fld) (n : Nat) : (d.countSat f n).flash = d.flash := rfl
@[simp] theorem Dev.countSat_fw (d : Dev) (f : Fld) (n : Nat) : (d.countSat f n).fw = d.fw := rfl
@[simp] theorem Dev.countSat_faults (d : Dev) (f : Fld) (n : Nat) : (d.countSat f n).faults = d.faults := rfl
@[simp] theorem Dev.countSat_freeCtr (d : Dev) (f : Fld) (n : Nat) : (d.countSat f n).freeCtr = d.freeCtr := rfl
@[simp] theorem Dev.countSat_nextId (d : Dev) (f : Fld) (n : Nat) : (d.countSat f n).nextId = d.nextId := rfl

/-! ### resetRegs -/

@[simp] theorem Dev.resetRegs_ram (d : Dev) (lo hi : Nat) : (d.resetRegs lo hi).ram = d.ram := rfl
@[simp] theorem Dev.resetRegs_host (d : Dev) (lo hi : Nat) : (d.resetRegs lo hi).host = d.host := rfl
@[simp] theorem Dev.resetRegs_cores (d : Dev) (lo hi : Nat) : (d.resetRegs lo hi).cores = d.cores := rfl
@[simp] theorem Dev.resetRegs_row (d : Dev) (lo hi : Nat) : (d.resetRegs lo hi).row = d.row := rfl
@[simp] theorem Dev.resetRegs_cp (d : Dev) (lo hi : Nat) : (d.resetRegs lo hi).cp = d.cp := rfl
@[simp] theorem Dev.resetRegs_svc (d : Dev) (lo hi : Nat) : (d.resetRegs lo hi).svc = d.svc := rfl
@[simp] theorem Dev.resetRegs_grid (d : Dev) (lo hi : Nat) : (d.resetRegs lo hi).grid = d.grid := rfl
@[simp] theorem Dev.resetRegs_net (d : Dev) (lo hi : Nat) : (d.resetRegs lo hi).net = d.net := rfl
@[simp] theorem Dev.resetRegs_drifts (d : Dev) (lo hi : Nat) : (d.resetRegs lo hi).drifts = d.drifts := rfl
@[simp] theorem Dev.resetRegs_fab (d : Dev) (lo hi : Nat) : (d.resetRegs lo hi).fab = d.fab := rfl
@[simp] theorem Dev.resetRegs_coll (d : Dev) (lo hi : Nat) : (d.resetRegs lo hi).coll = d.coll := rfl
@[simp] theorem Dev.resetRegs_canary (d : Dev) (lo hi : Nat) : (d.resetRegs lo hi).canary = d.canary := rfl
@[simp] theorem Dev.resetRegs_ft (d : Dev) (lo hi : Nat) : (d.resetRegs lo hi).ft = d.ft := rfl
@[simp] theorem Dev.resetRegs_tm (d : Dev) (lo hi : Nat) : (d.resetRegs lo hi).tm = d.tm := rfl
@[simp] theorem Dev.resetRegs_pw (d : Dev) (lo hi : Nat) : (d.resetRegs lo hi).pw = d.pw := rfl
@[simp] theorem Dev.resetRegs_tap (d : Dev) (lo hi : Nat) : (d.resetRegs lo hi).tap = d.tap := rfl
@[simp] theorem Dev.resetRegs_flash (d : Dev) (lo hi : Nat) : (d.resetRegs lo hi).flash = d.flash := rfl
@[simp] theorem Dev.resetRegs_fw (d : Dev) (lo hi : Nat) : (d.resetRegs lo hi).fw = d.fw := rfl
@[simp] theorem Dev.resetRegs_faults (d : Dev) (lo hi : Nat) : (d.resetRegs lo hi).faults = d.faults := rfl
@[simp] theorem Dev.resetRegs_freeCtr (d : Dev) (lo hi : Nat) : (d.resetRegs lo hi).freeCtr = d.freeCtr := rfl
@[simp] theorem Dev.resetRegs_nextId (d : Dev) (lo hi : Nat) : (d.resetRegs lo hi).nextId = d.nextId := rfl

/-! ### draw -/

@[simp] theorem Dev.draw_regs (d : Dev) (n : Nat) : (d.draw n).regs = d.regs := rfl
@[simp] theorem Dev.draw_next (d : Dev) (n : Nat) : (d.draw n).next = d.next := rfl
@[simp] theorem Dev.draw_ram (d : Dev) (n : Nat) : (d.draw n).ram = d.ram := rfl
@[simp] theorem Dev.draw_host (d : Dev) (n : Nat) : (d.draw n).host = d.host := rfl
@[simp] theorem Dev.draw_cores (d : Dev) (n : Nat) : (d.draw n).cores = d.cores := rfl
@[simp] theorem Dev.draw_row (d : Dev) (n : Nat) : (d.draw n).row = d.row := rfl
@[simp] theorem Dev.draw_cp (d : Dev) (n : Nat) : (d.draw n).cp = d.cp := rfl
@[simp] theorem Dev.draw_svc (d : Dev) (n : Nat) : (d.draw n).svc = d.svc := rfl
@[simp] theorem Dev.draw_grid (d : Dev) (n : Nat) : (d.draw n).grid = d.grid := rfl
@[simp] theorem Dev.draw_net (d : Dev) (n : Nat) : (d.draw n).net = d.net := rfl
@[simp] theorem Dev.draw_drifts (d : Dev) (n : Nat) : (d.draw n).drifts = d.drifts := rfl
@[simp] theorem Dev.draw_fab (d : Dev) (n : Nat) : (d.draw n).fab = d.fab := rfl
@[simp] theorem Dev.draw_coll (d : Dev) (n : Nat) : (d.draw n).coll = d.coll := rfl
@[simp] theorem Dev.draw_canary (d : Dev) (n : Nat) : (d.draw n).canary = d.canary := rfl
@[simp] theorem Dev.draw_ft (d : Dev) (n : Nat) : (d.draw n).ft = d.ft := rfl
@[simp] theorem Dev.draw_tm (d : Dev) (n : Nat) : (d.draw n).tm = d.tm := rfl
@[simp] theorem Dev.draw_pw (d : Dev) (n : Nat) : (d.draw n).pw = d.pw := rfl
@[simp] theorem Dev.draw_tap (d : Dev) (n : Nat) : (d.draw n).tap = d.tap := rfl
@[simp] theorem Dev.draw_flash (d : Dev) (n : Nat) : (d.draw n).flash = d.flash := rfl
@[simp] theorem Dev.draw_fw (d : Dev) (n : Nat) : (d.draw n).fw = d.fw := rfl
@[simp] theorem Dev.draw_faults (d : Dev) (n : Nat) : (d.draw n).faults = d.faults := rfl
@[simp] theorem Dev.draw_freeCtr (d : Dev) (n : Nat) : (d.draw n).freeCtr = d.freeCtr + n := rfl
@[simp] theorem Dev.draw_nextId (d : Dev) (n : Nat) : (d.draw n).nextId = d.nextId := rfl

/-! ### bump -/

@[simp] theorem Dev.bump_regs (d : Dev) : (d.bump).regs = d.regs := rfl
@[simp] theorem Dev.bump_next (d : Dev) : (d.bump).next = d.next := rfl
@[simp] theorem Dev.bump_ram (d : Dev) : (d.bump).ram = d.ram := rfl
@[simp] theorem Dev.bump_host (d : Dev) : (d.bump).host = d.host := rfl
@[simp] theorem Dev.bump_cores (d : Dev) : (d.bump).cores = d.cores := rfl
@[simp] theorem Dev.bump_row (d : Dev) : (d.bump).row = d.row := rfl
@[simp] theorem Dev.bump_cp (d : Dev) : (d.bump).cp = d.cp := rfl
@[simp] theorem Dev.bump_svc (d : Dev) : (d.bump).svc = d.svc := rfl
@[simp] theorem Dev.bump_grid (d : Dev) : (d.bump).grid = d.grid := rfl
@[simp] theorem Dev.bump_net (d : Dev) : (d.bump).net = d.net := rfl
@[simp] theorem Dev.bump_drifts (d : Dev) : (d.bump).drifts = d.drifts := rfl
@[simp] theorem Dev.bump_fab (d : Dev) : (d.bump).fab = d.fab := rfl
@[simp] theorem Dev.bump_coll (d : Dev) : (d.bump).coll = d.coll := rfl
@[simp] theorem Dev.bump_canary (d : Dev) : (d.bump).canary = d.canary := rfl
@[simp] theorem Dev.bump_ft (d : Dev) : (d.bump).ft = d.ft := rfl
@[simp] theorem Dev.bump_tm (d : Dev) : (d.bump).tm = d.tm := rfl
@[simp] theorem Dev.bump_pw (d : Dev) : (d.bump).pw = d.pw := rfl
@[simp] theorem Dev.bump_tap (d : Dev) : (d.bump).tap = d.tap := rfl
@[simp] theorem Dev.bump_flash (d : Dev) : (d.bump).flash = d.flash := rfl
@[simp] theorem Dev.bump_fw (d : Dev) : (d.bump).fw = d.fw := rfl
@[simp] theorem Dev.bump_faults (d : Dev) : (d.bump).faults = d.faults := rfl
@[simp] theorem Dev.bump_freeCtr (d : Dev) : (d.bump).freeCtr = d.freeCtr := rfl
@[simp] theorem Dev.bump_nextId (d : Dev) : (d.bump).nextId = d.nextId + 1 := rfl

/-! ### hostWrite -/

@[simp] theorem Dev.hostWrite_regs (d : Dev) (a : Nat) (l : List Byte) : (d.hostWrite a l).regs = d.regs := rfl
@[simp] theorem Dev.hostWrite_next (d : Dev) (a : Nat) (l : List Byte) : (d.hostWrite a l).next = d.next := rfl
@[simp] theorem Dev.hostWrite_ram (d : Dev) (a : Nat) (l : List Byte) : (d.hostWrite a l).ram = d.ram := rfl
@[simp] theorem Dev.hostWrite_host (d : Dev) (a : Nat) (l : List Byte) : (d.hostWrite a l).host = putBytes d.host a l := rfl
@[simp] theorem Dev.hostWrite_cores (d : Dev) (a : Nat) (l : List Byte) : (d.hostWrite a l).cores = d.cores := rfl
@[simp] theorem Dev.hostWrite_row (d : Dev) (a : Nat) (l : List Byte) : (d.hostWrite a l).row = d.row := rfl
@[simp] theorem Dev.hostWrite_cp (d : Dev) (a : Nat) (l : List Byte) : (d.hostWrite a l).cp = d.cp := rfl
@[simp] theorem Dev.hostWrite_svc (d : Dev) (a : Nat) (l : List Byte) : (d.hostWrite a l).svc = d.svc := rfl
@[simp] theorem Dev.hostWrite_grid (d : Dev) (a : Nat) (l : List Byte) : (d.hostWrite a l).grid = d.grid := rfl
@[simp] theorem Dev.hostWrite_net (d : Dev) (a : Nat) (l : List Byte) : (d.hostWrite a l).net = d.net := rfl
@[simp] theorem Dev.hostWrite_drifts (d : Dev) (a : Nat) (l : List Byte) : (d.hostWrite a l).drifts = d.drifts := rfl
@[simp] theorem Dev.hostWrite_fab (d : Dev) (a : Nat) (l : List Byte) : (d.hostWrite a l).fab = d.fab := rfl
@[simp] theorem Dev.hostWrite_coll (d : Dev) (a : Nat) (l : List Byte) : (d.hostWrite a l).coll = d.coll := rfl
@[simp] theorem Dev.hostWrite_canary (d : Dev) (a : Nat) (l : List Byte) : (d.hostWrite a l).canary = d.canary := rfl
@[simp] theorem Dev.hostWrite_ft (d : Dev) (a : Nat) (l : List Byte) : (d.hostWrite a l).ft = d.ft := rfl
@[simp] theorem Dev.hostWrite_tm (d : Dev) (a : Nat) (l : List Byte) : (d.hostWrite a l).tm = d.tm := rfl
@[simp] theorem Dev.hostWrite_pw (d : Dev) (a : Nat) (l : List Byte) : (d.hostWrite a l).pw = d.pw := rfl
@[simp] theorem Dev.hostWrite_tap (d : Dev) (a : Nat) (l : List Byte) : (d.hostWrite a l).tap = d.tap := rfl
@[simp] theorem Dev.hostWrite_flash (d : Dev) (a : Nat) (l : List Byte) : (d.hostWrite a l).flash = d.flash := rfl
@[simp] theorem Dev.hostWrite_fw (d : Dev) (a : Nat) (l : List Byte) : (d.hostWrite a l).fw = d.fw := rfl
@[simp] theorem Dev.hostWrite_faults (d : Dev) (a : Nat) (l : List Byte) : (d.hostWrite a l).faults = d.faults := rfl
@[simp] theorem Dev.hostWrite_freeCtr (d : Dev) (a : Nat) (l : List Byte) : (d.hostWrite a l).freeCtr = d.freeCtr := rfl
@[simp] theorem Dev.hostWrite_nextId (d : Dev) (a : Nat) (l : List Byte) : (d.hostWrite a l).nextId = d.nextId := rfl

/-! ### setCore -/

@[simp] theorem Dev.setCore_regs (d : Dev) (k : Nat) (c : Core) : (d.setCore k c).regs = d.regs := rfl
@[simp] theorem Dev.setCore_next (d : Dev) (k : Nat) (c : Core) : (d.setCore k c).next = d.next := rfl
@[simp] theorem Dev.setCore_ram (d : Dev) (k : Nat) (c : Core) : (d.setCore k c).ram = d.ram := rfl
@[simp] theorem Dev.setCore_host (d : Dev) (k : Nat) (c : Core) : (d.setCore k c).host = d.host := rfl
@[simp] theorem Dev.setCore_cores (d : Dev) (k : Nat) (c : Core) : (d.setCore k c).cores = smPut (fun _ => Core.fresh) d.cores k c := rfl
@[simp] theorem Dev.setCore_row (d : Dev) (k : Nat) (c : Core) : (d.setCore k c).row = d.row := rfl
@[simp] theorem Dev.setCore_cp (d : Dev) (k : Nat) (c : Core) : (d.setCore k c).cp = d.cp := rfl
@[simp] theorem Dev.setCore_svc (d : Dev) (k : Nat) (c : Core) : (d.setCore k c).svc = d.svc := rfl
@[simp] theorem Dev.setCore_grid (d : Dev) (k : Nat) (c : Core) : (d.setCore k c).grid = d.grid := rfl
@[simp] theorem Dev.setCore_net (d : Dev) (k : Nat) (c : Core) : (d.setCore k c).net = d.net := rfl
@[simp] theorem Dev.setCore_drifts (d : Dev) (k : Nat) (c : Core) : (d.setCore k c).drifts = d.drifts := rfl
@[simp] theorem Dev.setCore_fab (d : Dev) (k : Nat) (c : Core) : (d.setCore k c).fab = d.fab := rfl
@[simp] theorem Dev.setCore_coll (d : Dev) (k : Nat) (c : Core) : (d.setCore k c).coll = d.coll := rfl
@[simp] theorem Dev.setCore_canary (d : Dev) (k : Nat) (c : Core) : (d.setCore k c).canary = d.canary := rfl
@[simp] theorem Dev.setCore_ft (d : Dev) (k : Nat) (c : Core) : (d.setCore k c).ft = d.ft := rfl
@[simp] theorem Dev.setCore_tm (d : Dev) (k : Nat) (c : Core) : (d.setCore k c).tm = d.tm := rfl
@[simp] theorem Dev.setCore_pw (d : Dev) (k : Nat) (c : Core) : (d.setCore k c).pw = d.pw := rfl
@[simp] theorem Dev.setCore_tap (d : Dev) (k : Nat) (c : Core) : (d.setCore k c).tap = d.tap := rfl
@[simp] theorem Dev.setCore_flash (d : Dev) (k : Nat) (c : Core) : (d.setCore k c).flash = d.flash := rfl
@[simp] theorem Dev.setCore_fw (d : Dev) (k : Nat) (c : Core) : (d.setCore k c).fw = d.fw := rfl
@[simp] theorem Dev.setCore_faults (d : Dev) (k : Nat) (c : Core) : (d.setCore k c).faults = d.faults := rfl
@[simp] theorem Dev.setCore_freeCtr (d : Dev) (k : Nat) (c : Core) : (d.setCore k c).freeCtr = d.freeCtr := rfl
@[simp] theorem Dev.setCore_nextId (d : Dev) (k : Nat) (c : Core) : (d.setCore k c).nextId = d.nextId := rfl

/-! ### modCore -/

@[simp] theorem Dev.modCore_regs (d : Dev) (k : Nat) (f : Core → Core) : (d.modCore k f).regs = d.regs := rfl
@[simp] theorem Dev.modCore_next (d : Dev) (k : Nat) (f : Core → Core) : (d.modCore k f).next = d.next := rfl
@[simp] theorem Dev.modCore_ram (d : Dev) (k : Nat) (f : Core → Core) : (d.modCore k f).ram = d.ram := rfl
@[simp] theorem Dev.modCore_host (d : Dev) (k : Nat) (f : Core → Core) : (d.modCore k f).host = d.host := rfl
@[simp] theorem Dev.modCore_cores (d : Dev) (k : Nat) (f : Core → Core) : (d.modCore k f).cores = smPut (fun _ => Core.fresh) d.cores k (f (d.core k)) := rfl
@[simp] theorem Dev.modCore_row (d : Dev) (k : Nat) (f : Core → Core) : (d.modCore k f).row = d.row := rfl
@[simp] theorem Dev.modCore_cp (d : Dev) (k : Nat) (f : Core → Core) : (d.modCore k f).cp = d.cp := rfl
@[simp] theorem Dev.modCore_svc (d : Dev) (k : Nat) (f : Core → Core) : (d.modCore k f).svc = d.svc := rfl
@[simp] theorem Dev.modCore_grid (d : Dev) (k : Nat) (f : Core → Core) : (d.modCore k f).grid = d.grid := rfl
@[simp] theorem Dev.modCore_net (d : Dev) (k : Nat) (f : Core → Core) : (d.modCore k f).net = d.net := rfl
@[simp] theorem Dev.modCore_drifts (d : Dev) (k : Nat) (f : Core → Core) : (d.modCore k f).drifts = d.drifts := rfl
@[simp] theorem Dev.modCore_fab (d : Dev) (k : Nat) (f : Core → Core) : (d.modCore k f).fab = d.fab := rfl
@[simp] theorem Dev.modCore_coll (d : Dev) (k : Nat) (f : Core → Core) : (d.modCore k f).coll = d.coll := rfl
@[simp] theorem Dev.modCore_canary (d : Dev) (k : Nat) (f : Core → Core) : (d.modCore k f).canary = d.canary := rfl
@[simp] theorem Dev.modCore_ft (d : Dev) (k : Nat) (f : Core → Core) : (d.modCore k f).ft = d.ft := rfl
@[simp] theorem Dev.modCore_tm (d : Dev) (k : Nat) (f : Core → Core) : (d.modCore k f).tm = d.tm := rfl
@[simp] theorem Dev.modCore_pw (d : Dev) (k : Nat) (f : Core → Core) : (d.modCore k f).pw = d.pw := rfl
@[simp] theorem Dev.modCore_tap (d : Dev) (k : Nat) (f : Core → Core) : (d.modCore k f).tap = d.tap := rfl
@[simp] theorem Dev.modCore_flash (d : Dev) (k : Nat) (f : Core → Core) : (d.modCore k f).flash = d.flash := rfl
@[simp] theorem Dev.modCore_fw (d : Dev) (k : Nat) (f : Core → Core) : (d.modCore k f).fw = d.fw := rfl
@[simp] theorem Dev.modCore_faults (d : Dev) (k : Nat) (f : Core → Core) : (d.modCore k f).faults = d.faults := rfl
@[simp] theorem Dev.modCore_freeCtr (d : Dev) (k : Nat) (f : Core → Core) : (d.modCore k f).freeCtr = d.freeCtr := rfl
@[simp] theorem Dev.modCore_nextId (d : Dev) (k : Nat) (f : Core → Core) : (d.modCore k f).nextId = d.nextId := rfl

/-! ### raise -/

@[simp] theorem Dev.raise_regs (d : Dev) (src level d0 d1 : Nat) : (d.raise src level d0 d1).regs = d.regs := rfl
@[simp] theorem Dev.raise_next (d : Dev) (src level d0 d1 : Nat) : (d.raise src level d0 d1).next = d.next := rfl
@[simp] theorem Dev.raise_ram (d : Dev) (src level d0 d1 : Nat) : (d.raise src level d0 d1).ram = d.ram := rfl
@[simp] theorem Dev.raise_host (d : Dev) (src level d0 d1 : Nat) : (d.raise src level d0 d1).host = d.host := rfl
@[simp] theorem Dev.raise_cores (d : Dev) (src level d0 d1 : Nat) : (d.raise src level d0 d1).cores = d.cores := rfl
@[simp] theorem Dev.raise_row (d : Dev) (src level d0 d1 : Nat) : (d.raise src level d0 d1).row = d.row := rfl
@[simp] theorem Dev.raise_cp (d : Dev) (src level d0 d1 : Nat) : (d.raise src level d0 d1).cp = d.cp := rfl
@[simp] theorem Dev.raise_svc (d : Dev) (src level d0 d1 : Nat) : (d.raise src level d0 d1).svc = d.svc := rfl
@[simp] theorem Dev.raise_grid (d : Dev) (src level d0 d1 : Nat) : (d.raise src level d0 d1).grid = d.grid := rfl
@[simp] theorem Dev.raise_net (d : Dev) (src level d0 d1 : Nat) : (d.raise src level d0 d1).net = d.net := rfl
@[simp] theorem Dev.raise_drifts (d : Dev) (src level d0 d1 : Nat) : (d.raise src level d0 d1).drifts = d.drifts := rfl
@[simp] theorem Dev.raise_fab (d : Dev) (src level d0 d1 : Nat) : (d.raise src level d0 d1).fab = d.fab := rfl
@[simp] theorem Dev.raise_coll (d : Dev) (src level d0 d1 : Nat) : (d.raise src level d0 d1).coll = d.coll := rfl
@[simp] theorem Dev.raise_canary (d : Dev) (src level d0 d1 : Nat) : (d.raise src level d0 d1).canary = d.canary := rfl
@[simp] theorem Dev.raise_ft (d : Dev) (src level d0 d1 : Nat) : (d.raise src level d0 d1).ft = d.ft := rfl
@[simp] theorem Dev.raise_tm (d : Dev) (src level d0 d1 : Nat) : (d.raise src level d0 d1).tm = d.tm := rfl
@[simp] theorem Dev.raise_pw (d : Dev) (src level d0 d1 : Nat) : (d.raise src level d0 d1).pw = d.pw := rfl
@[simp] theorem Dev.raise_tap (d : Dev) (src level d0 d1 : Nat) : (d.raise src level d0 d1).tap = d.tap := rfl
@[simp] theorem Dev.raise_flash (d : Dev) (src level d0 d1 : Nat) : (d.raise src level d0 d1).flash = d.flash := rfl
@[simp] theorem Dev.raise_fw (d : Dev) (src level d0 d1 : Nat) : (d.raise src level d0 d1).fw = d.fw := rfl
@[simp] theorem Dev.raise_faults (d : Dev) (src level d0 d1 : Nat) : (d.raise src level d0 d1).faults = d.faults ++ [⟨src, level, d0, d1⟩] := rfl
@[simp] theorem Dev.raise_freeCtr (d : Dev) (src level d0 d1 : Nat) : (d.raise src level d0 d1).freeCtr = d.freeCtr := rfl
@[simp] theorem Dev.raise_nextId (d : Dev) (src level d0 d1 : Nat) : (d.raise src level d0 d1).nextId = d.nextId := rfl

/-! ### setActive -/

@[simp] theorem Dev.setActive_next (d : Dev) (src : Nat) (b : Bool) : (d.setActive src b).next = d.next := rfl
@[simp] theorem Dev.setActive_ram (d : Dev) (src : Nat) (b : Bool) : (d.setActive src b).ram = d.ram := rfl
@[simp] theorem Dev.setActive_host (d : Dev) (src : Nat) (b : Bool) : (d.setActive src b).host = d.host := rfl
@[simp] theorem Dev.setActive_cores (d : Dev) (src : Nat) (b : Bool) : (d.setActive src b).cores = d.cores := rfl
@[simp] theorem Dev.setActive_row (d : Dev) (src : Nat) (b : Bool) : (d.setActive src b).row = d.row := rfl
@[simp] theorem Dev.setActive_cp (d : Dev) (src : Nat) (b : Bool) : (d.setActive src b).cp = d.cp := rfl
@[simp] theorem Dev.setActive_svc (d : Dev) (src : Nat) (b : Bool) : (d.setActive src b).svc = d.svc := rfl
@[simp] theorem Dev.setActive_grid (d : Dev) (src : Nat) (b : Bool) : (d.setActive src b).grid = d.grid := rfl
@[simp] theorem Dev.setActive_net (d : Dev) (src : Nat) (b : Bool) : (d.setActive src b).net = d.net := rfl
@[simp] theorem Dev.setActive_drifts (d : Dev) (src : Nat) (b : Bool) : (d.setActive src b).drifts = d.drifts := rfl
@[simp] theorem Dev.setActive_fab (d : Dev) (src : Nat) (b : Bool) : (d.setActive src b).fab = d.fab := rfl
@[simp] theorem Dev.setActive_coll (d : Dev) (src : Nat) (b : Bool) : (d.setActive src b).coll = d.coll := rfl
@[simp] theorem Dev.setActive_canary (d : Dev) (src : Nat) (b : Bool) : (d.setActive src b).canary = d.canary := rfl
@[simp] theorem Dev.setActive_ft (d : Dev) (src : Nat) (b : Bool) : (d.setActive src b).ft = d.ft := rfl
@[simp] theorem Dev.setActive_tm (d : Dev) (src : Nat) (b : Bool) : (d.setActive src b).tm = d.tm := rfl
@[simp] theorem Dev.setActive_pw (d : Dev) (src : Nat) (b : Bool) : (d.setActive src b).pw = d.pw := rfl
@[simp] theorem Dev.setActive_tap (d : Dev) (src : Nat) (b : Bool) : (d.setActive src b).tap = d.tap := rfl
@[simp] theorem Dev.setActive_flash (d : Dev) (src : Nat) (b : Bool) : (d.setActive src b).flash = d.flash := rfl
@[simp] theorem Dev.setActive_fw (d : Dev) (src : Nat) (b : Bool) : (d.setActive src b).fw = d.fw := rfl
@[simp] theorem Dev.setActive_faults (d : Dev) (src : Nat) (b : Bool) : (d.setActive src b).faults = d.faults := rfl
@[simp] theorem Dev.setActive_freeCtr (d : Dev) (src : Nat) (b : Bool) : (d.setActive src b).freeCtr = d.freeCtr := rfl
@[simp] theorem Dev.setActive_nextId (d : Dev) (src : Nat) (b : Bool) : (d.setActive src b).nextId = d.nextId := rfl

/-! ### modCmd -/

@[simp] theorem Dev.modCmd_regs (d : Dev) (id : Nat) (f : Cmd → Cmd) : (d.modCmd id f).regs = d.regs := rfl
@[simp] theorem Dev.modCmd_next (d : Dev) (id : Nat) (f : Cmd → Cmd) : (d.modCmd id f).next = d.next := rfl
@[simp] theorem Dev.modCmd_ram (d : Dev) (id : Nat) (f : Cmd → Cmd) : (d.modCmd id f).ram = d.ram := rfl
@[simp] theorem Dev.modCmd_host (d : Dev) (id : Nat) (f : Cmd → Cmd) : (d.modCmd id f).host = d.host := rfl
@[simp] theorem Dev.modCmd_cores (d : Dev) (id : Nat) (f : Cmd → Cmd) : (d.modCmd id f).cores = d.cores := rfl
@[simp] theorem Dev.modCmd_row (d : Dev) (id : Nat) (f : Cmd → Cmd) : (d.modCmd id f).row = d.row := rfl
@[simp] theorem Dev.modCmd_svc (d : Dev) (id : Nat) (f : Cmd → Cmd) : (d.modCmd id f).svc = d.svc := rfl
@[simp] theorem Dev.modCmd_grid (d : Dev) (id : Nat) (f : Cmd → Cmd) : (d.modCmd id f).grid = d.grid := rfl
@[simp] theorem Dev.modCmd_net (d : Dev) (id : Nat) (f : Cmd → Cmd) : (d.modCmd id f).net = d.net := rfl
@[simp] theorem Dev.modCmd_drifts (d : Dev) (id : Nat) (f : Cmd → Cmd) : (d.modCmd id f).drifts = d.drifts := rfl
@[simp] theorem Dev.modCmd_fab (d : Dev) (id : Nat) (f : Cmd → Cmd) : (d.modCmd id f).fab = d.fab := rfl
@[simp] theorem Dev.modCmd_coll (d : Dev) (id : Nat) (f : Cmd → Cmd) : (d.modCmd id f).coll = d.coll := rfl
@[simp] theorem Dev.modCmd_canary (d : Dev) (id : Nat) (f : Cmd → Cmd) : (d.modCmd id f).canary = d.canary := rfl
@[simp] theorem Dev.modCmd_ft (d : Dev) (id : Nat) (f : Cmd → Cmd) : (d.modCmd id f).ft = d.ft := rfl
@[simp] theorem Dev.modCmd_tm (d : Dev) (id : Nat) (f : Cmd → Cmd) : (d.modCmd id f).tm = d.tm := rfl
@[simp] theorem Dev.modCmd_pw (d : Dev) (id : Nat) (f : Cmd → Cmd) : (d.modCmd id f).pw = d.pw := rfl
@[simp] theorem Dev.modCmd_tap (d : Dev) (id : Nat) (f : Cmd → Cmd) : (d.modCmd id f).tap = d.tap := rfl
@[simp] theorem Dev.modCmd_flash (d : Dev) (id : Nat) (f : Cmd → Cmd) : (d.modCmd id f).flash = d.flash := rfl
@[simp] theorem Dev.modCmd_fw (d : Dev) (id : Nat) (f : Cmd → Cmd) : (d.modCmd id f).fw = d.fw := rfl
@[simp] theorem Dev.modCmd_faults (d : Dev) (id : Nat) (f : Cmd → Cmd) : (d.modCmd id f).faults = d.faults := rfl
@[simp] theorem Dev.modCmd_freeCtr (d : Dev) (id : Nat) (f : Cmd → Cmd) : (d.modCmd id f).freeCtr = d.freeCtr := rfl
@[simp] theorem Dev.modCmd_nextId (d : Dev) (id : Nat) (f : Cmd → Cmd) : (d.modCmd id f).nextId = d.nextId := rfl

/-! ### dropCmd -/

@[simp] theorem Dev.dropCmd_regs (d : Dev) (id : Nat) : (d.dropCmd id).regs = d.regs := rfl
@[simp] theorem Dev.dropCmd_next (d : Dev) (id : Nat) : (d.dropCmd id).next = d.next := rfl
@[simp] theorem Dev.dropCmd_ram (d : Dev) (id : Nat) : (d.dropCmd id).ram = d.ram := rfl
@[simp] theorem Dev.dropCmd_host (d : Dev) (id : Nat) : (d.dropCmd id).host = d.host := rfl
@[simp] theorem Dev.dropCmd_cores (d : Dev) (id : Nat) : (d.dropCmd id).cores = d.cores := rfl
@[simp] theorem Dev.dropCmd_row (d : Dev) (id : Nat) : (d.dropCmd id).row = d.row := rfl
@[simp] theorem Dev.dropCmd_svc (d : Dev) (id : Nat) : (d.dropCmd id).svc = d.svc := rfl
@[simp] theorem Dev.dropCmd_grid (d : Dev) (id : Nat) : (d.dropCmd id).grid = d.grid := rfl
@[simp] theorem Dev.dropCmd_net (d : Dev) (id : Nat) : (d.dropCmd id).net = d.net := rfl
@[simp] theorem Dev.dropCmd_drifts (d : Dev) (id : Nat) : (d.dropCmd id).drifts = d.drifts := rfl
@[simp] theorem Dev.dropCmd_fab (d : Dev) (id : Nat) : (d.dropCmd id).fab = d.fab := rfl
@[simp] theorem Dev.dropCmd_coll (d : Dev) (id : Nat) : (d.dropCmd id).coll = d.coll := rfl
@[simp] theorem Dev.dropCmd_canary (d : Dev) (id : Nat) : (d.dropCmd id).canary = d.canary := rfl
@[simp] theorem Dev.dropCmd_ft (d : Dev) (id : Nat) : (d.dropCmd id).ft = d.ft := rfl
@[simp] theorem Dev.dropCmd_tm (d : Dev) (id : Nat) : (d.dropCmd id).tm = d.tm := rfl
@[simp] theorem Dev.dropCmd_pw (d : Dev) (id : Nat) : (d.dropCmd id).pw = d.pw := rfl
@[simp] theorem Dev.dropCmd_tap (d : Dev) (id : Nat) : (d.dropCmd id).tap = d.tap := rfl
@[simp] theorem Dev.dropCmd_flash (d : Dev) (id : Nat) : (d.dropCmd id).flash = d.flash := rfl
@[simp] theorem Dev.dropCmd_fw (d : Dev) (id : Nat) : (d.dropCmd id).fw = d.fw := rfl
@[simp] theorem Dev.dropCmd_faults (d : Dev) (id : Nat) : (d.dropCmd id).faults = d.faults := rfl
@[simp] theorem Dev.dropCmd_freeCtr (d : Dev) (id : Nat) : (d.dropCmd id).freeCtr = d.freeCtr := rfl
@[simp] theorem Dev.dropCmd_nextId (d : Dev) (id : Nat) : (d.dropCmd id).nextId = d.nextId := rfl

/-! ### eventStat -/

@[simp] theorem Dev.eventStat_next (d : Dev) : (d.eventStat).next = d.next := rfl
@[simp] theorem Dev.eventStat_ram (d : Dev) : (d.eventStat).ram = d.ram := rfl
@[simp] theorem Dev.eventStat_host (d : Dev) : (d.eventStat).host = d.host := rfl
@[simp] theorem Dev.eventStat_cores (d : Dev) : (d.eventStat).cores = d.cores := rfl
@[simp] theorem Dev.eventStat_row (d : Dev) : (d.eventStat).row = d.row := rfl
@[simp] theorem Dev.eventStat_cp (d : Dev) : (d.eventStat).cp = d.cp := rfl
@[simp] theorem Dev.eventStat_svc (d : Dev) : (d.eventStat).svc = d.svc := rfl
@[simp] theorem Dev.eventStat_grid (d : Dev) : (d.eventStat).grid = d.grid := rfl
@[simp] theorem Dev.eventStat_net (d : Dev) : (d.eventStat).net = d.net := rfl
@[simp] theorem Dev.eventStat_drifts (d : Dev) : (d.eventStat).drifts = d.drifts := rfl
@[simp] theorem Dev.eventStat_fab (d : Dev) : (d.eventStat).fab = d.fab := rfl
@[simp] theorem Dev.eventStat_coll (d : Dev) : (d.eventStat).coll = d.coll := rfl
@[simp] theorem Dev.eventStat_canary (d : Dev) : (d.eventStat).canary = d.canary := rfl
@[simp] theorem Dev.eventStat_ft (d : Dev) : (d.eventStat).ft = d.ft := rfl
@[simp] theorem Dev.eventStat_tm (d : Dev) : (d.eventStat).tm = d.tm := rfl
@[simp] theorem Dev.eventStat_pw (d : Dev) : (d.eventStat).pw = d.pw := rfl
@[simp] theorem Dev.eventStat_tap (d : Dev) : (d.eventStat).tap = d.tap := rfl
@[simp] theorem Dev.eventStat_flash (d : Dev) : (d.eventStat).flash = d.flash := rfl
@[simp] theorem Dev.eventStat_fw (d : Dev) : (d.eventStat).fw = d.fw := rfl
@[simp] theorem Dev.eventStat_faults (d : Dev) : (d.eventStat).faults = d.faults := rfl
@[simp] theorem Dev.eventStat_freeCtr (d : Dev) : (d.eventStat).freeCtr = d.freeCtr := rfl
@[simp] theorem Dev.eventStat_nextId (d : Dev) : (d.eventStat).nextId = d.nextId := rfl

/-! ### setChk -/

@[simp] theorem Dev.setChk_regs (d : Dev) (key : Nat) (c : BitVec 16) : (d.setChk key c).regs = d.regs := rfl
@[simp] theorem Dev.setChk_next (d : Dev) (key : Nat) (c : BitVec 16) : (d.setChk key c).next = d.next := rfl
@[simp] theorem Dev.setChk_host (d : Dev) (key : Nat) (c : BitVec 16) : (d.setChk key c).host = d.host := rfl
@[simp] theorem Dev.setChk_cores (d : Dev) (key : Nat) (c : BitVec 16) : (d.setChk key c).cores = d.cores := rfl
@[simp] theorem Dev.setChk_row (d : Dev) (key : Nat) (c : BitVec 16) : (d.setChk key c).row = d.row := rfl
@[simp] theorem Dev.setChk_cp (d : Dev) (key : Nat) (c : BitVec 16) : (d.setChk key c).cp = d.cp := rfl
@[simp] theorem Dev.setChk_svc (d : Dev) (key : Nat) (c : BitVec 16) : (d.setChk key c).svc = d.svc := rfl
@[simp] theorem Dev.setChk_grid (d : Dev) (key : Nat) (c : BitVec 16) : (d.setChk key c).grid = d.grid := rfl
@[simp] theorem Dev.setChk_net (d : Dev) (key : Nat) (c : BitVec 16) : (d.setChk key c).net = d.net := rfl
@[simp] theorem Dev.setChk_drifts (d : Dev) (key : Nat) (c : BitVec 16) : (d.setChk key c).drifts = d.drifts := rfl
@[simp] theorem Dev.setChk_fab (d : Dev) (key : Nat) (c : BitVec 16) : (d.setChk key c).fab = d.fab := rfl
@[simp] theorem Dev.setChk_coll (d : Dev) (key : Nat) (c : BitVec 16) : (d.setChk key c).coll = d.coll := rfl
@[simp] theorem Dev.setChk_canary (d : Dev) (key : Nat) (c : BitVec 16) : (d.setChk key c).canary = d.canary := rfl
@[simp] theorem Dev.setChk_ft (d : Dev) (key : Nat) (c : BitVec 16) : (d.setChk key c).ft = d.ft := rfl
@[simp] theorem Dev.setChk_tm (d : Dev) (key : Nat) (c : BitVec 16) : (d.setChk key c).tm = d.tm := rfl
@[simp] theorem Dev.setChk_pw (d : Dev) (key : Nat) (c : BitVec 16) : (d.setChk key c).pw = d.pw := rfl
@[simp] theorem Dev.setChk_tap (d : Dev) (key : Nat) (c : BitVec 16) : (d.setChk key c).tap = d.tap := rfl
@[simp] theorem Dev.setChk_flash (d : Dev) (key : Nat) (c : BitVec 16) : (d.setChk key c).flash = d.flash := rfl
@[simp] theorem Dev.setChk_fw (d : Dev) (key : Nat) (c : BitVec 16) : (d.setChk key c).fw = d.fw := rfl
@[simp] theorem Dev.setChk_faults (d : Dev) (key : Nat) (c : BitVec 16) : (d.setChk key c).faults = d.faults := rfl
@[simp] theorem Dev.setChk_freeCtr (d : Dev) (key : Nat) (c : BitVec 16) : (d.setChk key c).freeCtr = d.freeCtr := rfl
@[simp] theorem Dev.setChk_nextId (d : Dev) (key : Nat) (c : BitVec 16) : (d.setChk key c).nextId = d.nextId := rfl

/-! ### putCells -/

@[simp] theorem Dev.putCells_regs (d : Dev) (key : Nat) (l : List Byte) : (d.putCells key l).regs = d.regs := rfl
@[simp] theorem Dev.putCells_next (d : Dev) (key : Nat) (l : List Byte) : (d.putCells key l).next = d.next := rfl
@[simp] theorem Dev.putCells_host (d : Dev) (key : Nat) (l : List Byte) : (d.putCells key l).host = d.host := rfl
@[simp] theorem Dev.putCells_cores (d : Dev) (key : Nat) (l : List Byte) : (d.putCells key l).cores = d.cores := rfl
@[simp] theorem Dev.putCells_row (d : Dev) (key : Nat) (l : List Byte) : (d.putCells key l).row = d.row := rfl
@[simp] theorem Dev.putCells_cp (d : Dev) (key : Nat) (l : List Byte) : (d.putCells key l).cp = d.cp := rfl
@[simp] theorem Dev.putCells_svc (d : Dev) (key : Nat) (l : List Byte) : (d.putCells key l).svc = d.svc := rfl
@[simp] theorem Dev.putCells_grid (d : Dev) (key : Nat) (l : List Byte) : (d.putCells key l).grid = d.grid := rfl
@[simp] theorem Dev.putCells_net (d : Dev) (key : Nat) (l : List Byte) : (d.putCells key l).net = d.net := rfl
@[simp] theorem Dev.putCells_drifts (d : Dev) (key : Nat) (l : List Byte) : (d.putCells key l).drifts = d.drifts := rfl
@[simp] theorem Dev.putCells_fab (d : Dev) (key : Nat) (l : List Byte) : (d.putCells key l).fab = d.fab := rfl
@[simp] theorem Dev.putCells_coll (d : Dev) (key : Nat) (l : List Byte) : (d.putCells key l).coll = d.coll := rfl
@[simp] theorem Dev.putCells_canary (d : Dev) (key : Nat) (l : List Byte) : (d.putCells key l).canary = d.canary := rfl
@[simp] theorem Dev.putCells_ft (d : Dev) (key : Nat) (l : List Byte) : (d.putCells key l).ft = d.ft := rfl
@[simp] theorem Dev.putCells_tm (d : Dev) (key : Nat) (l : List Byte) : (d.putCells key l).tm = d.tm := rfl
@[simp] theorem Dev.putCells_pw (d : Dev) (key : Nat) (l : List Byte) : (d.putCells key l).pw = d.pw := rfl
@[simp] theorem Dev.putCells_tap (d : Dev) (key : Nat) (l : List Byte) : (d.putCells key l).tap = d.tap := rfl
@[simp] theorem Dev.putCells_flash (d : Dev) (key : Nat) (l : List Byte) : (d.putCells key l).flash = d.flash := rfl
@[simp] theorem Dev.putCells_fw (d : Dev) (key : Nat) (l : List Byte) : (d.putCells key l).fw = d.fw := rfl
@[simp] theorem Dev.putCells_faults (d : Dev) (key : Nat) (l : List Byte) : (d.putCells key l).faults = d.faults := rfl
@[simp] theorem Dev.putCells_freeCtr (d : Dev) (key : Nat) (l : List Byte) : (d.putCells key l).freeCtr = d.freeCtr := rfl
@[simp] theorem Dev.putCells_nextId (d : Dev) (key : Nat) (l : List Byte) : (d.putCells key l).nextId = d.nextId := rfl

/-! ### zeroKeys -/

@[simp] theorem Dev.zeroKeys_regs (d : Dev) (lo hi : Nat) : (d.zeroKeys lo hi).regs = d.regs := rfl
@[simp] theorem Dev.zeroKeys_next (d : Dev) (lo hi : Nat) : (d.zeroKeys lo hi).next = d.next := rfl
@[simp] theorem Dev.zeroKeys_host (d : Dev) (lo hi : Nat) : (d.zeroKeys lo hi).host = d.host := rfl
@[simp] theorem Dev.zeroKeys_cores (d : Dev) (lo hi : Nat) : (d.zeroKeys lo hi).cores = d.cores := rfl
@[simp] theorem Dev.zeroKeys_row (d : Dev) (lo hi : Nat) : (d.zeroKeys lo hi).row = d.row := rfl
@[simp] theorem Dev.zeroKeys_cp (d : Dev) (lo hi : Nat) : (d.zeroKeys lo hi).cp = d.cp := rfl
@[simp] theorem Dev.zeroKeys_svc (d : Dev) (lo hi : Nat) : (d.zeroKeys lo hi).svc = d.svc := rfl
@[simp] theorem Dev.zeroKeys_grid (d : Dev) (lo hi : Nat) : (d.zeroKeys lo hi).grid = d.grid := rfl
@[simp] theorem Dev.zeroKeys_net (d : Dev) (lo hi : Nat) : (d.zeroKeys lo hi).net = d.net := rfl
@[simp] theorem Dev.zeroKeys_drifts (d : Dev) (lo hi : Nat) : (d.zeroKeys lo hi).drifts = d.drifts := rfl
@[simp] theorem Dev.zeroKeys_fab (d : Dev) (lo hi : Nat) : (d.zeroKeys lo hi).fab = d.fab := rfl
@[simp] theorem Dev.zeroKeys_coll (d : Dev) (lo hi : Nat) : (d.zeroKeys lo hi).coll = d.coll := rfl
@[simp] theorem Dev.zeroKeys_canary (d : Dev) (lo hi : Nat) : (d.zeroKeys lo hi).canary = d.canary := rfl
@[simp] theorem Dev.zeroKeys_ft (d : Dev) (lo hi : Nat) : (d.zeroKeys lo hi).ft = d.ft := rfl
@[simp] theorem Dev.zeroKeys_tm (d : Dev) (lo hi : Nat) : (d.zeroKeys lo hi).tm = d.tm := rfl
@[simp] theorem Dev.zeroKeys_pw (d : Dev) (lo hi : Nat) : (d.zeroKeys lo hi).pw = d.pw := rfl
@[simp] theorem Dev.zeroKeys_tap (d : Dev) (lo hi : Nat) : (d.zeroKeys lo hi).tap = d.tap := rfl
@[simp] theorem Dev.zeroKeys_flash (d : Dev) (lo hi : Nat) : (d.zeroKeys lo hi).flash = d.flash := rfl
@[simp] theorem Dev.zeroKeys_fw (d : Dev) (lo hi : Nat) : (d.zeroKeys lo hi).fw = d.fw := rfl
@[simp] theorem Dev.zeroKeys_faults (d : Dev) (lo hi : Nat) : (d.zeroKeys lo hi).faults = d.faults := rfl
@[simp] theorem Dev.zeroKeys_freeCtr (d : Dev) (lo hi : Nat) : (d.zeroKeys lo hi).freeCtr = d.freeCtr := rfl
@[simp] theorem Dev.zeroKeys_nextId (d : Dev) (lo hi : Nat) : (d.zeroKeys lo hi).nextId = d.nextId := rfl

/-! ### modCp -/

@[simp] theorem Dev.modCp_regs (d : Dev) (f : CpSt → CpSt) : (d.modCp f).regs = d.regs := rfl
@[simp] theorem Dev.modCp_next (d : Dev) (f : CpSt → CpSt) : (d.modCp f).next = d.next := rfl
@[simp] theorem Dev.modCp_ram (d : Dev) (f : CpSt → CpSt) : (d.modCp f).ram = d.ram := rfl
@[simp] theorem Dev.modCp_host (d : Dev) (f : CpSt → CpSt) : (d.modCp f).host = d.host := rfl
@[simp] theorem Dev.modCp_cores (d : Dev) (f : CpSt → CpSt) : (d.modCp f).cores = d.cores := rfl
@[simp] theorem Dev.modCp_row (d : Dev) (f : CpSt → CpSt) : (d.modCp f).row = d.row := rfl
@[simp] theorem Dev.modCp_cp (d : Dev) (f : CpSt → CpSt) : (d.modCp f).cp = f d.cp := rfl
@[simp] theorem Dev.modCp_svc (d : Dev) (f : CpSt → CpSt) : (d.modCp f).svc = d.svc := rfl
@[simp] theorem Dev.modCp_grid (d : Dev) (f : CpSt → CpSt) : (d.modCp f).grid = d.grid := rfl
@[simp] theorem Dev.modCp_net (d : Dev) (f : CpSt → CpSt) : (d.modCp f).net = d.net := rfl
@[simp] theorem Dev.modCp_drifts (d : Dev) (f : CpSt → CpSt) : (d.modCp f).drifts = d.drifts := rfl
@[simp] theorem Dev.modCp_fab (d : Dev) (f : CpSt → CpSt) : (d.modCp f).fab = d.fab := rfl
@[simp] theorem Dev.modCp_coll (d : Dev) (f : CpSt → CpSt) : (d.modCp f).coll = d.coll := rfl
@[simp] theorem Dev.modCp_canary (d : Dev) (f : CpSt → CpSt) : (d.modCp f).canary = d.canary := rfl
@[simp] theorem Dev.modCp_ft (d : Dev) (f : CpSt → CpSt) : (d.modCp f).ft = d.ft := rfl
@[simp] theorem Dev.modCp_tm (d : Dev) (f : CpSt → CpSt) : (d.modCp f).tm = d.tm := rfl
@[simp] theorem Dev.modCp_pw (d : Dev) (f : CpSt → CpSt) : (d.modCp f).pw = d.pw := rfl
@[simp] theorem Dev.modCp_tap (d : Dev) (f : CpSt → CpSt) : (d.modCp f).tap = d.tap := rfl
@[simp] theorem Dev.modCp_flash (d : Dev) (f : CpSt → CpSt) : (d.modCp f).flash = d.flash := rfl
@[simp] theorem Dev.modCp_fw (d : Dev) (f : CpSt → CpSt) : (d.modCp f).fw = d.fw := rfl
@[simp] theorem Dev.modCp_faults (d : Dev) (f : CpSt → CpSt) : (d.modCp f).faults = d.faults := rfl
@[simp] theorem Dev.modCp_freeCtr (d : Dev) (f : CpSt → CpSt) : (d.modCp f).freeCtr = d.freeCtr := rfl
@[simp] theorem Dev.modCp_nextId (d : Dev) (f : CpSt → CpSt) : (d.modCp f).nextId = d.nextId := rfl

/-! ### modSvc -/

@[simp] theorem Dev.modSvc_regs (d : Dev) (f : SvcSt → SvcSt) : (d.modSvc f).regs = d.regs := rfl
@[simp] theorem Dev.modSvc_next (d : Dev) (f : SvcSt → SvcSt) : (d.modSvc f).next = d.next := rfl
@[simp] theorem Dev.modSvc_ram (d : Dev) (f : SvcSt → SvcSt) : (d.modSvc f).ram = d.ram := rfl
@[simp] theorem Dev.modSvc_host (d : Dev) (f : SvcSt → SvcSt) : (d.modSvc f).host = d.host := rfl
@[simp] theorem Dev.modSvc_cores (d : Dev) (f : SvcSt → SvcSt) : (d.modSvc f).cores = d.cores := rfl
@[simp] theorem Dev.modSvc_row (d : Dev) (f : SvcSt → SvcSt) : (d.modSvc f).row = d.row := rfl
@[simp] theorem Dev.modSvc_cp (d : Dev) (f : SvcSt → SvcSt) : (d.modSvc f).cp = d.cp := rfl
@[simp] theorem Dev.modSvc_svc (d : Dev) (f : SvcSt → SvcSt) : (d.modSvc f).svc = f d.svc := rfl
@[simp] theorem Dev.modSvc_grid (d : Dev) (f : SvcSt → SvcSt) : (d.modSvc f).grid = d.grid := rfl
@[simp] theorem Dev.modSvc_net (d : Dev) (f : SvcSt → SvcSt) : (d.modSvc f).net = d.net := rfl
@[simp] theorem Dev.modSvc_drifts (d : Dev) (f : SvcSt → SvcSt) : (d.modSvc f).drifts = d.drifts := rfl
@[simp] theorem Dev.modSvc_fab (d : Dev) (f : SvcSt → SvcSt) : (d.modSvc f).fab = d.fab := rfl
@[simp] theorem Dev.modSvc_coll (d : Dev) (f : SvcSt → SvcSt) : (d.modSvc f).coll = d.coll := rfl
@[simp] theorem Dev.modSvc_canary (d : Dev) (f : SvcSt → SvcSt) : (d.modSvc f).canary = d.canary := rfl
@[simp] theorem Dev.modSvc_ft (d : Dev) (f : SvcSt → SvcSt) : (d.modSvc f).ft = d.ft := rfl
@[simp] theorem Dev.modSvc_tm (d : Dev) (f : SvcSt → SvcSt) : (d.modSvc f).tm = d.tm := rfl
@[simp] theorem Dev.modSvc_pw (d : Dev) (f : SvcSt → SvcSt) : (d.modSvc f).pw = d.pw := rfl
@[simp] theorem Dev.modSvc_tap (d : Dev) (f : SvcSt → SvcSt) : (d.modSvc f).tap = d.tap := rfl
@[simp] theorem Dev.modSvc_flash (d : Dev) (f : SvcSt → SvcSt) : (d.modSvc f).flash = d.flash := rfl
@[simp] theorem Dev.modSvc_fw (d : Dev) (f : SvcSt → SvcSt) : (d.modSvc f).fw = d.fw := rfl
@[simp] theorem Dev.modSvc_faults (d : Dev) (f : SvcSt → SvcSt) : (d.modSvc f).faults = d.faults := rfl
@[simp] theorem Dev.modSvc_freeCtr (d : Dev) (f : SvcSt → SvcSt) : (d.modSvc f).freeCtr = d.freeCtr := rfl
@[simp] theorem Dev.modSvc_nextId (d : Dev) (f : SvcSt → SvcSt) : (d.modSvc f).nextId = d.nextId := rfl

/-! ### modFab -/

@[simp] theorem Dev.modFab_regs (d : Dev) (f : FabSt → FabSt) : (d.modFab f).regs = d.regs := rfl
@[simp] theorem Dev.modFab_next (d : Dev) (f : FabSt → FabSt) : (d.modFab f).next = d.next := rfl
@[simp] theorem Dev.modFab_ram (d : Dev) (f : FabSt → FabSt) : (d.modFab f).ram = d.ram := rfl
@[simp] theorem Dev.modFab_host (d : Dev) (f : FabSt → FabSt) : (d.modFab f).host = d.host := rfl
@[simp] theorem Dev.modFab_cores (d : Dev) (f : FabSt → FabSt) : (d.modFab f).cores = d.cores := rfl
@[simp] theorem Dev.modFab_row (d : Dev) (f : FabSt → FabSt) : (d.modFab f).row = d.row := rfl
@[simp] theorem Dev.modFab_cp (d : Dev) (f : FabSt → FabSt) : (d.modFab f).cp = d.cp := rfl
@[simp] theorem Dev.modFab_svc (d : Dev) (f : FabSt → FabSt) : (d.modFab f).svc = d.svc := rfl
@[simp] theorem Dev.modFab_grid (d : Dev) (f : FabSt → FabSt) : (d.modFab f).grid = d.grid := rfl
@[simp] theorem Dev.modFab_net (d : Dev) (f : FabSt → FabSt) : (d.modFab f).net = d.net := rfl
@[simp] theorem Dev.modFab_drifts (d : Dev) (f : FabSt → FabSt) : (d.modFab f).drifts = d.drifts := rfl
@[simp] theorem Dev.modFab_fab (d : Dev) (f : FabSt → FabSt) : (d.modFab f).fab = f d.fab := rfl
@[simp] theorem Dev.modFab_coll (d : Dev) (f : FabSt → FabSt) : (d.modFab f).coll = d.coll := rfl
@[simp] theorem Dev.modFab_canary (d : Dev) (f : FabSt → FabSt) : (d.modFab f).canary = d.canary := rfl
@[simp] theorem Dev.modFab_ft (d : Dev) (f : FabSt → FabSt) : (d.modFab f).ft = d.ft := rfl
@[simp] theorem Dev.modFab_tm (d : Dev) (f : FabSt → FabSt) : (d.modFab f).tm = d.tm := rfl
@[simp] theorem Dev.modFab_pw (d : Dev) (f : FabSt → FabSt) : (d.modFab f).pw = d.pw := rfl
@[simp] theorem Dev.modFab_tap (d : Dev) (f : FabSt → FabSt) : (d.modFab f).tap = d.tap := rfl
@[simp] theorem Dev.modFab_flash (d : Dev) (f : FabSt → FabSt) : (d.modFab f).flash = d.flash := rfl
@[simp] theorem Dev.modFab_fw (d : Dev) (f : FabSt → FabSt) : (d.modFab f).fw = d.fw := rfl
@[simp] theorem Dev.modFab_faults (d : Dev) (f : FabSt → FabSt) : (d.modFab f).faults = d.faults := rfl
@[simp] theorem Dev.modFab_freeCtr (d : Dev) (f : FabSt → FabSt) : (d.modFab f).freeCtr = d.freeCtr := rfl
@[simp] theorem Dev.modFab_nextId (d : Dev) (f : FabSt → FabSt) : (d.modFab f).nextId = d.nextId := rfl

/-! ### modCanary -/

@[simp] theorem Dev.modCanary_regs (d : Dev) (f : CanarySt → CanarySt) : (d.modCanary f).regs = d.regs := rfl
@[simp] theorem Dev.modCanary_next (d : Dev) (f : CanarySt → CanarySt) : (d.modCanary f).next = d.next := rfl
@[simp] theorem Dev.modCanary_ram (d : Dev) (f : CanarySt → CanarySt) : (d.modCanary f).ram = d.ram := rfl
@[simp] theorem Dev.modCanary_host (d : Dev) (f : CanarySt → CanarySt) : (d.modCanary f).host = d.host := rfl
@[simp] theorem Dev.modCanary_cores (d : Dev) (f : CanarySt → CanarySt) : (d.modCanary f).cores = d.cores := rfl
@[simp] theorem Dev.modCanary_row (d : Dev) (f : CanarySt → CanarySt) : (d.modCanary f).row = d.row := rfl
@[simp] theorem Dev.modCanary_cp (d : Dev) (f : CanarySt → CanarySt) : (d.modCanary f).cp = d.cp := rfl
@[simp] theorem Dev.modCanary_svc (d : Dev) (f : CanarySt → CanarySt) : (d.modCanary f).svc = d.svc := rfl
@[simp] theorem Dev.modCanary_grid (d : Dev) (f : CanarySt → CanarySt) : (d.modCanary f).grid = d.grid := rfl
@[simp] theorem Dev.modCanary_net (d : Dev) (f : CanarySt → CanarySt) : (d.modCanary f).net = d.net := rfl
@[simp] theorem Dev.modCanary_drifts (d : Dev) (f : CanarySt → CanarySt) : (d.modCanary f).drifts = d.drifts := rfl
@[simp] theorem Dev.modCanary_fab (d : Dev) (f : CanarySt → CanarySt) : (d.modCanary f).fab = d.fab := rfl
@[simp] theorem Dev.modCanary_coll (d : Dev) (f : CanarySt → CanarySt) : (d.modCanary f).coll = d.coll := rfl
@[simp] theorem Dev.modCanary_canary (d : Dev) (f : CanarySt → CanarySt) : (d.modCanary f).canary = f d.canary := rfl
@[simp] theorem Dev.modCanary_ft (d : Dev) (f : CanarySt → CanarySt) : (d.modCanary f).ft = d.ft := rfl
@[simp] theorem Dev.modCanary_tm (d : Dev) (f : CanarySt → CanarySt) : (d.modCanary f).tm = d.tm := rfl
@[simp] theorem Dev.modCanary_pw (d : Dev) (f : CanarySt → CanarySt) : (d.modCanary f).pw = d.pw := rfl
@[simp] theorem Dev.modCanary_tap (d : Dev) (f : CanarySt → CanarySt) : (d.modCanary f).tap = d.tap := rfl
@[simp] theorem Dev.modCanary_flash (d : Dev) (f : CanarySt → CanarySt) : (d.modCanary f).flash = d.flash := rfl
@[simp] theorem Dev.modCanary_fw (d : Dev) (f : CanarySt → CanarySt) : (d.modCanary f).fw = d.fw := rfl
@[simp] theorem Dev.modCanary_faults (d : Dev) (f : CanarySt → CanarySt) : (d.modCanary f).faults = d.faults := rfl
@[simp] theorem Dev.modCanary_freeCtr (d : Dev) (f : CanarySt → CanarySt) : (d.modCanary f).freeCtr = d.freeCtr := rfl
@[simp] theorem Dev.modCanary_nextId (d : Dev) (f : CanarySt → CanarySt) : (d.modCanary f).nextId = d.nextId := rfl

/-! ### modFt -/

@[simp] theorem Dev.modFt_regs (d : Dev) (f : FaultSt → FaultSt) : (d.modFt f).regs = d.regs := rfl
@[simp] theorem Dev.modFt_next (d : Dev) (f : FaultSt → FaultSt) : (d.modFt f).next = d.next := rfl
@[simp] theorem Dev.modFt_ram (d : Dev) (f : FaultSt → FaultSt) : (d.modFt f).ram = d.ram := rfl
@[simp] theorem Dev.modFt_host (d : Dev) (f : FaultSt → FaultSt) : (d.modFt f).host = d.host := rfl
@[simp] theorem Dev.modFt_cores (d : Dev) (f : FaultSt → FaultSt) : (d.modFt f).cores = d.cores := rfl
@[simp] theorem Dev.modFt_row (d : Dev) (f : FaultSt → FaultSt) : (d.modFt f).row = d.row := rfl
@[simp] theorem Dev.modFt_cp (d : Dev) (f : FaultSt → FaultSt) : (d.modFt f).cp = d.cp := rfl
@[simp] theorem Dev.modFt_svc (d : Dev) (f : FaultSt → FaultSt) : (d.modFt f).svc = d.svc := rfl
@[simp] theorem Dev.modFt_grid (d : Dev) (f : FaultSt → FaultSt) : (d.modFt f).grid = d.grid := rfl
@[simp] theorem Dev.modFt_net (d : Dev) (f : FaultSt → FaultSt) : (d.modFt f).net = d.net := rfl
@[simp] theorem Dev.modFt_drifts (d : Dev) (f : FaultSt → FaultSt) : (d.modFt f).drifts = d.drifts := rfl
@[simp] theorem Dev.modFt_fab (d : Dev) (f : FaultSt → FaultSt) : (d.modFt f).fab = d.fab := rfl
@[simp] theorem Dev.modFt_coll (d : Dev) (f : FaultSt → FaultSt) : (d.modFt f).coll = d.coll := rfl
@[simp] theorem Dev.modFt_canary (d : Dev) (f : FaultSt → FaultSt) : (d.modFt f).canary = d.canary := rfl
@[simp] theorem Dev.modFt_ft (d : Dev) (f : FaultSt → FaultSt) : (d.modFt f).ft = f d.ft := rfl
@[simp] theorem Dev.modFt_tm (d : Dev) (f : FaultSt → FaultSt) : (d.modFt f).tm = d.tm := rfl
@[simp] theorem Dev.modFt_pw (d : Dev) (f : FaultSt → FaultSt) : (d.modFt f).pw = d.pw := rfl
@[simp] theorem Dev.modFt_tap (d : Dev) (f : FaultSt → FaultSt) : (d.modFt f).tap = d.tap := rfl
@[simp] theorem Dev.modFt_flash (d : Dev) (f : FaultSt → FaultSt) : (d.modFt f).flash = d.flash := rfl
@[simp] theorem Dev.modFt_fw (d : Dev) (f : FaultSt → FaultSt) : (d.modFt f).fw = d.fw := rfl
@[simp] theorem Dev.modFt_faults (d : Dev) (f : FaultSt → FaultSt) : (d.modFt f).faults = d.faults := rfl
@[simp] theorem Dev.modFt_freeCtr (d : Dev) (f : FaultSt → FaultSt) : (d.modFt f).freeCtr = d.freeCtr := rfl
@[simp] theorem Dev.modFt_nextId (d : Dev) (f : FaultSt → FaultSt) : (d.modFt f).nextId = d.nextId := rfl

/-! ### modTm -/

@[simp] theorem Dev.modTm_regs (d : Dev) (f : ThermalSt → ThermalSt) : (d.modTm f).regs = d.regs := rfl
@[simp] theorem Dev.modTm_next (d : Dev) (f : ThermalSt → ThermalSt) : (d.modTm f).next = d.next := rfl
@[simp] theorem Dev.modTm_ram (d : Dev) (f : ThermalSt → ThermalSt) : (d.modTm f).ram = d.ram := rfl
@[simp] theorem Dev.modTm_host (d : Dev) (f : ThermalSt → ThermalSt) : (d.modTm f).host = d.host := rfl
@[simp] theorem Dev.modTm_cores (d : Dev) (f : ThermalSt → ThermalSt) : (d.modTm f).cores = d.cores := rfl
@[simp] theorem Dev.modTm_row (d : Dev) (f : ThermalSt → ThermalSt) : (d.modTm f).row = d.row := rfl
@[simp] theorem Dev.modTm_cp (d : Dev) (f : ThermalSt → ThermalSt) : (d.modTm f).cp = d.cp := rfl
@[simp] theorem Dev.modTm_svc (d : Dev) (f : ThermalSt → ThermalSt) : (d.modTm f).svc = d.svc := rfl
@[simp] theorem Dev.modTm_grid (d : Dev) (f : ThermalSt → ThermalSt) : (d.modTm f).grid = d.grid := rfl
@[simp] theorem Dev.modTm_net (d : Dev) (f : ThermalSt → ThermalSt) : (d.modTm f).net = d.net := rfl
@[simp] theorem Dev.modTm_drifts (d : Dev) (f : ThermalSt → ThermalSt) : (d.modTm f).drifts = d.drifts := rfl
@[simp] theorem Dev.modTm_fab (d : Dev) (f : ThermalSt → ThermalSt) : (d.modTm f).fab = d.fab := rfl
@[simp] theorem Dev.modTm_coll (d : Dev) (f : ThermalSt → ThermalSt) : (d.modTm f).coll = d.coll := rfl
@[simp] theorem Dev.modTm_canary (d : Dev) (f : ThermalSt → ThermalSt) : (d.modTm f).canary = d.canary := rfl
@[simp] theorem Dev.modTm_ft (d : Dev) (f : ThermalSt → ThermalSt) : (d.modTm f).ft = d.ft := rfl
@[simp] theorem Dev.modTm_tm (d : Dev) (f : ThermalSt → ThermalSt) : (d.modTm f).tm = f d.tm := rfl
@[simp] theorem Dev.modTm_pw (d : Dev) (f : ThermalSt → ThermalSt) : (d.modTm f).pw = d.pw := rfl
@[simp] theorem Dev.modTm_tap (d : Dev) (f : ThermalSt → ThermalSt) : (d.modTm f).tap = d.tap := rfl
@[simp] theorem Dev.modTm_flash (d : Dev) (f : ThermalSt → ThermalSt) : (d.modTm f).flash = d.flash := rfl
@[simp] theorem Dev.modTm_fw (d : Dev) (f : ThermalSt → ThermalSt) : (d.modTm f).fw = d.fw := rfl
@[simp] theorem Dev.modTm_faults (d : Dev) (f : ThermalSt → ThermalSt) : (d.modTm f).faults = d.faults := rfl
@[simp] theorem Dev.modTm_freeCtr (d : Dev) (f : ThermalSt → ThermalSt) : (d.modTm f).freeCtr = d.freeCtr := rfl
@[simp] theorem Dev.modTm_nextId (d : Dev) (f : ThermalSt → ThermalSt) : (d.modTm f).nextId = d.nextId := rfl

/-! ### modPw -/

@[simp] theorem Dev.modPw_regs (d : Dev) (f : PowerSt → PowerSt) : (d.modPw f).regs = d.regs := rfl
@[simp] theorem Dev.modPw_next (d : Dev) (f : PowerSt → PowerSt) : (d.modPw f).next = d.next := rfl
@[simp] theorem Dev.modPw_ram (d : Dev) (f : PowerSt → PowerSt) : (d.modPw f).ram = d.ram := rfl
@[simp] theorem Dev.modPw_host (d : Dev) (f : PowerSt → PowerSt) : (d.modPw f).host = d.host := rfl
@[simp] theorem Dev.modPw_cores (d : Dev) (f : PowerSt → PowerSt) : (d.modPw f).cores = d.cores := rfl
@[simp] theorem Dev.modPw_row (d : Dev) (f : PowerSt → PowerSt) : (d.modPw f).row = d.row := rfl
@[simp] theorem Dev.modPw_cp (d : Dev) (f : PowerSt → PowerSt) : (d.modPw f).cp = d.cp := rfl
@[simp] theorem Dev.modPw_svc (d : Dev) (f : PowerSt → PowerSt) : (d.modPw f).svc = d.svc := rfl
@[simp] theorem Dev.modPw_grid (d : Dev) (f : PowerSt → PowerSt) : (d.modPw f).grid = d.grid := rfl
@[simp] theorem Dev.modPw_net (d : Dev) (f : PowerSt → PowerSt) : (d.modPw f).net = d.net := rfl
@[simp] theorem Dev.modPw_drifts (d : Dev) (f : PowerSt → PowerSt) : (d.modPw f).drifts = d.drifts := rfl
@[simp] theorem Dev.modPw_fab (d : Dev) (f : PowerSt → PowerSt) : (d.modPw f).fab = d.fab := rfl
@[simp] theorem Dev.modPw_coll (d : Dev) (f : PowerSt → PowerSt) : (d.modPw f).coll = d.coll := rfl
@[simp] theorem Dev.modPw_canary (d : Dev) (f : PowerSt → PowerSt) : (d.modPw f).canary = d.canary := rfl
@[simp] theorem Dev.modPw_ft (d : Dev) (f : PowerSt → PowerSt) : (d.modPw f).ft = d.ft := rfl
@[simp] theorem Dev.modPw_tm (d : Dev) (f : PowerSt → PowerSt) : (d.modPw f).tm = d.tm := rfl
@[simp] theorem Dev.modPw_pw (d : Dev) (f : PowerSt → PowerSt) : (d.modPw f).pw = f d.pw := rfl
@[simp] theorem Dev.modPw_tap (d : Dev) (f : PowerSt → PowerSt) : (d.modPw f).tap = d.tap := rfl
@[simp] theorem Dev.modPw_flash (d : Dev) (f : PowerSt → PowerSt) : (d.modPw f).flash = d.flash := rfl
@[simp] theorem Dev.modPw_fw (d : Dev) (f : PowerSt → PowerSt) : (d.modPw f).fw = d.fw := rfl
@[simp] theorem Dev.modPw_faults (d : Dev) (f : PowerSt → PowerSt) : (d.modPw f).faults = d.faults := rfl
@[simp] theorem Dev.modPw_freeCtr (d : Dev) (f : PowerSt → PowerSt) : (d.modPw f).freeCtr = d.freeCtr := rfl
@[simp] theorem Dev.modPw_nextId (d : Dev) (f : PowerSt → PowerSt) : (d.modPw f).nextId = d.nextId := rfl

/-! ### modTap -/

@[simp] theorem Dev.modTap_regs (d : Dev) (f : TapSt → TapSt) : (d.modTap f).regs = d.regs := rfl
@[simp] theorem Dev.modTap_next (d : Dev) (f : TapSt → TapSt) : (d.modTap f).next = d.next := rfl
@[simp] theorem Dev.modTap_ram (d : Dev) (f : TapSt → TapSt) : (d.modTap f).ram = d.ram := rfl
@[simp] theorem Dev.modTap_host (d : Dev) (f : TapSt → TapSt) : (d.modTap f).host = d.host := rfl
@[simp] theorem Dev.modTap_cores (d : Dev) (f : TapSt → TapSt) : (d.modTap f).cores = d.cores := rfl
@[simp] theorem Dev.modTap_row (d : Dev) (f : TapSt → TapSt) : (d.modTap f).row = d.row := rfl
@[simp] theorem Dev.modTap_cp (d : Dev) (f : TapSt → TapSt) : (d.modTap f).cp = d.cp := rfl
@[simp] theorem Dev.modTap_svc (d : Dev) (f : TapSt → TapSt) : (d.modTap f).svc = d.svc := rfl
@[simp] theorem Dev.modTap_grid (d : Dev) (f : TapSt → TapSt) : (d.modTap f).grid = d.grid := rfl
@[simp] theorem Dev.modTap_net (d : Dev) (f : TapSt → TapSt) : (d.modTap f).net = d.net := rfl
@[simp] theorem Dev.modTap_drifts (d : Dev) (f : TapSt → TapSt) : (d.modTap f).drifts = d.drifts := rfl
@[simp] theorem Dev.modTap_fab (d : Dev) (f : TapSt → TapSt) : (d.modTap f).fab = d.fab := rfl
@[simp] theorem Dev.modTap_coll (d : Dev) (f : TapSt → TapSt) : (d.modTap f).coll = d.coll := rfl
@[simp] theorem Dev.modTap_canary (d : Dev) (f : TapSt → TapSt) : (d.modTap f).canary = d.canary := rfl
@[simp] theorem Dev.modTap_ft (d : Dev) (f : TapSt → TapSt) : (d.modTap f).ft = d.ft := rfl
@[simp] theorem Dev.modTap_tm (d : Dev) (f : TapSt → TapSt) : (d.modTap f).tm = d.tm := rfl
@[simp] theorem Dev.modTap_pw (d : Dev) (f : TapSt → TapSt) : (d.modTap f).pw = d.pw := rfl
@[simp] theorem Dev.modTap_tap (d : Dev) (f : TapSt → TapSt) : (d.modTap f).tap = f d.tap := rfl
@[simp] theorem Dev.modTap_flash (d : Dev) (f : TapSt → TapSt) : (d.modTap f).flash = d.flash := rfl
@[simp] theorem Dev.modTap_fw (d : Dev) (f : TapSt → TapSt) : (d.modTap f).fw = d.fw := rfl
@[simp] theorem Dev.modTap_faults (d : Dev) (f : TapSt → TapSt) : (d.modTap f).faults = d.faults := rfl
@[simp] theorem Dev.modTap_freeCtr (d : Dev) (f : TapSt → TapSt) : (d.modTap f).freeCtr = d.freeCtr := rfl
@[simp] theorem Dev.modTap_nextId (d : Dev) (f : TapSt → TapSt) : (d.modTap f).nextId = d.nextId := rfl

/-! ### modFlash -/

@[simp] theorem Dev.modFlash_regs (d : Dev) (f : FlashSt → FlashSt) : (d.modFlash f).regs = d.regs := rfl
@[simp] theorem Dev.modFlash_next (d : Dev) (f : FlashSt → FlashSt) : (d.modFlash f).next = d.next := rfl
@[simp] theorem Dev.modFlash_ram (d : Dev) (f : FlashSt → FlashSt) : (d.modFlash f).ram = d.ram := rfl
@[simp] theorem Dev.modFlash_host (d : Dev) (f : FlashSt → FlashSt) : (d.modFlash f).host = d.host := rfl
@[simp] theorem Dev.modFlash_cores (d : Dev) (f : FlashSt → FlashSt) : (d.modFlash f).cores = d.cores := rfl
@[simp] theorem Dev.modFlash_row (d : Dev) (f : FlashSt → FlashSt) : (d.modFlash f).row = d.row := rfl
@[simp] theorem Dev.modFlash_cp (d : Dev) (f : FlashSt → FlashSt) : (d.modFlash f).cp = d.cp := rfl
@[simp] theorem Dev.modFlash_svc (d : Dev) (f : FlashSt → FlashSt) : (d.modFlash f).svc = d.svc := rfl
@[simp] theorem Dev.modFlash_grid (d : Dev) (f : FlashSt → FlashSt) : (d.modFlash f).grid = d.grid := rfl
@[simp] theorem Dev.modFlash_net (d : Dev) (f : FlashSt → FlashSt) : (d.modFlash f).net = d.net := rfl
@[simp] theorem Dev.modFlash_drifts (d : Dev) (f : FlashSt → FlashSt) : (d.modFlash f).drifts = d.drifts := rfl
@[simp] theorem Dev.modFlash_fab (d : Dev) (f : FlashSt → FlashSt) : (d.modFlash f).fab = d.fab := rfl
@[simp] theorem Dev.modFlash_coll (d : Dev) (f : FlashSt → FlashSt) : (d.modFlash f).coll = d.coll := rfl
@[simp] theorem Dev.modFlash_canary (d : Dev) (f : FlashSt → FlashSt) : (d.modFlash f).canary = d.canary := rfl
@[simp] theorem Dev.modFlash_ft (d : Dev) (f : FlashSt → FlashSt) : (d.modFlash f).ft = d.ft := rfl
@[simp] theorem Dev.modFlash_tm (d : Dev) (f : FlashSt → FlashSt) : (d.modFlash f).tm = d.tm := rfl
@[simp] theorem Dev.modFlash_pw (d : Dev) (f : FlashSt → FlashSt) : (d.modFlash f).pw = d.pw := rfl
@[simp] theorem Dev.modFlash_tap (d : Dev) (f : FlashSt → FlashSt) : (d.modFlash f).tap = d.tap := rfl
@[simp] theorem Dev.modFlash_flash (d : Dev) (f : FlashSt → FlashSt) : (d.modFlash f).flash = f d.flash := rfl
@[simp] theorem Dev.modFlash_fw (d : Dev) (f : FlashSt → FlashSt) : (d.modFlash f).fw = d.fw := rfl
@[simp] theorem Dev.modFlash_faults (d : Dev) (f : FlashSt → FlashSt) : (d.modFlash f).faults = d.faults := rfl
@[simp] theorem Dev.modFlash_freeCtr (d : Dev) (f : FlashSt → FlashSt) : (d.modFlash f).freeCtr = d.freeCtr := rfl
@[simp] theorem Dev.modFlash_nextId (d : Dev) (f : FlashSt → FlashSt) : (d.modFlash f).nextId = d.nextId := rfl

/-! ### modFw -/

@[simp] theorem Dev.modFw_regs (d : Dev) (f : FwSt → FwSt) : (d.modFw f).regs = d.regs := rfl
@[simp] theorem Dev.modFw_next (d : Dev) (f : FwSt → FwSt) : (d.modFw f).next = d.next := rfl
@[simp] theorem Dev.modFw_ram (d : Dev) (f : FwSt → FwSt) : (d.modFw f).ram = d.ram := rfl
@[simp] theorem Dev.modFw_host (d : Dev) (f : FwSt → FwSt) : (d.modFw f).host = d.host := rfl
@[simp] theorem Dev.modFw_cores (d : Dev) (f : FwSt → FwSt) : (d.modFw f).cores = d.cores := rfl
@[simp] theorem Dev.modFw_row (d : Dev) (f : FwSt → FwSt) : (d.modFw f).row = d.row := rfl
@[simp] theorem Dev.modFw_cp (d : Dev) (f : FwSt → FwSt) : (d.modFw f).cp = d.cp := rfl
@[simp] theorem Dev.modFw_svc (d : Dev) (f : FwSt → FwSt) : (d.modFw f).svc = d.svc := rfl
@[simp] theorem Dev.modFw_grid (d : Dev) (f : FwSt → FwSt) : (d.modFw f).grid = d.grid := rfl
@[simp] theorem Dev.modFw_net (d : Dev) (f : FwSt → FwSt) : (d.modFw f).net = d.net := rfl
@[simp] theorem Dev.modFw_drifts (d : Dev) (f : FwSt → FwSt) : (d.modFw f).drifts = d.drifts := rfl
@[simp] theorem Dev.modFw_fab (d : Dev) (f : FwSt → FwSt) : (d.modFw f).fab = d.fab := rfl
@[simp] theorem Dev.modFw_coll (d : Dev) (f : FwSt → FwSt) : (d.modFw f).coll = d.coll := rfl
@[simp] theorem Dev.modFw_canary (d : Dev) (f : FwSt → FwSt) : (d.modFw f).canary = d.canary := rfl
@[simp] theorem Dev.modFw_ft (d : Dev) (f : FwSt → FwSt) : (d.modFw f).ft = d.ft := rfl
@[simp] theorem Dev.modFw_tm (d : Dev) (f : FwSt → FwSt) : (d.modFw f).tm = d.tm := rfl
@[simp] theorem Dev.modFw_pw (d : Dev) (f : FwSt → FwSt) : (d.modFw f).pw = d.pw := rfl
@[simp] theorem Dev.modFw_tap (d : Dev) (f : FwSt → FwSt) : (d.modFw f).tap = d.tap := rfl
@[simp] theorem Dev.modFw_flash (d : Dev) (f : FwSt → FwSt) : (d.modFw f).flash = d.flash := rfl
@[simp] theorem Dev.modFw_fw (d : Dev) (f : FwSt → FwSt) : (d.modFw f).fw = f d.fw := rfl
@[simp] theorem Dev.modFw_faults (d : Dev) (f : FwSt → FwSt) : (d.modFw f).faults = d.faults := rfl
@[simp] theorem Dev.modFw_freeCtr (d : Dev) (f : FwSt → FwSt) : (d.modFw f).freeCtr = d.freeCtr := rfl
@[simp] theorem Dev.modFw_nextId (d : Dev) (f : FwSt → FwSt) : (d.modFw f).nextId = d.nextId := rfl

/-! ### modCollSt -/

@[simp] theorem Dev.modCollSt_regs (d : Dev) (f : CollSt → CollSt) : (d.modCollSt f).regs = d.regs := rfl
@[simp] theorem Dev.modCollSt_next (d : Dev) (f : CollSt → CollSt) : (d.modCollSt f).next = d.next := rfl
@[simp] theorem Dev.modCollSt_ram (d : Dev) (f : CollSt → CollSt) : (d.modCollSt f).ram = d.ram := rfl
@[simp] theorem Dev.modCollSt_host (d : Dev) (f : CollSt → CollSt) : (d.modCollSt f).host = d.host := rfl
@[simp] theorem Dev.modCollSt_cores (d : Dev) (f : CollSt → CollSt) : (d.modCollSt f).cores = d.cores := rfl
@[simp] theorem Dev.modCollSt_row (d : Dev) (f : CollSt → CollSt) : (d.modCollSt f).row = d.row := rfl
@[simp] theorem Dev.modCollSt_cp (d : Dev) (f : CollSt → CollSt) : (d.modCollSt f).cp = d.cp := rfl
@[simp] theorem Dev.modCollSt_svc (d : Dev) (f : CollSt → CollSt) : (d.modCollSt f).svc = d.svc := rfl
@[simp] theorem Dev.modCollSt_grid (d : Dev) (f : CollSt → CollSt) : (d.modCollSt f).grid = d.grid := rfl
@[simp] theorem Dev.modCollSt_net (d : Dev) (f : CollSt → CollSt) : (d.modCollSt f).net = d.net := rfl
@[simp] theorem Dev.modCollSt_drifts (d : Dev) (f : CollSt → CollSt) : (d.modCollSt f).drifts = d.drifts := rfl
@[simp] theorem Dev.modCollSt_fab (d : Dev) (f : CollSt → CollSt) : (d.modCollSt f).fab = d.fab := rfl
@[simp] theorem Dev.modCollSt_coll (d : Dev) (f : CollSt → CollSt) : (d.modCollSt f).coll = f d.coll := rfl
@[simp] theorem Dev.modCollSt_canary (d : Dev) (f : CollSt → CollSt) : (d.modCollSt f).canary = d.canary := rfl
@[simp] theorem Dev.modCollSt_ft (d : Dev) (f : CollSt → CollSt) : (d.modCollSt f).ft = d.ft := rfl
@[simp] theorem Dev.modCollSt_tm (d : Dev) (f : CollSt → CollSt) : (d.modCollSt f).tm = d.tm := rfl
@[simp] theorem Dev.modCollSt_pw (d : Dev) (f : CollSt → CollSt) : (d.modCollSt f).pw = d.pw := rfl
@[simp] theorem Dev.modCollSt_tap (d : Dev) (f : CollSt → CollSt) : (d.modCollSt f).tap = d.tap := rfl
@[simp] theorem Dev.modCollSt_flash (d : Dev) (f : CollSt → CollSt) : (d.modCollSt f).flash = d.flash := rfl
@[simp] theorem Dev.modCollSt_fw (d : Dev) (f : CollSt → CollSt) : (d.modCollSt f).fw = d.fw := rfl
@[simp] theorem Dev.modCollSt_faults (d : Dev) (f : CollSt → CollSt) : (d.modCollSt f).faults = d.faults := rfl
@[simp] theorem Dev.modCollSt_freeCtr (d : Dev) (f : CollSt → CollSt) : (d.modCollSt f).freeCtr = d.freeCtr := rfl
@[simp] theorem Dev.modCollSt_nextId (d : Dev) (f : CollSt → CollSt) : (d.modCollSt f).nextId = d.nextId := rfl

/-! ### modDrift -/

@[simp] theorem Dev.modDrift_regs (d : Dev) (n : Nat) (f : Drift → Drift) : (d.modDrift n f).regs = d.regs := rfl
@[simp] theorem Dev.modDrift_next (d : Dev) (n : Nat) (f : Drift → Drift) : (d.modDrift n f).next = d.next := rfl
@[simp] theorem Dev.modDrift_ram (d : Dev) (n : Nat) (f : Drift → Drift) : (d.modDrift n f).ram = d.ram := rfl
@[simp] theorem Dev.modDrift_host (d : Dev) (n : Nat) (f : Drift → Drift) : (d.modDrift n f).host = d.host := rfl
@[simp] theorem Dev.modDrift_cores (d : Dev) (n : Nat) (f : Drift → Drift) : (d.modDrift n f).cores = d.cores := rfl
@[simp] theorem Dev.modDrift_row (d : Dev) (n : Nat) (f : Drift → Drift) : (d.modDrift n f).row = d.row := rfl
@[simp] theorem Dev.modDrift_cp (d : Dev) (n : Nat) (f : Drift → Drift) : (d.modDrift n f).cp = d.cp := rfl
@[simp] theorem Dev.modDrift_svc (d : Dev) (n : Nat) (f : Drift → Drift) : (d.modDrift n f).svc = d.svc := rfl
@[simp] theorem Dev.modDrift_grid (d : Dev) (n : Nat) (f : Drift → Drift) : (d.modDrift n f).grid = d.grid := rfl
@[simp] theorem Dev.modDrift_net (d : Dev) (n : Nat) (f : Drift → Drift) : (d.modDrift n f).net = d.net := rfl
@[simp] theorem Dev.modDrift_fab (d : Dev) (n : Nat) (f : Drift → Drift) : (d.modDrift n f).fab = d.fab := rfl
@[simp] theorem Dev.modDrift_coll (d : Dev) (n : Nat) (f : Drift → Drift) : (d.modDrift n f).coll = d.coll := rfl
@[simp] theorem Dev.modDrift_canary (d : Dev) (n : Nat) (f : Drift → Drift) : (d.modDrift n f).canary = d.canary := rfl
@[simp] theorem Dev.modDrift_ft (d : Dev) (n : Nat) (f : Drift → Drift) : (d.modDrift n f).ft = d.ft := rfl
@[simp] theorem Dev.modDrift_tm (d : Dev) (n : Nat) (f : Drift → Drift) : (d.modDrift n f).tm = d.tm := rfl
@[simp] theorem Dev.modDrift_pw (d : Dev) (n : Nat) (f : Drift → Drift) : (d.modDrift n f).pw = d.pw := rfl
@[simp] theorem Dev.modDrift_tap (d : Dev) (n : Nat) (f : Drift → Drift) : (d.modDrift n f).tap = d.tap := rfl
@[simp] theorem Dev.modDrift_flash (d : Dev) (n : Nat) (f : Drift → Drift) : (d.modDrift n f).flash = d.flash := rfl
@[simp] theorem Dev.modDrift_fw (d : Dev) (n : Nat) (f : Drift → Drift) : (d.modDrift n f).fw = d.fw := rfl
@[simp] theorem Dev.modDrift_faults (d : Dev) (n : Nat) (f : Drift → Drift) : (d.modDrift n f).faults = d.faults := rfl
@[simp] theorem Dev.modDrift_freeCtr (d : Dev) (n : Nat) (f : Drift → Drift) : (d.modDrift n f).freeCtr = d.freeCtr := rfl
@[simp] theorem Dev.modDrift_nextId (d : Dev) (n : Nat) (f : Drift → Drift) : (d.modDrift n f).nextId = d.nextId := rfl

end Sys2Proof.Machine
end

