-- ==== Sys2Proof/Laws/Regs.lean ====
section
/-!
SUPPORT. Sys2Proof/Laws/Regs.lean: reading registers, fields and cores after writing them.
-/

namespace Sys2Proof.Machine

/-! ### Registers -/

theorem Dev.reg_setReg (d : Dev) (off o : Nat) (v : Word64) : (d.setReg off v).reg o = if o = off then v else d.reg o := by
  simp [Dev.reg, smGet_smPut]

@[simp] theorem Dev.reg_setReg_same (d : Dev) (off : Nat) (v : Word64) : (d.setReg off v).reg off = v := by
  simp [Dev.reg_setReg]

theorem Dev.reg_setReg_other (d : Dev) {off o : Nat} (h : o ≠ off) (v : Word64) : (d.setReg off v).reg o = d.reg o := by
  simp [Dev.reg_setReg, h]

theorem Dev.reg_setFld (d : Dev) (f : Fld) (v o : Nat) :
    (d.setFld f v).reg o = if o = f.off then wput (d.reg f.off) f.hi f.lo v else d.reg o := Dev.reg_setReg _ _ _ _

theorem Dev.reg_setFld_other (d : Dev) {f : Fld} {o : Nat} (h : o ≠ f.off) (v : Nat) : (d.setFld f v).reg o = d.reg o :=
  Dev.reg_setReg_other d h _

/-! ### Fields -/

theorem Dev.fld_setFld_same (d : Dev) (f : Fld) (v : Nat) (h : f.lo ≤ f.hi) (hn : f.hi < 64) :
    (d.setFld f v).fld f = v % 2 ^ (f.hi + 1 - f.lo) := by
  simp [Dev.fld, Dev.reg_setFld, wget_wput_same _ h hn]

/-- A field of another register. -/
theorem Dev.fld_setFld_reg (d : Dev) {f g : Fld} (h : g.off ≠ f.off) (v : Nat) : (d.setFld f v).fld g = d.fld g := by
  simp [Dev.fld, Dev.reg_setFld_other d h]

/-- Another field of the same register. -/
theorem Dev.fld_setFld_bits (d : Dev) {f g : Fld} (h : f.lo ≤ f.hi) (hn : f.hi < 64)
    (hd : g.hi < f.lo ∨ f.hi < g.lo) (v : Nat) : (d.setFld f v).fld g = d.fld g := by
  by_cases ho : g.off = f.off
  · simp [Dev.fld, Dev.reg_setFld, ho, wget_wput_other _ h hn hd]
  · exact Dev.fld_setFld_reg d ho v

theorem Dev.fld_setReg_other (d : Dev) {g : Fld} {off : Nat} (h : g.off ≠ off) (v : Word64) : (d.setReg off v).fld g = d.fld g := by
  simp [Dev.fld, Dev.reg_setReg_other d h]

/-- A field depends on the registers alone. -/
theorem Dev.fld_congr {d e : Dev} (h : d.regs = e.regs) (f : Fld) : d.fld f = e.fld f := by
  simp [Dev.fld, Dev.reg, h]

theorem Dev.reg_congr {d e : Dev} (h : d.regs = e.regs) (o : Nat) : d.reg o = e.reg o := by simp [Dev.reg, h]

theorem Dev.fld_lt (d : Dev) (f : Fld) : d.fld f < 2 ^ (f.hi + 1 - f.lo) := bitsOf_lt _ _ _

/-- A field of a range of registers returned to their reset values. -/
theorem Dev.reg_resetRegs (d : Dev) (lo hi o : Nat) :
    (d.resetRegs lo hi).reg o = if lo ≤ o ∧ o < hi then regReset o else d.reg o := by
  simp [Dev.reg, Dev.resetRegs, smGet_smClear]

/-! ### Cores -/

theorem Dev.core_setCore (d : Dev) (k j : Nat) (c : Core) : (d.setCore k c).core j = if j = k then c else d.core j := by
  simp [Dev.core, smGet_smPut]

@[simp] theorem Dev.core_setCore_same (d : Dev) (k : Nat) (c : Core) : (d.setCore k c).core k = c := by
  simp [Dev.core_setCore]

theorem Dev.core_setCore_other (d : Dev) {k j : Nat} (h : j ≠ k) (c : Core) : (d.setCore k c).core j = d.core j := by
  simp [Dev.core_setCore, h]

@[simp] theorem Dev.core_modCore_same (d : Dev) (k : Nat) (f : Core → Core) : (d.modCore k f).core k = f (d.core k) := by
  simp [Dev.modCore]

theorem Dev.core_modCore_other (d : Dev) {k j : Nat} (h : j ≠ k) (f : Core → Core) : (d.modCore k f).core j = d.core j := by
  simp [Dev.modCore, Dev.core_setCore_other d h]

theorem Dev.core_congr {d e : Dev} (h : d.cores = e.cores) (k : Nat) : d.core k = e.core k := by simp [Dev.core, h]

@[simp] theorem Dev.reg_modCore (d : Dev) (k : Nat) (f : Core → Core) (o : Nat) : (d.modCore k f).reg o = d.reg o := rfl
@[simp] theorem Dev.fld_modCore (d : Dev) (k : Nat) (f : Core → Core) (g : Fld) : (d.modCore k f).fld g = d.fld g := rfl
@[simp] theorem Dev.reg_setCore (d : Dev) (k : Nat) (c : Core) (o : Nat) : (d.setCore k c).reg o = d.reg o := rfl
@[simp] theorem Dev.fld_setCore (d : Dev) (k : Nat) (c : Core) (g : Fld) : (d.setCore k c).fld g = d.fld g := rfl
@[simp] theorem Dev.core_setReg (d : Dev) (o : Nat) (v : Word64) (k : Nat) : (d.setReg o v).core k = d.core k := rfl
@[simp] theorem Dev.core_setFld (d : Dev) (f : Fld) (v k : Nat) : (d.setFld f v).core k = d.core k := rfl

/-! ### Scalar, vector and mask registers of a core -/

/-- s0 reads 0 (R154). -/
@[simp] theorem Core.sreg_zero (c : Core) : c.sreg 0 = 0 := rfl

/-- What a write of a scalar register leaves: a write to s0 has no effect (R154). -/
theorem Core.sreg_setS (c : Core) (i j : Nat) (v : Word64) :
    (c.setS i v).sreg j = if j = i ∧ i ≠ 0 then v else c.sreg j := by
  unfold Core.setS Core.sreg
  by_cases hi : i = 0
  · simp [hi]
  · by_cases hj : j = 0
    · simp [hi, hj, Ne.symm hi]
    · simp [hi, hj, smGet_smPut]

/-- A write of a scalar register leaves everything else of the core. -/
theorem Core.setS_eq (c : Core) (i : Nat) (v : Word64) : c.setS i v = { c with s := (c.setS i v).s } := by
  unfold Core.setS; split <;> rfl

theorem Core.vreg_setV (c : Core) (r j : Nat) (v : BitVec 8192) (p : BitVec 256) :
    (c.setV r v p).vreg j = if j = r then v else c.vreg j := by simp [Core.vreg, Core.setV, smGet_smPut]

theorem Core.vpois_setV (c : Core) (r j : Nat) (v : BitVec 8192) (p : BitVec 256) :
    (c.setV r v p).vpois j = if j = r then p else c.vpois j := by simp [Core.vpois, Core.setV, smGet_smPut]

theorem Core.vreg_putLanes (c : Core) (r j : Nat) (sel : BitVec 256) (f : Nat → Word32) (p : BitVec 256) :
    (c.putLanes r sel f p).vreg j = if j = r then ofLanes (fun l => if mbit sel l then f l else lane (c.vreg r) l) else c.vreg j := by
  simp [Core.vreg, Core.putLanes, smGet_smPut]

theorem Core.vpois_putLanes (c : Core) (r j : Nat) (sel : BitVec 256) (f : Nat → Word32) (p : BitVec 256) :
    (c.putLanes r sel f p).vpois j = if j = r then (c.vpois r &&& ~~~sel) ||| (sel &&& p) else c.vpois j := by
  simp [Core.vpois, Core.putLanes, smGet_smPut]

/-- Reading registers whose check bits are all clean changes nothing. -/
theorem Dev.readRegs_clean (d : Dev) (k : Nat) (p : Nat → Bool) (h : (d.core k).rchk = []) : d.readRegs k p = d := by
  simp [Dev.readRegs, h]

/-- m0 reads as all ones and takes no write (R135). -/
theorem Core.mask_setM (c : Core) (i j : Nat) (v : BitVec 256) :
    (c.setM i v).mask j = if j = i ∧ i ≠ 0 then v else c.mask j := by
  unfold Core.setM Core.mask
  by_cases hi : i = 0
  · simp [hi]
  · by_cases hj : j = 0
    · simp [hi, hj, Ne.symm hi]
    · simp [hi, hj, smGet_smPut]

theorem Core.setM_eq (c : Core) (i : Nat) (v : BitVec 256) :
    c.setM i v = { c with m := (c.setM i v).m, rchk := (c.setM i v).rchk } := by
  unfold Core.setM; split <;> rfl

/-! ### The queue of commands -/

/-- The canonical form of the register maps holds at reset. -/
theorem reset_regs_wf : smWf regReset State.reset.dev.regs = true := rfl

end Sys2Proof.Machine
end

