-- ==== Sys2Proof/Laws/Core.lean ====
section
/-!
SUPPORT. Sys2Proof/Laws/Core.lean: what the shared operations of a core can do: going on, waiting, trapping, stopping, and
the device event that a stop reports.
-/

namespace Sys2Proof.Machine

/-! ### Frames compose -/

theorem onlyRegs_setReg (d : Dev) (off : Nat) (v : Word64) : onlyRegs d (d.setReg off v) := rfl
theorem onlyRegs_setFld (d : Dev) (f : Fld) (v : Nat) : onlyRegs d (d.setFld f v) := rfl
theorem onlyRegs_refl (d : Dev) : onlyRegs d d := rfl

theorem onlyRegs.trans {d e f : Dev} (h : onlyRegs d e) (h' : onlyRegs e f) : onlyRegs d f := by
  unfold onlyRegs at *; rw [h', h]

theorem onlyRegs.onlyCores {d e : Dev} (h : onlyRegs d e) : onlyCores d e := by
  unfold onlyRegs at h; unfold Machine.onlyCores; rw [h]

theorem onlyRegs.cores {d e : Dev} (h : onlyRegs d e) : e.cores = d.cores := by rw [h]

theorem onlyCores_modCore (d : Dev) (k : Nat) (f : Core → Core) : onlyCores d (d.modCore k f) := rfl
theorem onlyCores_setCore (d : Dev) (k : Nat) (c : Core) : onlyCores d (d.setCore k c) := rfl

theorem onlyCores.trans {d e f : Dev} (h : onlyCores d e) (h' : onlyCores e f) : onlyCores d f := by
  unfold onlyCores at *; rw [h', h]

/-! ### Completions and events -/

/-- Queuing a completion changes only the command processor and its two counters. -/
theorem Dev.completeLocal_reg (d : Dev) (c : Cmd) (reason w0 w1 w2 : Nat) (p : Bool) {off : Nat}
    (_h1 : off ≠ CP_CMD_CNT_ok.off) (_h2 : off ≠ CP_CMD_CNT_failed.off) :
    (d.completeLocal c reason w0 w1 w2 p).reg off = d.reg off := by
  have key : ((d.dropCmd c.id).countSat (if reason = OK then CP_CMD_CNT_ok else CP_CMD_CNT_failed) 1).reg off = d.reg off := by
    unfold Dev.countSat
    rw [Dev.reg_setFld_other]
    · rfl
    · split <;> assumption
  unfold Dev.completeLocal
  cases c.origin <;> exact key

theorem Dev.completeLocal_cores (d : Dev) (c : Cmd) (reason w0 w1 w2 : Nat) (p : Bool) :
    (d.completeLocal c reason w0 w1 w2 p).cores = d.cores := by
  unfold Dev.completeLocal
  cases c.origin <;> rfl

theorem Dev.eventStat_reg (d : Dev) {off : Nat} (h : off ≠ CP_EVENT_STAT_waiting.off) (h' : off ≠ CP_EVENT_STAT_held.off) :
    d.eventStat.reg off = d.reg off := by
  unfold Dev.eventStat
  rw [Dev.reg_setFld_other _ h', Dev.reg_setFld_other _ h]

/-- The registers a device event may change. -/
def eventRegs : List Nat := [CP_CMD_CNT_ok.off, CP_CMD_CNT_failed.off, CP_EVENT_STAT_waiting.off]

/-- A device event changes only the command processor and its registers. -/
theorem Dev.event_reg (d : Dev) (kind w1 w2 : Nat) {off : Nat} (h : off ∉ eventRegs) : (d.event kind w1 w2).reg off = d.reg off := by
  simp only [eventRegs, List.mem_cons, List.not_mem_nil, or_false, not_or] at h
  obtain ⟨h1, h2, h3⟩ := h
  unfold Dev.event
  split
  · rw [Dev.eventStat_reg _ h3 h3]
    show (Dev.completeLocal d _ _ _ _ _ _).reg off = _
    exact Dev.completeLocal_reg _ _ _ _ _ _ _ h1 h2
  · split
    · rw [Dev.eventStat_reg _ h3 h3]; rfl
    · show (d.countSat CP_EVENT_STAT_lost 1).reg off = _
      unfold Dev.countSat
      rw [Dev.reg_setFld_other]; exact h3

theorem Dev.event_fld (d : Dev) (kind w1 w2 : Nat) {f : Fld} (h : f.off ∉ eventRegs) : (d.event kind w1 w2).fld f = d.fld f := by
  unfold Dev.fld; rw [Dev.event_reg d kind w1 w2 h]

theorem Dev.event_cores (d : Dev) (kind w1 w2 : Nat) : (d.event kind w1 w2).cores = d.cores := by
  unfold Dev.event
  split
  · exact Dev.completeLocal_cores _ _ _ _ _ _ _
  · split <;> rfl

/-! ### Going on and waiting -/

theorem SQ_STATUS_fields_off (k : Nat) :
    (SQ_STATUS_pc k).off = SQ_STATUS k ∧ (SQ_STATUS_wait k).off = SQ_STATUS k ∧ (SQ_STATUS_state k).off = SQ_STATUS k ∧
      (SQ_STATUS_reason k).off = SQ_STATUS k := ⟨rfl, rfl, rfl, rfl⟩

/-- Going on at an index inside the store writes the index and ends a wait, in SQ_STATUS alone. -/
theorem Dev.goTo_inside (d : Dev) (k n : Nat) (h : n ≤ 8191) :
    d.goTo k n = (d.setFld (SQ_STATUS_pc k) n).setFld (SQ_STATUS_wait k) 0 := by
  unfold Dev.goTo; rw [if_neg (by omega)]

/-- The fields of SQ_STATUS that going on writes, read back. -/
theorem Dev.setPc_setWait_fld (d : Dev) (k n : Nat) (h : n ≤ 8191) :
    ((d.setFld (SQ_STATUS_pc k) n).setFld (SQ_STATUS_wait k) 0).fld (SQ_STATUS_pc k) = n := by
  rw [Dev.fld_setFld_bits _ (by simp [SQ_STATUS_wait]) (by simp [SQ_STATUS_wait]) (by simp [SQ_STATUS_wait, SQ_STATUS_pc]),
    Dev.fld_setFld_same _ _ _ (by simp [SQ_STATUS_pc]) (by simp [SQ_STATUS_pc])]
  simp only [SQ_STATUS_pc]
  omega

theorem Dev.goTo_goesOn (d : Dev) (k n : Nat) (h : n ≤ 8191) : goesOn k n d (d.goTo k n) := by
  rw [Dev.goTo_inside d k n h]
  have hpc := Dev.setPc_setWait_fld d k n h
  have hr := (onlyRegs_setFld d (SQ_STATUS_pc k) n).trans (onlyRegs_setFld _ (SQ_STATUS_wait k) 0)
  refine ⟨hr.onlyCores, fun j _ => Dev.core_congr hr.cores j, ?_, hpc, ?_, ?_, ?_⟩
  · intro off hoff
    have ho : off ≠ SQ_STATUS k := by simpa using hoff
    rw [Dev.reg_setFld_other _ ho, Dev.reg_setFld_other _ ho]
  · rw [Dev.fld_setFld_same _ _ _ (by simp [SQ_STATUS_wait]) (by simp [SQ_STATUS_wait]), Nat.zero_mod]
  · unfold Dev.coreState
    rw [Dev.fld_setFld_bits _ (by simp [SQ_STATUS_wait]) (by simp [SQ_STATUS_wait]) (by simp [SQ_STATUS_wait, SQ_STATUS_state]),
      Dev.fld_setFld_bits _ (by simp [SQ_STATUS_pc]) (by simp [SQ_STATUS_pc]) (by simp [SQ_STATUS_pc, SQ_STATUS_state])]
  · rw [Dev.fld_setFld_bits _ (by simp [SQ_STATUS_wait]) (by simp [SQ_STATUS_wait]) (by simp [SQ_STATUS_wait, SQ_STATUS_reason]),
      Dev.fld_setFld_bits _ (by simp [SQ_STATUS_pc]) (by simp [SQ_STATUS_pc]) (by simp [SQ_STATUS_pc, SQ_STATUS_reason])]

theorem Dev.goTo_cores (d : Dev) (k n : Nat) (h : n ≤ 8191) : (d.goTo k n).cores = d.cores := by
  rw [Dev.goTo_inside d k n h]; rfl

/-- A result to a scalar register that goes on inside the store. -/
theorem Dev.scalarResult_spec (d : Dev) (k hi : Nat) (v : Word64) (hp : d.pc k < 8191) :
    writesScalar k (regField (d.instr k) hi) v d (d.scalarResult k hi v) ∧ goesOn k (d.pc k + 1) d (d.scalarResult k hi v) := by
  show _ ∧ goesOn k (d.pc k + 1) d ((d.modCore k fun c => c.setS (regField (d.instr k) hi) v).goTo k (d.pc k + 1))
  obtain ⟨h1, h2, h3, h4, h5, h6, h7⟩ :=
    Dev.goTo_goesOn (d.modCore k fun c => c.setS (regField (d.instr k) hi) v) k (d.pc k + 1) (by omega)
  have hc : (d.scalarResult k hi v).cores = (d.modCore k fun c => c.setS (regField (d.instr k) hi) v).cores :=
    Dev.goTo_cores (d.modCore k fun c => c.setS (regField (d.instr k) hi) v) k (d.pc k + 1) (by omega)
  refine ⟨⟨?_, fun i => ?_⟩, (onlyCores_modCore _ _ _).trans h1, fun j hj => ?_, fun o ho => ?_, h4, h5, h6, h7⟩
  · rw [Dev.core_congr hc, Dev.core_modCore_same]; exact Core.setS_eq _ _ _
  · rw [Dev.core_congr hc, Dev.core_modCore_same, Core.sreg_setS]
    by_cases hi : i = regField (d.instr k) hi
    · subst hi; rfl
    · simp [hi]
  · rw [h2 j hj, Dev.core_modCore_other _ hj]
  · rw [h3 o ho]; rfl

/-! ### Traps and stops -/

/-- A core that leaves state 1 has the new state, no wait and run clear; of the registers only SQ_STATUS and SQ_CTRL change. -/
theorem Dev.leaveRun_reg (d : Dev) (k st : Nat) {off : Nat} (h1 : off ≠ SQ_STATUS k) (h2 : off ≠ SQ_CTRL k) :
    (d.leaveRun k st).reg off = d.reg off := by
  unfold Dev.leaveRun
  rw [Dev.reg_setFld_other _ h2, Dev.reg_setFld_other _ h1, Dev.reg_setFld_other _ h1]
  exact Dev.reg_congr rfl off

theorem SQ_CTRL_ne_STATUS (k : Nat) : SQ_CTRL k ≠ SQ_STATUS k := by
  unfold SQ_CTRL SQ_STATUS; omega

theorem Dev.leaveRun_state (d : Dev) (k st : Nat) (h : st < 8) : (d.leaveRun k st).coreState k = st := by
  unfold Dev.leaveRun Dev.coreState
  rw [Dev.fld_setFld_reg _ (show (SQ_STATUS_state k).off ≠ (SQ_CTRL_run k).off from (SQ_CTRL_ne_STATUS k).symm),
    Dev.fld_setFld_bits _ (by simp [SQ_STATUS_wait]) (by simp [SQ_STATUS_wait]) (by simp [SQ_STATUS_wait, SQ_STATUS_state]),
    Dev.fld_setFld_same _ _ _ (by simp [SQ_STATUS_state]) (by simp [SQ_STATUS_state])]
  exact Nat.mod_eq_of_lt (by simpa [SQ_STATUS_state] using h)

theorem Dev.leaveRun_run (d : Dev) (k st : Nat) : (d.leaveRun k st).flag (SQ_CTRL_run k) = false := by
  unfold Dev.leaveRun Dev.flag
  rw [Dev.fld_setFld_same _ _ _ (by simp [SQ_CTRL_run]) (by simp [SQ_CTRL_run])]
  rfl

/-- The offsets of a core's page are no event registers. -/
theorem core_page_not_event {off : Nat} (h : 0x10000000 ≤ off) : off ∉ eventRegs := by
  simp [eventRegs, CP_CMD_CNT_ok, CP_CMD_CNT_failed, CP_EVENT_STAT_waiting, CP_CMD_CNT, CP_EVENT_STAT]
  omega

/-- A trap of a running core: state 2, run clear, and the trap registers (R187, Table 5-19). -/
theorem Dev.trapWith_spec (d : Dev) (k code queue pc reason addr swcode : Nat) (h : d.coreState k = 1) :
    (d.trapWith k code queue pc reason addr swcode).coreState k = 2 ∧
    (d.trapWith k code queue pc reason addr swcode).flag (SQ_CTRL_run k) = false ∧
    (d.trapWith k code queue pc reason addr swcode).reg (SQ_TRAP k) = BitVec.ofNat 64
      (code + pc % 2 ^ 13 * 2 ^ 16 + queue % 4 * 2 ^ 30 + swcode % 2 ^ 16 * 2 ^ 32 + reason % 2 ^ 16 * 2 ^ 48) ∧
    (d.trapWith k code queue pc reason addr swcode).reg (SQ_TRAP_ADDR k) = BitVec.ofNat 64 addr := by
  have hs : SQ_STATUS k ∉ eventRegs := core_page_not_event (by unfold SQ_STATUS; omega)
  have hc : SQ_CTRL k ∉ eventRegs := core_page_not_event (by unfold SQ_CTRL; omega)
  have ht : SQ_TRAP k ∉ eventRegs := core_page_not_event (by unfold SQ_TRAP; omega)
  have ha : SQ_TRAP_ADDR k ∉ eventRegs := core_page_not_event (by unfold SQ_TRAP_ADDR; omega)
  have n1 : SQ_TRAP k ≠ SQ_STATUS k := by unfold SQ_TRAP SQ_STATUS; omega
  have n2 : SQ_TRAP k ≠ SQ_CTRL k := by unfold SQ_TRAP SQ_CTRL; omega
  have n3 : SQ_TRAP_ADDR k ≠ SQ_STATUS k := by unfold SQ_TRAP_ADDR SQ_STATUS; omega
  have n4 : SQ_TRAP_ADDR k ≠ SQ_CTRL k := by unfold SQ_TRAP_ADDR SQ_CTRL; omega
  have n5 : SQ_TRAP k ≠ SQ_TRAP_ADDR k := by unfold SQ_TRAP SQ_TRAP_ADDR; omega
  unfold Dev.trapWith
  rw [if_neg (by omega)]
  refine ⟨?_, ?_, ?_, ?_⟩
  · unfold Dev.coreState
    rw [Dev.event_fld _ _ _ _ (by exact hs), Dev.fld_modCore]
    exact Dev.leaveRun_state _ k 2 (by omega)
  · unfold Dev.flag
    rw [Dev.event_fld _ _ _ _ (by exact hc), Dev.fld_modCore]
    exact Dev.leaveRun_run _ k 2
  · rw [Dev.event_reg _ _ _ _ ht, Dev.reg_modCore, Dev.leaveRun_reg _ _ _ n1 n2, Dev.reg_setReg_other _ n5,
      Dev.reg_setReg_same]
  · rw [Dev.event_reg _ _ _ _ ha, Dev.reg_modCore, Dev.leaveRun_reg _ _ _ n3 n4, Dev.reg_setReg_same]

theorem Dev.leaveRun_cores (d : Dev) (k st : Nat) :
    (d.leaveRun k st).cores = (d.modCore k fun c => { c with
      mq := c.mq.filter (·.started), vq := c.vq.filter (·.started), dq := c.dq.filter (·.started), loadId := 0 }).cores := by
  unfold Dev.leaveRun Dev.leaveBarriers
  simp only [Dev.setFld_cores]

/-- A core that traps keeps its scalar registers, and every other core is as before. -/
theorem Dev.trapWith_core (d : Dev) (k code queue pc reason addr swcode : Nat) (h : d.coreState k = 1) :
    ((d.trapWith k code queue pc reason addr swcode).core k).s = (d.core k).s ∧
      coresBut k d (d.trapWith k code queue pc reason addr swcode) := by
  unfold Dev.trapWith
  rw [if_neg (by omega)]
  constructor
  · rw [Dev.core_congr (Dev.event_cores _ _ _ _), Dev.core_modCore_same]
    rw [Dev.core_congr (Dev.leaveRun_cores _ _ _), Dev.core_modCore_same]
    rfl
  · intro j hj
    rw [Dev.core_congr (Dev.event_cores _ _ _ _), Dev.core_modCore_other _ hj,
      Dev.core_congr (Dev.leaveRun_cores _ _ _), Dev.core_modCore_other _ hj]
    rfl

/-! ### Issuing -/

/-- What issuing an instruction of a group and operation supposes. -/
theorem Dev.issues_spec {d : Dev} {k g op : Nat} (h : d.issues k g op = true) :
    k < 960 ∧ d.coreState k = 1 ∧ (d.core k).loadId = 0 ∧ d.instrBad k = false ∧ legal (d.instr k) = true ∧
      grp (d.instr k) = g ∧ opc (d.instr k) = op := by
  simp only [Dev.issues, Dev.sequencing, Bool.and_eq_true, decide_eq_true_eq, beq_iff_eq, Bool.not_eq_true'] at h
  tauto

theorem Dev.pc_le (d : Dev) (k : Nat) : d.pc k ≤ 8191 := by
  have := d.fld_lt (SQ_STATUS_pc k)
  simp [SQ_STATUS_pc] at this
  unfold Dev.pc
  simp only [SQ_STATUS_pc]
  omega

end Sys2Proof.Machine
end

