-- ==== Sys2Proof/Laws/Memory.lean ====
section
/-!
SUPPORT. Sys2Proof/Laws/Memory.lean: what a memory operation can do.  Reading after writing cells and host memory; every
memory operation keeps the canonical form; reset memory has it; no memory operation touches a core or host memory.
-/

namespace Sys2Proof.Machine

/-! ### Cells: read after write -/

/-- What a key reads as after bytes are stored from key a. -/
theorem smGet_putBytes (l : List Byte) : ∀ (m : List Host.Cell) (a k : Nat),
    smGet zeroByte (putBytes m a l) k = if a ≤ k ∧ k < a + l.length then l.getD (k - a) 0 else smGet zeroByte m k := by
  induction l with
  | nil => intro m a k; rw [if_neg (by simp)]; rfl
  | cons b t ih =>
    intro m a k
    rw [putBytes, ih]
    simp only [List.length_cons]
    by_cases h1 : a + 1 ≤ k ∧ k < a + 1 + t.length
    · rw [if_pos h1, if_pos (by omega)]
      have : k - a = (k - (a + 1)) + 1 := by omega
      rw [this, List.getD_cons_succ]
    · rw [if_neg h1, smGet_smPut]
      by_cases h2 : k = a
      · subst h2; simp
      · rw [if_neg h2, if_neg (by omega)]

/-- A key after Dev.putCells. -/
theorem Dev.cell_putCells (d : Dev) (a k : Nat) (l : List Byte) :
    (d.putCells a l).cell k = if a ≤ k ∧ k < a + l.length then l.getD (k - a) 0 else d.cell k := smGet_putBytes l _ _ _

/-- The check bits of a word after Dev.setChk. -/
theorem Dev.chkAt_setChk (d : Dev) (a k : Nat) (c : BitVec 16) :
    (d.setChk a c).chkAt k = if k / 16 = a / 16 then c else d.chkAt k := smGet_smPut _ _ _ _ _

/-- A key after Dev.zeroKeys. -/
theorem Dev.cell_zeroKeys (d : Dev) (lo hi k : Nat) :
    (d.zeroKeys lo hi).cell k = if lo ≤ k ∧ k < hi then 0 else d.cell k := smGet_smClear _ _ _ _ _

/-- Bytes of host memory after a write of host memory. -/
theorem Dev.host_hostWrite (d : Dev) (a k : Nat) (l : List Byte) :
    smGet zeroByte (d.hostWrite a l).host k = if a ≤ k ∧ k < a + l.length then l.getD (k - a) 0 else smGet zeroByte d.host k :=
  smGet_putBytes l _ _ _

/-! ### The canonical form -/

theorem smWf_putBytes (l : List Byte) : ∀ {m : List Host.Cell} (a : Nat), smWf zeroByte m = true →
    smWf zeroByte (putBytes m a l) = true := by
  induction l with
  | nil => intro m a h; exact h
  | cons b t ih => intro m a h; exact ih (a + 1) (smWf_smPut h a b)

/-- The four maps of a memory in canonical form. -/
theorem Ram.wf_iff (r : Ram) : r.wf = true ↔
    smWf zeroByte r.cells = true ∧ smWf (fun _ => (0 : BitVec 16)) r.chk = true ∧ smWf (fun _ => false) r.istoreBad = true ∧
      smWf (fun _ => (0 : BitVec 16)) r.flits = true := by
  simp [Ram.wf, and_assoc]

theorem hostWrite_wf {d : Dev} (h : smWf zeroByte d.host = true) (a : Nat) (l : List Byte) :
    smWf zeroByte (d.hostWrite a l).host = true := smWf_putBytes l a h

theorem putCells_wf {d : Dev} (h : d.ram.wf = true) (a : Nat) (l : List Byte) : (d.putCells a l).ram.wf = true := by
  rw [Ram.wf_iff] at h ⊢; exact ⟨smWf_putBytes l a h.1, h.2⟩

theorem setChk_wf {d : Dev} (h : d.ram.wf = true) (a : Nat) (c : BitVec 16) : (d.setChk a c).ram.wf = true := by
  rw [Ram.wf_iff] at h ⊢; exact ⟨h.1, smWf_smPut h.2.1 _ _, h.2.2⟩

theorem zeroKeys_wf {d : Dev} (h : d.ram.wf = true) (lo hi : Nat) : (d.zeroKeys lo hi).ram.wf = true := by
  rw [Ram.wf_iff] at h ⊢; exact ⟨smWf_smClear h.1 _ _, smWf_smClear h.2.1 _ _, h.2.2⟩

theorem flipSymbol_wf {d : Dev} (h : d.ram.wf = true) (key i v : Nat) : (d.flipSymbol key i v).ram.wf = true :=
  putCells_wf h _ _

@[simp] theorem Dev.hotEnter_ram (d : Dev) (s a : Nat) : (d.hotEnter s a).ram = d.ram := by
  unfold Dev.hotEnter; split <;> rfl

/-- Counting a corrected word changes no memory. -/
@[simp] theorem Dev.countCorrected_ram (d : Dev) (u : MemUnit) (a : Nat) : (d.countCorrected u a).ram = d.ram := by
  cases u <;> simp [Dev.countCorrected]

/-- Counting an uncorrectable word changes no memory. -/
@[simp] theorem Dev.countBad_ram (d : Dev) (u : MemUnit) (a : Nat) : (d.countBad u a).ram = d.ram := by
  cases u <;> simp [Dev.countBad]

theorem scrubWord_wf {d : Dev} (h : d.ram.wf = true) (a : Nat) : (d.scrubWord a).ram.wf = true := by
  unfold Dev.scrubWord
  cases d.place a with
  | none => exact h
  | some p =>
    dsimp only
    cases veinDecode (d.chkAt p.key) with
    | clean => exact h
    | poisoned => exact h
    | data i v => rw [Dev.countCorrected_ram]; exact setChk_wf (flipSymbol_wf h _ _ _) _ _
    | check => rw [Dev.countCorrected_ram]; exact setChk_wf h _ _
    | bad => rw [Dev.countBad_ram]; exact setChk_wf h _ _

/-- Counting a corrected or an uncorrectable flit changes no memory, and forgetting one keeps the canonical form. -/
theorem linkWord_wf {d : Dev} (h : d.ram.wf = true) (a : Nat) : (d.linkWord a).ram.wf = true := by
  unfold Dev.linkWord
  split
  · have hf : ∀ (w : Nat) (l : List Nat),
        Ram.wf { d.ram with flits := smPut (fun _ => (0 : BitVec 16)) d.ram.flits w 0, inFlight := l } = true := by
      intro w l
      rw [Ram.wf_iff] at h ⊢
      exact ⟨h.1, h.2.1, h.2.2.1, smWf_smPut h.2.2.2 _ _⟩
    dsimp only
    split <;> simp only [Dev.raise_ram] <;> exact hf _ _
  · exact h

theorem readWord_wf {d : Dev} (h : d.ram.wf = true) (a : Nat) : (d.readWord a).ram.wf = true :=
  linkWord_wf (scrubWord_wf h a) a

/-- Reading a range through the decoder keeps the canonical form. -/
theorem scrub_wf {d : Dev} (h : d.ram.wf = true) (a n : Nat) : (d.scrub a n).ram.wf = true := by
  unfold Dev.scrub
  generalize wordsOf a n = l
  induction l generalizing d with
  | nil => exact h
  | cons w t ih => exact ih (readWord_wf h w)

theorem injectSymbol_wf {d : Dev} (h : d.ram.wf = true) (key sym v : Nat) : (d.injectSymbol key sym v).ram.wf = true := by
  unfold Dev.injectSymbol
  split
  · exact setChk_wf (flipSymbol_wf h _ _ _) _ _
  · split
    · exact setChk_wf h _ _
    · exact h

theorem injectAt_wf {d : Dev} (h : d.ram.wf = true) (u : MemUnit) (a key : Nat) : (d.injectAt u a key).ram.wf = true := by
  unfold Dev.injectAt
  cases u with
  | hbm s =>
    dsimp only
    split
    · rw [Dev.setFld_ram]; exact injectSymbol_wf (injectSymbol_wf h _ _ _) _ _ _
    · exact h
  | seam _ => exact h
  | scratch _ => exact h
  | cluster _ _ => exact h

theorem storeWord_wf {d : Dev} (h : d.ram.wf = true) (a : Nat) (l : List Byte) (poison : Bool) :
    (d.storeWord a l poison).ram.wf = true := by
  unfold Dev.storeWord
  cases d.place a with
  | none => exact h
  | some p =>
    dsimp only
    apply injectAt_wf
    have hs : (if l.length = 16 then d else d.scrubWord a).ram.wf = true := by
      split
      · exact h
      · exact scrubWord_wf h a
    have ht := setChk_wf (putCells_wf hs p.key l) p.key
      (if (poison || (decide (l.length ≠ 16) && (if l.length = 16 then d else d.scrubWord a).chkAt p.key == poisonMark)) = true
        then poisonMark else 0)
    rw [Ram.wf_iff] at ht ⊢
    exact ht

theorem storeParts_wf (poison : Nat → Bool) : ∀ (ws : List Nat) {d : Dev} (_ : d.ram.wf = true) (a : Nat) (l : List Byte),
    (d.storeParts ws a l poison).ram.wf = true
  | [], _, h, _, _ => h
  | _ :: ws, _, h, _, _ => storeParts_wf poison ws (storeWord_wf h _ _ _) _ _

/-- Writing a range keeps the canonical form. -/
theorem write_wf {d : Dev} (h : d.ram.wf = true) (a : Nat) (l : List Byte) (poison : Nat → Bool) :
    (d.write a l poison).ram.wf = true := storeParts_wf poison _ h a l

theorem writeClean_wf {d : Dev} (h : d.ram.wf = true) (a : Nat) (l : List Byte) : (d.writeClean a l).ram.wf = true :=
  write_wf h a l _

/-- Reset memory and reset host memory list nothing, and are in canonical form. -/
theorem reset_ram_wf : State.reset.dev.ram.wf = true ∧ smWf zeroByte State.reset.dev.host = true := ⟨rfl, rfl⟩

end Sys2Proof.Machine
end

