-- ==== Sys2Proof/WellFormed.lean ====
section
/-!
DEFINITION. Sys2Proof/WellFormed.lean: which commands name units and operands that the spec gives the device.  A command outside
these ranges changes nothing that the spec describes; only the accesses that the spec itself refuses (R17, R393) may
carry any operand.
-/

namespace Sys2Proof


/-- An access within the 64 GiB of BAR2 (Table 11-3), of at least one byte. -/
def bar2Ok (off len : Nat) : Bool := decide (1 ≤ len) && decide (off + len ≤ 2 ^ 36)

/-- What a slot holds from the header to the CRC (Table 7-3). -/
def cellBytesOk (l : List (BitVec 8)) : Bool := l.length == 320

/-- A sweep reads all 16 colours (R256). -/
def sweepOk (l : List ColourSweep) : Bool := l.length == 16

/-- One voltage margin for each die, one timing margin for each cluster (R442). -/
def marginsOk (voltage timing : List Int) : Bool := voltage.length == 12 && timing.length == 96

/-- Straps of the 17 positions (Table 1-3), and physical cores of 12 dies. -/
def reportOk (r : StageReport) : Bool := r.straps.length == 17 && r.failedCores.all fun k => decide (k < 1056)

/-- A sensor that its zone may have (Table 13-13). -/
def readingOk (r : SensorReading) : Bool := decide (r.zone < 40) && decide (r.sensor < 32)

/-- The command names only units and operands that the device has. -/
def Instr.wf : Instr → Bool
  | .registerWrite _ _ _ => true
  | .rcRead _ _ => true
  | .moduleReset => true
  | .pwrEnAssert _ _ _ => true
  | .railStepDone => true
  | .railTimeout rail => decide (rail < 54)
  | .pwrEnDeassert => true
  | .railDischargeStep => true
  | .bootStart => true
  | .bootStageEnd report => reportOk report
  | .sorarnWatchdog mgmtCore => decide (mgmtCore < 4)
  | .hostInterfaceReset _ => true
  | .pcieLinkTrained _ _ => true
  | .bar2Read offset len => bar2Ok offset len
  | .bar2Write offset data _ => bar2Ok offset data.length
  | .sqTailDoorbell q _ _ _ => decide (q < 64)
  | .cqHeadDoorbell q _ _ => decide (q < 64)
  | .commandBegin q => decide (q < 64)
  | .atFrameBegin _ => true
  | .completionPost q => decide (q < 64)
  | .nop _ => true
  | .legendRead _ => true
  | .qpCreate _ => true
  | .qpDelete _ => true
  | .reset _ => true
  | .moduleResetDelayed => true
  | .memoryInitDone die cluster core => decide (die < 12) && decide (cluster < 8) && decide (core < 11)
  | .seamInitDone die => decide (die < 12)
  | .regWrite _ => true
  | .awaitEvent _ => true
  | .copy _ => true
  | .fill _ => true
  | .assay _ => true
  | .assayComplete _ => true
  | .assayStop _ => true
  | .launch _ => true
  | .launchComplete _ => true
  | .stop _ => true
  | .spareSwap _ => true
  | .bist _ _ => true
  | .offline _ => true
  | .online _ failedCores _ => failedCores.all fun k => decide (k < 1056)
  | .mapLoad _ => true
  | .mapSwitch => true
  | .evict _ => true
  | .readmit _ => true
  | .routeQuery _ => true
  | .collStart _ => true
  | .collCancel _ => true
  | .digestCompare _ => true
  | .faultClear _ => true
  | .faultLogRead _ => true
  | .telemetryRead _ => true
  | .contourPersist _ => true
  | .driftOffline _ => true
  | .driftRetest _ => true
  | .fwStage _ => true
  | .fwHandover _ => true
  | .fwHandoverSwitch component _ => decide (component < 5)
  | .fwHandoverComplete component => decide (component < 5)
  | .attest _ => true
  | .certRead _ => true
  | .testAuth _ => true
  | .testAuthExpiry => true
  | .rollbackAdvance _ => true
  | .thermalRead _ => true
  | .clockLimit _ => true
  | .remoteCmd _ => true
  | .remoteCpl _ => true
  | .remoteCmdTimeout _ => true
  | .cpCtrlEnable _ => true
  | .cpApertureWrite k _ => decide (k < 16)
  | .frameBoundary => true
  | .batchWrite => true
  | .gdBatchArm _ => true
  | .gdBatchCancel _ => true
  | .gdCtrlEnable _ => true
  | .datumAnnounceSend => true
  | .datumAnnounce _ => true
  | .masterTakeover => true
  | .holdoverEntry => true
  | .holdoverExpired => true
  | .coldStartListenEnd => true
  | .rangingSend port => decide (port < 6)
  | .rangingCell _ _ => true
  | .alignmentLoss port colour => decide (port < 6) && decide (colour < 16)
  | .syncSteer => true
  | .gridWaitResume core => decide (core < 960)
  | .instructionIssue core => decide (core < 960)
  | .queuedInstructionComplete core _ _ => decide (core < 960)
  | .sAdd core => decide (core < 960)
  | .sSub core => decide (core < 960)
  | .sMul core => decide (core < 960)
  | .sAnd core => decide (core < 960)
  | .sOr core => decide (core < 960)
  | .sXor core => decide (core < 960)
  | .sShl core => decide (core < 960)
  | .sShr core => decide (core < 960)
  | .sSra core => decide (core < 960)
  | .slt core => decide (core < 960)
  | .sltu core => decide (core < 960)
  | .sMin core => decide (core < 960)
  | .sMax core => decide (core < 960)
  | .li core => decide (core < 960)
  | .lih core => decide (core < 960)
  | .rdspr core => decide (core < 960)
  | .beq core => decide (core < 960)
  | .bne core => decide (core < 960)
  | .blt core => decide (core < 960)
  | .bge core => decide (core < 960)
  | .bltu core => decide (core < 960)
  | .bgeu core => decide (core < 960)
  | .jmp core => decide (core < 960)
  | .jal core => decide (core < 960)
  | .jr core => decide (core < 960)
  | .mrun core => decide (core < 960)
  | .mcfg core => decide (core < 960)
  | .mface core => decide (core < 960)
  | .mdrain core => decide (core < 960)
  | .drainRowWrite core engine => decide (core < 960) && decide (engine < 4)
  | .fadd core => decide (core < 960)
  | .fsub core => decide (core < 960)
  | .fmul core => decide (core < 960)
  | .ffma core => decide (core < 960)
  | .fmin core => decide (core < 960)
  | .fmax core => decide (core < 960)
  | .fabs core => decide (core < 960)
  | .fneg core => decide (core < 960)
  | .fcmpeq core => decide (core < 960)
  | .fcmpne core => decide (core < 960)
  | .fcmplt core => decide (core < 960)
  | .fcmple core => decide (core < 960)
  | .select core => decide (core < 960)
  | .frecip core => decide (core < 960)
  | .frsqrt core => decide (core < 960)
  | .fsqrt core => decide (core < 960)
  | .fexp2 core => decide (core < 960)
  | .flog2 core => decide (core < 960)
  | .fredadd core => decide (core < 960)
  | .fredmax core => decide (core < 960)
  | .fredmin core => decide (core < 960)
  | .rotate core => decide (core < 960)
  | .iadd core => decide (core < 960)
  | .isub core => decide (core < 960)
  | .imul core => decide (core < 960)
  | .vAnd core => decide (core < 960)
  | .vOr core => decide (core < 960)
  | .vXor core => decide (core < 960)
  | .vShl core => decide (core < 960)
  | .vShr core => decide (core < 960)
  | .vSra core => decide (core < 960)
  | .imin core => decide (core < 960)
  | .imax core => decide (core < 960)
  | .icmpeq core => decide (core < 960)
  | .icmplt core => decide (core < 960)
  | .icmpltu core => decide (core < 960)
  | .mand core => decide (core < 960)
  | .mor core => decide (core < 960)
  | .mxor core => decide (core < 960)
  | .mnot core => decide (core < 960)
  | .viAdd core => decide (core < 960)
  | .viSub core => decide (core < 960)
  | .viRsub core => decide (core < 960)
  | .viMul core => decide (core < 960)
  | .viMin core => decide (core < 960)
  | .viMax core => decide (core < 960)
  | .viCmpeq core => decide (core < 960)
  | .viCmplt core => decide (core < 960)
  | .viCmple core => decide (core < 960)
  | .viAnd core => decide (core < 960)
  | .viOr core => decide (core < 960)
  | .viXor core => decide (core < 960)
  | .viShl core => decide (core < 960)
  | .viShr core => decide (core < 960)
  | .viSra core => decide (core < 960)
  | .viMov core => decide (core < 960)
  | .cvt core => decide (core < 960)
  | .narrow core => decide (core < 960)
  | .widen core => decide (core < 960)
  | .vld core => decide (core < 960)
  | .vst core => decide (core < 960)
  | .sld core => decide (core < 960)
  | .sst core => decide (core < 960)
  | .atom core => decide (core < 960)
  | .dcopy core => decide (core < 960)
  | .ddesc core => decide (core < 960)
  | .dgather core => decide (core < 960)
  | .dmaCopyEnd _ => true
  | .narrowAccessStart stack => decide (stack < 16)
  | .twait core => decide (core < 960)
  | .tread core => decide (core < 960)
  | .tset core => decide (core < 960)
  | .tadd core => decide (core < 960)
  | .msend core => decide (core < 960)
  | .messageSend _ => true
  | .fence core => decide (core < 960)
  | .swait core => decide (core < 960)
  | .ssig core => decide (core < 960)
  | .bar core => decide (core < 960)
  | .gwait core => decide (core < 960)
  | .gread core => decide (core < 960)
  | .trap core => decide (core < 960)
  | .halt core => decide (core < 960)
  | .waitLimitExpiry core => decide (core < 960)
  | .sqCtrlRun core _ => decide (core < 960)
  | .sqCtrlStop core _ => decide (core < 960)
  | .sqCtrlResume core _ => decide (core < 960)
  | .sqSrSeedWrite core _ => decide (core < 960)
  | .hfHbmModeWrite _ => true
  | .mcCtrlOffline stack _ => decide (stack < 16)
  | .stackTrainingDone stack _ => decide (stack < 16)
  | .stackChangeDone stack => decide (stack < 16)
  | .mcRepairProgram stack _ => decide (stack < 16)
  | .mcRepairQuery stack _ => decide (stack < 16)
  | .repairProgramDone stack => decide (stack < 16)
  | .mcInjectWrite stack _ => decide (stack < 16)
  | .cellSend port lane slot _ => decide (port < 6) && decide (lane < 32) && decide (slot < 16)
  | .cellReceive port lane slot bytes => decide (port < 6) && decide (lane < 32) && decide (slot < 16) && cellBytesOk bytes
  | .cellLifetimeExpiry _ => true
  | .cageEscape _ => true
  | .bellSend port slot => decide (port < 6) && decide (slot < 15)
  | .credit _ => true
  | .contourUpdate drift => decide (drift < 6)
  | .drContourArm drift _ => decide (drift < 6)
  | .drContourCancel drift _ => decide (drift < 6)
  | .contourCommit drift => decide (drift < 6)
  | .contourCopyDone drift => decide (drift < 6)
  | .recalStart drift lane => decide (drift < 6) && decide (lane < 32)
  | .recalSweepEnd drift lane sweep => decide (drift < 6) && decide (lane < 32) && sweepOk sweep
  | .recalReturn drift lane => decide (drift < 6) && decide (lane < 32)
  | .autoRecal drift lane => decide (drift < 6) && decide (lane < 32)
  | .misdeliveryNoticeSend _ => true
  | .misdelivery _ => true
  | .slopeCheck drift => decide (drift < 6)
  | .holdRelease drift => decide (drift < 6)
  | .laneHoldRelease drift lane => decide (drift < 6) && decide (lane < 32)
  | .colourCheckEnd drift lane _ => decide (drift < 6) && decide (lane < 32)
  | .drCtrlEnable drift _ => decide (drift < 6)
  | .laneCalDone drift lane _ => decide (drift < 6) && decide (lane < 32)
  | .loopbackStage port _ => decide (port < 6)
  | .drLaneRecal drift lane _ => decide (drift < 6) && decide (lane < 32)
  | .drLaneUnquar drift lane _ => decide (drift < 6) && decide (lane < 32)
  | .drLaneDisable drift lane _ => decide (drift < 6) && decide (lane < 32)
  | .fbCtrlEnable _ => true
  | .fbResurvey _ => true
  | .surveyProbeSend port colour => decide (port < 6) && decide (colour < 16)
  | .surveyProbe _ => true
  | .surveyReply _ => true
  | .laneProbe _ => true
  | .surveyAbsentTimeout port y => decide (port < 6) && decide (y < 16)
  | .portDegradedRecovery port => decide (port < 6)
  | .fbPlanArm port _ => decide (port < 6)
  | .fbPlanCancel port _ => decide (port < 6)
  | .planAnnounceSend port => decide (port < 6)
  | .planAnnounce _ => true
  | .planCancel _ => true
  | .planAgreementCheck port => decide (port < 6)
  | .planSwitch port => decide (port < 6)
  | .planFallback port => decide (port < 6)
  | .epochAnnounce _ => true
  | .routeBuild => true
  | .epochSwitch => true
  | .rowRequestSend _ => true
  | .rowReadRequest _ => true
  | .rowWriteRequest _ => true
  | .rowAtomicRequest _ => true
  | .atomicExecute _ => true
  | .readData _ => true
  | .writeAck _ => true
  | .atomicReply _ => true
  | .rowRefusal _ => true
  | .rowRequestTimeout _ => true
  | .messageData _ => true
  | .messageAccepted _ => true
  | .messageRefused _ => true
  | .messageTimeout _ => true
  | .messageAssemblyTimeout _ => true
  | .hfTallyWrite tally _ => decide (tally < 65536)
  | .hfMboxConsWrite mailbox _ => decide (mailbox < 1024)
  | .hfMboxCtrlWrite mailbox _ => decide (mailbox < 1024)
  | .ceSubmit _ => true
  | .ceCtrlEnable _ => true
  | .ceGroupValid group _ => decide (group < 4096)
  | .collBegin _ => true
  | .collectiveCell _ => true
  | .collCellAccept _ => true
  | .collDeadline _ => true
  | .collAbort _ => true
  | .collAbortRepeat _ => true
  | .collDone _ => true
  | .collDoneRepeat _ => true
  | .digestReq _ => true
  | .digestRep _ => true
  | .faultEvent => true
  | .ftClearWrite _ => true
  | .ftCanaryEnable _ => true
  | .ftCanaryRejoin _ => true
  | .heartbeatSend => true
  | .heartbeat _ => true
  | .heartbeatMiss x => decide (x < 49)
  | .suspectSend x => decide (x < 16)
  | .suspect _ => true
  | .retract _ => true
  | .voteLapse a b => decide (a < 16) && decide (b < 16)
  | .canaryVerdict x => decide (x < 16)
  | .verdictAnnounceFallback x => decide (x < 16)
  | .selfDead _ => true
  | .minorityFence => true
  | .marginSample voltage timing => marginsOk voltage timing
  | .sensorSample readings => readings.all readingOk
  | .graceExpiry zone => decide (zone < 40)
  | .thermalStepDown zone => decide (zone < 40)
  | .thermalStepUp zone => decide (zone < 40)
  | .criticalStretchEnd zone => decide (zone < 40)
  | .powerSample _ _ _ _ => true
  | .powerStepDown => true
  | .powerStepUp => true
  | .powerStretchEnd => true
  | .tmCtrlEnable _ => true
  | .grefPresent => true
  | .grefLost => true
  | .i3cRead _ => true
  | .i3cShutdownClear _ => true
  | .bypass _ _ => true
  | .idcode => true
  | .samplePreload _ _ => true
  | .extest _ _ => true
  | .powerStateChange _ => true
  | .coalescingTimeExpiry q => decide (q < 64)
  | .mainInputApplied _ => true

end Sys2Proof
end

