-- ==== Sys2Proof/Tests/Slice0.lean ====
section
/-!
SUPPORT. Sys2Proof/Tests/Slice0.lean: an ill-formed command for each check, small tests of the spec's own examples, and
witnesses (wit_<statement>_<clause>): for each clause of each statement a state and operands that meet its hypotheses.
-/

namespace Sys2Proof.Tests
set_option Elab.async false
open Sys2Proof.Machine

/-- A device with some fields written. -/
def mk (l : List (Fld × Nat)) (d : Dev := {}) : Dev := l.foldl (fun d x => d.setFld x.1 x.2) d

/-- A state with an empty queue. -/
def st (d : Dev) : State := ⟨[], d⟩

/-- Core k runs, at index pc, with an instruction word there. -/
def run (k pc w : Nat) (d : Dev := {}) : Dev :=
  ((d.setFld (SQ_STATUS_state k) 1).setFld (SQ_STATUS_pc k) pc).setReg (istore k pc) (BitVec.ofNat 64 w)

/-- Scalar registers of core k. -/
def withS (k : Nat) (l : List (Nat × Nat)) (d : Dev) : Dev :=
  d.modCore k fun c => l.foldl (fun c x => c.setS x.1 (BitVec.ofNat 64 x.2)) c

/-- A word of a group and an op field. -/
def W (g op rest : Nat) : Nat := g * 2 ^ 60 + op * 2 ^ 56 + rest

/-- A queue entry of a word. -/
def qe (w : Nat) (vals : List Nat := []) : QEntry := { uid := 7, pc := 9, word := BitVec.ofNat 64 w, vals := vals.map (BitVec.ofNat 64) }

/-- A host-ready device of variant 1 with compute die 0 and the stacks of base die 0 in service. -/
def host : Dev := mk [(HF_PKG_STRAP_variant, 1), (HF_PKG_STRAP_valid, 1), (CP_STATUS_ready, 1), (HF_DIE_STRAP_in_service 0, 1),
  (MC_STATUS_state 0, 2), (MC_STATUS_state 1, 2), (MC_STATUS_state 2, 2), (MC_STATUS_state 3, 2)]

/-- A Map of one sheet: this device at the origin, two row partners, one on Y and one on Z. -/
def fmap : FabMap := ⟨5, 1, 4, 2, 2, false, false, 0, 1,
  [⟨100, 0, 0, 0, false⟩, ⟨101, 1, 0, 0, false⟩, ⟨102, 2, 0, 0, false⟩, ⟨103, 16, 0, 0, false⟩, ⟨104, 256, 0, 0, false⟩]⟩

/-- That device in a running fabric: lanes 0, 1, 30 and 31 of ports 0 and 2 in service, partners live and aligned. -/
def net : Dev :=
  let d := mk ([(GD_STATUS_state, 3), (FB_CTRL_enable, 1), (FB_STATUS_state, 2), (FB_ID_id, 0), (FB_PLANE_live 0, 6), (FB_PLANE_live 2, 2),
    (GD_RANGE_aligned 0 1, 1), (GD_RANGE_aligned 0 2, 1), (GD_RANGE_aligned 2 1, 1), (DR_CTRL_enable 0, 1), (DR_CTRL_enable 2, 1)] ++
    [0, 2].flatMap fun p => [0, 1, 30, 31].map fun l => (DR_LANE_STAT_state p l, 2)) host
  let d := { d with fab := { map := some fmap, map0 := some fmap, map1 := some fmap } }
  let d := d.setReg (routeBase 0) (BitVec.ofNat 64 (packN 16 4 (routeEntry fmap [] 0)))
  d.setReg (routeBase 0 + 32) (BitVec.ofNat 64 (packN 16 4 fun j => routeEntry fmap [] 0 (16 + j)))


/-- A state of core 3 with this scalar or branch instruction at an index. -/
def sS (g pc op rest : Nat) : State := st (withS 3 [(5, 7), (6, 2 ^ 64 - 3)] (run 3 pc (W g op rest)))

/-- A vector word of group 3 with v1 and v2 as sources and v4 as destination under mask 1. -/
def V3 (vop : Nat) : Nat := W 3 0 (vop * 2 ^ 42 + 4 * 2 ^ 37 + 1 * 2 ^ 32 + 2 * 2 ^ 27 + 1 * 2 ^ 19)

/-- An immediate-form word on v1 to v4 under mask 1. -/
def VI (op : Nat) : Nat := W 12 op (4 * 2 ^ 43 + 1 * 2 ^ 38 + 1 * 2 ^ 35 + 2 ^ 32 + 0xFFFFFFFE)

/-- A convert word on v1 to v4 under mask 1: source and destination formats. -/
def VC (op src dst : Nat) : Nat := W 4 op (4 * 2 ^ 43 + 1 * 2 ^ 38 + 1 * 2 ^ 35 + src * 2 ^ 31 + dst * 2 ^ 27)

/-- Core 3 with a vector instruction at the head of its queue; lanes of v1 poisoned. -/
def vst (w : Nat) (bad : BitVec 256 := 0) : State :=
  st (({} : Dev).setCore 3 {
    v := [(1, ofLanes fun l => BitVec.ofNat 32 (l * 0x0F234567 + 0x3F800000)),
      (2, ofLanes fun l => BitVec.ofNat 32 (l * 0x11111111 + 3)), (3, ofLanes fun l => BitVec.ofNat 32 (l * 0x01000000 + 7))]
    vp := if bad = 0 then [] else [(1, bad)]
    m := [(1, 0xF0F7)]
    vq := [qe w] })

/-- A matrix entry that has started. -/
def mq (w : Nat) (vals : List Nat) (progress : List (Nat × Nat) := []) : QEntry := { qe w vals with started := true, progress := progress }

/-- BF16 engines 0 and 2 of core 3, draining to 0x10000, and a started matrix instruction. -/
def bf : EngCfg := ⟨1, 1, 0, 0, true, false, 512, 0, 0x10000, 256⟩
def mst (e : QEntry) (drains : List DrainRow := []) : State :=
  st ((mk [(HF_DIE_STRAP_in_service 0, 1)]).setCore 3 {
    mq := [e], eng := [(0, bf), (2, bf)], drains := drains
    acc := [(0, 5), (2 * 128, 0x3F800000)], accp := [(2 * 128, 2)] })
def MF : Nat := W 2 2 (5 * 2 ^ 44 + 126 * 2 ^ 37 + 1 * 2 ^ 30)
def MR (close : Nat) : Nat := W 2 0 (5 * 2 ^ 44 + 1 * 2 ^ 37 + 1 * 2 ^ 30 + 126 * 2 ^ 16 + 2 ^ 5 + close * 2 ^ 4)
def MD (vec : Nat) : Nat := W 2 3 (5 * 2 ^ 44 + (2 - 2 * vec) * 2 ^ 30 + vec * 2 ^ 29 + 31 * 2 ^ 24 * vec)
def dRow (bad : Bool) : DrainRow := ⟨2, 7, 9, scratchWindow 3 + 0x10000, List.replicate 256 5, bad⟩

/-- The same core with mask register 1 poisoned. -/
def vbad (w : Nat) : State := st ((vst w).dev.modCore 3 fun c => { c with rchk := [(maskWord 1, poisonMark)] })

/-- A face entry of engine 0 with its lane 0 poisoned, and a started run. -/
def fpois : Dev := (mst (mq (MR 0) [0x2000, 0])).dev.modCore 3 fun c => { c with facep := [(1, 1)] }

/-- A row that a drain wrote waits behind a face load that reads its address. -/
def dWait : State := st ((mst (mq (MD 0) []) [dRow false]).dev.modCore 3 fun c => { c with mq := { mq MF [0x10000] with uid := 5 } :: c.mq })

theorem wit_scalarResults_0 : ∀ row ∈ scalarTable, let k : Nat := 3; let s : State := sS 0 8190 row.2.1 (2 ^ 43 * 5 + 2 ^ 38 * 6 + 2 ^ 55 + 0xFFFFFFF0); s.dev.issues k 0 row.2.1 = true ∧ s.dev.pc k < 8191 := by decide +kernel
theorem wit_scalarResults_0_z : ∀ row ∈ scalarTable, let k : Nat := 3; let s : State := sS 0 0 row.2.1 (2 ^ 38 * 6 + 2 ^ 55 + 5); s.dev.issues k 0 row.2.1 = true ∧ s.dev.pc k < 8191 := by decide +kernel
theorem wit_scalarAtTheLastIndexTraps_0 : ∀ row ∈ scalarTable, let k : Nat := 3; let s : State := sS 0 8191 row.2.1 (2 ^ 43 * 5 + 2 ^ 38 * 6 + 2 ^ 55 + 0xFFFFFFF0); s.dev.issues k 0 row.2.1 = true ∧ s.dev.pc k = 8191 := by decide +kernel
theorem wit_lihAndRdsprResults_0 : let k : Nat := 3; let s : State := sS 0 8190 0xE (2 ^ 43 * 5 + 2 ^ 55 + 9); s.dev.issues k 0 0xE = true ∧ s.dev.pc k < 8191 := by decide +kernel
theorem wit_lihAndRdsprResults_1 : let k : Nat := 3; let s : State := sS 0 8190 0xF (2 ^ 43 * 5 + 2 ^ 55 + 4); s.dev.issues k 0 0xF = true ∧ s.dev.pc k < 8191 ∧ wget (s.dev.instr k) 31 0 < 5 := by decide +kernel
theorem wit_lihAndRdsprResults_1_z : let k : Nat := 3; let s : State := sS 0 0 0xF (2 ^ 43 * 5 + 2 ^ 55); s.dev.issues k 0 0xF = true ∧ s.dev.pc k < 8191 ∧ wget (s.dev.instr k) 31 0 < 5 := by decide +kernel
theorem wit_lihAndRdsprResults_2 : let k : Nat := 3; let s : State := sS 0 8190 0xF (2 ^ 43 * 5 + 2 ^ 55 + 5); s.dev.issues k 0 0xF = true ∧ s.dev.pc k < 8191 ∧ wget (s.dev.instr k) 31 0 = 5 := by decide +kernel
theorem wit_branchesGoToTheirTargets_3 : let k : Nat := 3; let s : State := sS 1 8190 6 1; s.dev.issues k 1 0x6 = true ∧ 0 ≤ branchTarget s.dev k ∧ branchTarget s.dev k ≤ 8191 := by decide +kernel
theorem wit_branchesGoToTheirTargets_3_z : let k : Nat := 3; let s : State := sS 1 3 6 0xFFFFFD; s.dev.issues k 1 0x6 = true ∧ 0 ≤ branchTarget s.dev k ∧ branchTarget s.dev k ≤ 8191 := by decide +kernel
theorem wit_branchesGoToTheirTargets_4 : let k : Nat := 3; let s : State := sS 1 8190 7 (2 ^ 43 * 5 + 1); s.dev.issues k 1 0x7 = true ∧ 0 ≤ branchTarget s.dev k ∧ branchTarget s.dev k ≤ 8191 := by decide +kernel
theorem wit_branchesGoToTheirTargets_5 : let k : Nat := 3; let s : State := sS 1 8191 8 (2 ^ 43 * 6); s.dev.issues k 1 0x8 = true := by decide +kernel
theorem wit_ConvertResults_0 : let k : Nat := 3; let s : State := vst (VC 0 0 3); let e : QEntry := qe (VC 0 0 3); let c := (s.dev.vecRead k e).core k; let m := c.mask (wget e.word 37 35); s.dev.vecHead k = some e ∧ grp e.word = 4 ∧ opc e.word = 0 ∧ c.vpois (wget e.word 42 38) &&& m = 0 ∧ c.maskBad e.word = false := by decide +kernel
theorem wit_ConvertResults_0_b : let k : Nat := 3; let s : State := vst (VC 0 10 1) 8; let e : QEntry := qe (VC 0 10 1); let c := (s.dev.vecRead k e).core k; let m := c.mask (wget e.word 37 35); s.dev.vecHead k = some e ∧ grp e.word = 4 ∧ opc e.word = 0 ∧ c.vpois (wget e.word 42 38) &&& m = 0 ∧ c.maskBad e.word = false := by decide +kernel
theorem wit_ConvertResults_1 : let k : Nat := 3; let s : State := vst (VC 1 0 6); let e : QEntry := qe (VC 1 0 6); let c := (s.dev.vecRead k e).core k; s.dev.vecHead k = some e ∧ grp e.word = 4 ∧ opc e.word = 1 ∧ c.vpois (wget e.word 42 38) = 0 ∧ c.maskBad e.word = false := by decide +kernel
theorem wit_ConvertResults_1_r : let k : Nat := 3; let s : State := vst (VC 1 0 3 + 2 ^ 25); let e : QEntry := qe (VC 1 0 3 + 2 ^ 25); let c := (s.dev.vecRead k e).core k; s.dev.vecHead k = some e ∧ grp e.word = 4 ∧ opc e.word = 1 ∧ c.vpois (wget e.word 42 38) = 0 ∧ c.maskBad e.word = false := by decide +kernel
theorem wit_ConvertResults_2 : let k : Nat := 3; let s : State := vst (VC 2 6 0); let e : QEntry := qe (VC 2 6 0); let c := (s.dev.vecRead k e).core k; let f := cSrc e.word; let m := c.mask (wget e.word 37 35); s.dev.vecHead k = some e ∧ grp e.word = 4 ∧ opc e.word = 2 ∧ (∀ l < 256, mbit m l = true → ∀ j ∈ widenLanes f l, mbit (c.vpois (wget e.word 42 38)) j = false) ∧ c.maskBad e.word = false := by decide +kernel
theorem wit_ConvertResults_2_b : let k : Nat := 3; let s : State := vst (VC 2 3 0) (2 ^ 200); let e : QEntry := qe (VC 2 3 0); let c := (s.dev.vecRead k e).core k; let f := cSrc e.word; let m := c.mask (wget e.word 37 35); s.dev.vecHead k = some e ∧ grp e.word = 4 ∧ opc e.word = 2 ∧ (∀ l < 256, mbit m l = true → ∀ j ∈ widenLanes f l, mbit (c.vpois (wget e.word 42 38)) j = false) ∧ c.maskBad e.word = false := by decide +kernel
theorem wit_compareAndMaskResults_0 : ∀ row ∈ compareTable, let k : Nat := 3; let s : State := vst (V3 row.2.1) 8; let e : QEntry := qe (V3 row.2.1); let c := (s.dev.vecRead k e).core k; let m := c.mask (wget e.word 21 19); s.dev.vecHead k = some e ∧ grp e.word = 3 ∧ wget e.word 47 42 = row.2.1 ∧ (∀ r ∈ reads2 e.word, c.vpois r &&& m = 0) ∧ c.maskBad e.word = false := by decide +kernel
theorem wit_compareAndMaskResults_1 : ∀ row ∈ maskTable, let k : Nat := 3; let s : State := vst (V3 row.2.1); let e : QEntry := qe (V3 row.2.1); let c := (s.dev.vecRead k e).core k; s.dev.vecHead k = some e ∧ grp e.word = 3 ∧ wget e.word 47 42 = row.2.1 ∧ c.maskBad e.word = false := by decide +kernel
theorem wit_immediateFormResults_0 : ∀ row ∈ immTable, let k : Nat := 3; let s : State := vst (VI row.2.1) 8; let e : QEntry := qe (VI row.2.1); let c := (s.dev.vecRead k e).core k; let m := c.mask (wget e.word 37 35); s.dev.vecHead k = some e ∧ grp e.word = 12 ∧ opc e.word = row.2.1 ∧ c.vpois (wget e.word 42 38) &&& m = 0 ∧ c.maskBad e.word = false := by decide +kernel
theorem wit_immediateFormResults_0_f : ∀ row ∈ immTable, let k : Nat := 3; let s : State := vst (VI row.2.1 - 2 ^ 32); let e : QEntry := qe (VI row.2.1 - 2 ^ 32); let c := (s.dev.vecRead k e).core k; let m := c.mask (wget e.word 37 35); s.dev.vecHead k = some e ∧ grp e.word = 12 ∧ opc e.word = row.2.1 ∧ c.vpois (wget e.word 42 38) &&& m = 0 ∧ c.maskBad e.word = false := by decide +kernel
theorem wit_immediateFormResults_1 : ∀ row ∈ immCompareTable, let k : Nat := 3; let s : State := vst (VI row.2.1); let e : QEntry := qe (VI row.2.1); let c := (s.dev.vecRead k e).core k; let m := c.mask (wget e.word 37 35); s.dev.vecHead k = some e ∧ grp e.word = 12 ∧ opc e.word = row.2.1 ∧ c.vpois (wget e.word 42 38) &&& m = 0 ∧ c.maskBad e.word = false := by decide +kernel
theorem wit_immediateFormResults_1_f : ∀ row ∈ immCompareTable, let k : Nat := 3; let s : State := vst (VI row.2.1 - 2 ^ 32 - 0x40000000); let e : QEntry := qe (VI row.2.1 - 2 ^ 32 - 0x40000000); let c := (s.dev.vecRead k e).core k; let m := c.mask (wget e.word 37 35); s.dev.vecHead k = some e ∧ grp e.word = 12 ∧ opc e.word = row.2.1 ∧ c.vpois (wget e.word 42 38) &&& m = 0 ∧ c.maskBad e.word = false := by decide +kernel
theorem wit_immediateFormResults_2 : let k : Nat := 3; let s : State := vst (VI 15 - 2 ^ 32); let e : QEntry := qe (VI 15 - 2 ^ 32); let c := (s.dev.vecRead k e).core k; s.dev.vecHead k = some e ∧ grp e.word = 12 ∧ opc e.word = 0xF ∧ c.maskBad e.word = false := by decide +kernel
theorem wit_immediateFormResults_2_d : let k : Nat := 3; let s : State := vst (W 12 15 (4 * 2 ^ 43 + 0x807FFFFF)); let e : QEntry := qe (W 12 15 (4 * 2 ^ 43 + 0x807FFFFF)); let c := (s.dev.vecRead k e).core k; s.dev.vecHead k = some e ∧ grp e.word = 12 ∧ opc e.word = 0xF ∧ c.maskBad e.word = false := by decide +kernel
theorem wit_poisonedLanesTrapBeforeAnyWrite_0 : let k : Nat := 3; let s : State := vst (V3 0x2D) 1; let e : QEntry := qe (V3 0x2D); let c := (s.dev.vecRead k e).core k; let row := ((.icmpltu, 0x2D, fun a b => decide (a.toNat < b.toNat)) : (Nat → Instr) × Nat × (Word32 → Word32 → Bool)); s.dev.vecHead k = some e ∧ grp e.word = 3 ∧ wget e.word 47 42 = row.2.1 ∧ ((∃ r ∈ reads2 e.word, c.vpois r &&& c.mask (wget e.word 21 19) ≠ 0) ∨ c.maskBad e.word = true) := by decide +kernel
theorem wit_poisonedLanesTrapBeforeAnyWrite_1 : let k : Nat := 3; let s : State := vst (V3 0x10) 1; let e : QEntry := qe (V3 0x10); let c := (s.dev.vecRead k e).core k; let row := ((Instr.frecip : Nat → Instr), 0x10, recipNum); s.dev.vecHead k = some e ∧ grp e.word = 3 ∧ wget e.word 47 42 = row.2.1 ∧ (c.vpois (wget e.word 36 32) &&& c.mask (wget e.word 21 19) ≠ 0 ∨ c.maskBad e.word = true) := by decide +kernel
theorem wit_poisonedLanesTrapBeforeAnyWrite_2 : let k : Nat := 3; let s : State := vst (VI 0) 4; let e : QEntry := qe (VI 0); let c := (s.dev.vecRead k e).core k; let row := ((.viAdd, 0x0, fun o a b => fpWrite o (addNum (fpRead a) (fpRead b)), fun o a b => int32 o (a.toInt + b.toInt)) : (Nat → Instr) × Nat × (Bool → Word32 → Word32 → Word32) × (Bool → Word32 → Word32 → Word32)); s.dev.vecHead k = some e ∧ grp e.word = 12 ∧ opc e.word = row.2.1 ∧ (c.vpois (wget e.word 42 38) &&& c.mask (wget e.word 37 35) ≠ 0 ∨ c.maskBad e.word = true) := by decide +kernel
theorem wit_poisonedLanesTrapBeforeAnyWrite_3 : let k : Nat := 3; let s : State := vst (VI 6) 4; let e : QEntry := qe (VI 6); let c := (s.dev.vecRead k e).core k; let row := ((.viCmpeq, 0x6, fun a b => cmpEq (fpRead a) (fpRead b), fun a b => decide (a = b)) : (Nat → Instr) × Nat × (Word32 → Word32 → Bool) × (Word32 → Word32 → Bool)); s.dev.vecHead k = some e ∧ grp e.word = 12 ∧ opc e.word = row.2.1 ∧ (c.vpois (wget e.word 42 38) &&& c.mask (wget e.word 37 35) ≠ 0 ∨ c.maskBad e.word = true) := by decide +kernel
theorem wit_poisonedLanesTrapBeforeAnyWrite_4 : let k : Nat := 3; let s : State := vst (VC 0 0 3) 0x8000; let e : QEntry := qe (VC 0 0 3); let c := (s.dev.vecRead k e).core k; s.dev.vecHead k = some e ∧ grp e.word = 4 ∧ opc e.word = 0 ∧ (c.vpois (wget e.word 42 38) &&& c.mask (wget e.word 37 35) ≠ 0 ∨ c.maskBad e.word = true) := by decide +kernel
theorem wit_poisonedLanesTrapBeforeAnyWrite_5 : let k : Nat := 3; let s : State := vst (VC 1 0 3) (2 ^ 255); let e : QEntry := qe (VC 1 0 3); let c := (s.dev.vecRead k e).core k; s.dev.vecHead k = some e ∧ grp e.word = 4 ∧ opc e.word = 1 ∧ (c.vpois (wget e.word 42 38) ≠ 0 ∨ c.maskBad e.word = true) := by decide +kernel
theorem wit_vectorLaneResults_0 : ∀ row ∈ laneTable, let k : Nat := 3; let s : State := vst (V3 row.2.1 + 3 * 2 ^ 22) 8; let e : QEntry := qe (V3 row.2.1 + 3 * 2 ^ 22); let c := (s.dev.vecRead k e).core k; let m := c.mask (wget e.word 21 19); s.dev.vecHead k = some e ∧ grp e.word = 3 ∧ wget e.word 47 42 = row.2.1 ∧ (∀ r ∈ row.2.2.1 e.word, c.vpois r &&& m = 0) ∧ c.maskBad e.word = false := by decide +kernel
theorem wit_vectorLaneResults_0_o : ∀ row ∈ laneTable, let k : Nat := 3; let s : State := vst (V3 row.2.1 + 3 * 2 ^ 22 + 2 ^ 18); let e : QEntry := qe (V3 row.2.1 + 3 * 2 ^ 22 + 2 ^ 18); let c := (s.dev.vecRead k e).core k; let m := c.mask (wget e.word 21 19); s.dev.vecHead k = some e ∧ grp e.word = 3 ∧ wget e.word 47 42 = row.2.1 ∧ (∀ r ∈ row.2.2.1 e.word, c.vpois r &&& m = 0) ∧ c.maskBad e.word = false := by decide +kernel
theorem wit_vectorLaneResults_1 : ∀ row ∈ laneTable, let k : Nat := 3; let s : State := vst (V3 row.2.1) 0x8000; let e : QEntry := qe (V3 row.2.1); let c := (s.dev.vecRead k e).core k; let m := c.mask (wget e.word 21 19); s.dev.vecHead k = some e ∧ grp e.word = 3 ∧ wget e.word 47 42 = row.2.1 ∧ ((∃ r ∈ row.2.2.1 e.word, c.vpois r &&& m ≠ 0) ∨ c.maskBad e.word = true) := by decide +kernel
theorem wit_selectAndRotateResults_0 : let k : Nat := 3; let s : State := vst (V3 0x0C) 8; let e : QEntry := qe (V3 0x0C); let c := (s.dev.vecRead k e).core k; let m := c.mask (wget e.word 21 19); s.dev.vecHead k = some e ∧ grp e.word = 3 ∧ wget e.word 47 42 = 0x0C ∧ c.vpois (wget e.word 36 32) &&& m = 0 ∧ c.vpois (wget e.word 31 27) &&& ~~~m = 0 ∧ c.maskBad e.word = false := by decide +kernel
theorem wit_selectAndRotateResults_1 : let k : Nat := 3; let s : State := vst (V3 0x1B); let e : QEntry := qe (V3 0x1B); let c := (s.dev.vecRead k e).core k; let m := c.mask (wget e.word 21 19); s.dev.vecHead k = some e ∧ grp e.word = 3 ∧ wget e.word 47 42 = 0x1B ∧ (∀ l < 256, mbit m l = true → mbit (c.vpois (wget e.word 36 32)) ((l + wget e.word 31 24) % 256) = false) ∧ c.maskBad e.word = false := by decide +kernel
theorem wit_selectAndRotateResults_1_b : let k : Nat := 3; let s : State := vst (W 3 0 (0x1B * 2 ^ 42 + 4 * 2 ^ 37 + 1 * 2 ^ 32 + 255 * 2 ^ 24 + 2 ^ 19)) 256; let e : QEntry := qe (W 3 0 (0x1B * 2 ^ 42 + 4 * 2 ^ 37 + 1 * 2 ^ 32 + 255 * 2 ^ 24 + 2 ^ 19)); let c := (s.dev.vecRead k e).core k; let m := c.mask (wget e.word 21 19); s.dev.vecHead k = some e ∧ grp e.word = 3 ∧ wget e.word 47 42 = 0x1B ∧ (∀ l < 256, mbit m l = true → mbit (c.vpois (wget e.word 36 32)) ((l + wget e.word 31 24) % 256) = false) ∧ c.maskBad e.word = false := by decide +kernel
theorem wit_specialFunctionResults_0 : ∀ row ∈ specialTable, let k : Nat := 3; let s : State := vst (V3 row.2.1) 8; let e : QEntry := qe (V3 row.2.1); let c := (s.dev.vecRead k e).core k; let m := c.mask (wget e.word 21 19); s.dev.vecHead k = some e ∧ grp e.word = 3 ∧ wget e.word 47 42 = row.2.1 ∧ c.vpois (wget e.word 36 32) &&& m = 0 ∧ c.maskBad e.word = false := by decide +kernel
theorem wit_McfgConfiguresTheNamedEngines_0 : let k : Nat := 3; let s : State := mst (mq (W 2 1 (10 * 2 ^ 44 + 3 * 2 ^ 40 + 4 * 2 ^ 36 + 2 ^ 28)) [0x20 * 2 ^ 32 + 0x1FFFE0, 0x100 * 2 ^ 32 + 0x20]); let q : QEntry := mq (W 2 1 (10 * 2 ^ 44 + 3 * 2 ^ 40 + 4 * 2 ^ 36 + 2 ^ 28)) [0x20 * 2 ^ 32 + 0x1FFFE0, 0x100 * 2 ^ 32 + 0x20]; k < 960 ∧ (s.dev.core k).working 1 = some q := by decide +kernel
theorem wit_mfaceLoadsTheNamedEnginesInOrder_0 : let k : Nat := 3; let s : State := mst (mq MF [0x2000]); let q : QEntry := mq MF [0x2000]; k < 960 ∧ (s.dev.core k).working 2 = some q := by decide +kernel
theorem wit_faceEntriesComeFromScratch_0 : let x : Nat := 2; let g : EngCfg := bf; let w : Word64 := BitVec.ofNat 64 MF; let j : Nat := 1; let l : Nat := 63; g.mode = 0 ∧ x < 4 ∧ mfaceFirst w + mfaceCount w ≤ 128 ∧ j < mfaceCount w ∧ l < 64 := by decide +kernel
theorem wit_faceEntriesComeFromScratch_0_f : let x : Nat := 3; let g : EngCfg := { bf with faceFmt := 5 }; let w : Word64 := BitVec.ofNat 64 MF; let j : Nat := 1; let l : Nat := 63; g.mode = 0 ∧ x < 4 ∧ mfaceFirst w + mfaceCount w ≤ 128 ∧ j < mfaceCount w ∧ l < 64 := by decide +kernel
theorem wit_mdrainToVectorCopiesLanes_0 : let k : Nat := 3; let s : State := mst (mq (MD 1) []); let q : QEntry := mq (MD 1) []; k < 960 ∧ (s.dev.core k).working 3 = some q ∧ mdrainVec q.word = true := by decide +kernel
theorem wit_mdrainToScratchFillsTheDrainBuffers_0 : let k : Nat := 3; let s : State := mst (mq (MD 0) []); let q : QEntry := mq (MD 0) []; k < 960 ∧ (s.dev.core k).working 3 = some q ∧ mdrainVec q.word = false := by decide +kernel
theorem wit_drainRowWriteStoresTheOldestRow_1 : let k : Nat := 3; let x : Nat := 2; let s : State := mst (mq (MD 0) []) [dRow false]; let r : DrainRow := dRow false; (s.dev.core k).drains.find? (·.engine == x) = some r ∧ (s.dev.core k).drainWaits k r = false ∧ r.poison = false := by decide +kernel
theorem wit_drainRowWriteStoresTheOldestRow_2 : let k : Nat := 3; let x : Nat := 2; let s : State := mst (mq (MD 0) []) [dRow true]; let r : DrainRow := dRow true; (s.dev.core k).drains.find? (·.engine == x) = some r ∧ (s.dev.core k).drainWaits k r = false ∧ r.poison = true := by decide +kernel
theorem wit_mrunIssuesItsRowsInOrder_0 : let k : Nat := 3; let s : State := mst (mq (MR 0) [0x2000, 0] [(0, 2), (2, 3)]); let q : QEntry := mq (MR 0) [0x2000, 0] [(0, 2), (2, 3)]; k < 960 ∧ (s.dev.core k).working 0 = some q ∧ mrunClose q.word = false ∧ (∀ x ∈ maskEngines q.word, q.done x ≤ 2 * mrunM q.word ∧ ((s.dev.core k).cfg x).isSome = true) := by decide +kernel
theorem wit_mrunIssuesItsRowsInOrder_1 : let k : Nat := 3; let s : State := mst (mq (MR 1) [0x2000, 0]); let q : QEntry := mq (MR 1) [0x2000, 0]; k < 960 ∧ (s.dev.core k).working 0 = some q := by decide +kernel
theorem wit_runRowAccumulatesEachLane_0 : let x : Nat := 2; let g : EngCfg := bf; let q : QEntry := mq (MR 0) [0x2000, 0]; let m : Nat := 1; let l : Nat := 63; x < 4 ∧ mrunA q.word + (m + 1) * g.accRows ≤ 128 ∧ l < 64 := by decide +kernel
theorem wit_runRowAccumulatesEachLane_1 : let x : Nat := 3; let g : EngCfg := { bf with mode := 2 }; let q : QEntry := mq (MR 0) [0x2000, 0]; let m : Nat := 0; let l : Nat := 0; x < 4 ∧ mrunA q.word + (m + 1) * g.accRows ≤ 128 ∧ l < 64 ∧ g.accRows = 2 := by decide +kernel
theorem wit_runRowAccumulatesEachLane_2 : let d : Dev := ((mst (mq (MR 0) [0x2000, 0])).dev.write (scratchWindow 3 + 0x2000) (List.replicate 64 1) fun _ => true); let k : Nat := 3; let x : Nat := 0; let g : EngCfg := bf; let q : QEntry := mq (MR 0) [0x2000, 0]; let m : Nat := 0; let w := q.word; let oa := (q.val 0).toNat + m * g.opStride; let t := d.rowRead k x g q m .whole; x < 4 ∧ mrunA q.word + (m + 1) * g.accRows ≤ 128 ∧ t.scrBad k oa (g.rowBytes (mrunK w)) = true := by decide +kernel
theorem wit_runRowAccumulatesEachLane_4 : let x : Nat := 0; let g : EngCfg := bf; let q : QEntry := mq (MR 0) [0x2000, 0]; let m : Nat := 0; x < 4 ∧ mrunA q.word + (m + 1) * g.accRows ≤ 128 := by decide +kernel
theorem wit_QueuedInstructionCompletionFreesItsEntry_0 : let k : Nat := 3; let i : Nat := 0; let queue : QueueName := .vector; let s : State := st (({} : Dev).setCore 3 { vq := [{ qe (V3 0 + 5 * 2 ^ 48 + 2 ^ 51) with finished := true }] }); let e : QEntry := { qe (V3 0 + 5 * 2 ^ 48 + 2 ^ 51) with finished := true }; k < 960 ∧ queue ≠ .sequencer ∧ ((s.dev.core k).queue (queueNum queue))[i]? = some e ∧ (s.dev.core k).entryDone e = true := by decide +kernel
theorem wit_QueuedInstructionCompletionFreesItsEntry_0_f : let k : Nat := 3; let i : Nat := 0; let queue : QueueName := .vector; let s : State := st ((({} : Dev).setSem 3 5 255).setCore 3 { vq := [{ qe (V3 0 + 5 * 2 ^ 48 + 2 ^ 51) with finished := true }] }); let e : QEntry := { qe (V3 0 + 5 * 2 ^ 48 + 2 ^ 51) with finished := true }; k < 960 ∧ queue ≠ .sequencer ∧ ((s.dev.core k).queue (queueNum queue))[i]? = some e ∧ (s.dev.core k).entryDone e = true := by decide +kernel
theorem wit_poisonedLanesTrapBeforeAnyWrite_6 : let k : Nat := 3; let s : State := vst (VC 2 3 0) 1; let e : QEntry := qe (VC 2 3 0); let c := (s.dev.vecRead k e).core k; s.dev.vecHead k = some e ∧ grp e.word = 4 ∧ opc e.word = 2 ∧ ((∃ l < 256, mbit (c.mask (wget e.word 37 35)) l = true ∧ ∃ j ∈ widenLanes (cSrc e.word) l, j < 256 ∧ mbit (c.vpois (wget e.word 42 38)) j = true) ∨ c.maskBad e.word = true) := by decide +kernel
theorem wit_poisonedLanesTrapBeforeAnyWrite_7 : let k : Nat := 3; let s : State := vst (V3 0x0C) 1; let e : QEntry := qe (V3 0x0C); let c := (s.dev.vecRead k e).core k; s.dev.vecHead k = some e ∧ grp e.word = 3 ∧ wget e.word 47 42 = 0x0C ∧ (c.vpois (wget e.word 36 32) &&& c.mask (wget e.word 21 19) ≠ 0 ∨ c.vpois (wget e.word 31 27) &&& ~~~ c.mask (wget e.word 21 19) ≠ 0 ∨ c.maskBad e.word = true) := by decide +kernel
theorem wit_poisonedLanesTrapBeforeAnyWrite_8 : let k : Nat := 3; let s : State := vst (W 3 0 (0x1B * 2 ^ 42 + 4 * 2 ^ 37 + 1 * 2 ^ 32 + 255 * 2 ^ 24 + 2 ^ 19)) (2 ^ 255); let e : QEntry := qe (W 3 0 (0x1B * 2 ^ 42 + 4 * 2 ^ 37 + 1 * 2 ^ 32 + 255 * 2 ^ 24 + 2 ^ 19)); let c := (s.dev.vecRead k e).core k; s.dev.vecHead k = some e ∧ grp e.word = 3 ∧ wget e.word 47 42 = 0x1B ∧ ((∃ l < 256, mbit (c.mask (wget e.word 21 19)) l = true ∧ mbit (c.vpois (wget e.word 36 32)) ((l + wget e.word 31 24) % 256) = true) ∨ c.maskBad e.word = true) := by decide +kernel
theorem wit_poisonedLanesTrapBeforeAnyWrite_9 : let k : Nat := 3; let s : State := vbad (V3 0x30); let e : QEntry := qe (V3 0x30); let c := (s.dev.vecRead k e).core k; let row := ((.mand, 0x30, fun a b => a && b) : (Nat → Instr) × Nat × (Bool → Bool → Bool)); s.dev.vecHead k = some e ∧ grp e.word = 3 ∧ wget e.word 47 42 = row.2.1 ∧ c.maskBad e.word = true := by decide +kernel
theorem wit_poisonedLanesTrapBeforeAnyWrite_10 : let k : Nat := 3; let s : State := vbad (VI 15); let e : QEntry := qe (VI 15); let c := (s.dev.vecRead k e).core k; s.dev.vecHead k = some e ∧ grp e.word = 12 ∧ opc e.word = 0xF ∧ c.maskBad e.word = true := by decide +kernel
theorem wit_maskedWritesTouchSelectedLanesOnly_1 : let l : Nat := 255; l < 256 := by decide +kernel
theorem wit_cleanRegistersReadAsTheyAre_0 : let d : Dev := (vst (V3 0x10)).dev; let k : Nat := 3; (d.core k).rchk = [] := by decide +kernel
theorem wit_mdrainToScratchFillsTheDrainBuffers_1 : let g : EngCfg := bf; let q : QEntry := mq (MD 0) []; let i : Nat := 1; let n : Nat := 2; let rows := g.drainRows (mdrainFirst q.word) (mdrainCount q.word); i + n ≤ rows.length := by decide +kernel
theorem wit_drainedRowsAreConverted_0 : let x : Nat := 2; x < 4 := by decide +kernel
theorem wit_drainRowWriteStoresTheOldestRow_0 : let k : Nat := 3; let x : Nat := 2; let s : State := dWait; let r : DrainRow := dRow false; (s.dev.core k).drains.find? (·.engine == x) = some r ∧ (s.dev.core k).drainWaits k r = true := by decide +kernel
theorem wit_runRowAccumulatesEachLane_3 : let d : Dev := fpois; let k : Nat := 3; let x : Nat := 0; let g : EngCfg := bf; let q : QEntry := mq (MR 0) [0x2000, 0]; let m : Nat := 0; let w := q.word; let t := d.rowRead k x g q m .whole; let l : Nat := 0; let j : Nat := 1; x < 4 ∧ mrunA q.word + (m + 1) * g.accRows ≤ 128 ∧ l < 64 ∧ j < mrunK w ∧ bitAt ((t.core k).facePois x (mrunF w + j)).toNat l = true := by decide +kernel
theorem wit_operandRegisterHoldsTheLastBeat_0 : let x : Nat := 0; let g : EngCfg := bf; x < 4 ∧ g.mode = 0 ∧ g.op ≠ .fp6 := by decide +kernel


/-- Core 3 at index 8190 with an instruction, and fields written. -/
def sR (g op rest : Nat) (fs : List (Fld × Nat) := []) (d : Dev := host) : State :=
  st (mk fs (withS 3 [(5, 100), (6, 2 ^ 28 + 101)] (run 3 8190 (W g op rest) d)))

/-- Change core 3 of a state. -/
def core3 (f : Core → Core) (s : State) : State := { s with dev := s.dev.modCore 3 f }

/-- A copy of core 3 and a state that holds it. -/
def cp (fails : List (Nat × Nat)) : Copy :=
  ⟨11, 3, true, 7, 9, .dcopy (scratchWindow 3 + 0x100) (scratchWindow 3) 64, some 65535, fails, [], []⟩
def sCp (fails : List (Nat × Nat)) : State :=
  st { (host.modCore 3 fun c => { c with dq := [qe (W 6 0 0)] }).writeClean (scratchWindow 3) [1, 2, 3] with row := { copies := [cp fails] } }

/-- Two copies of core 3, the second to where the first one reads. -/
def cpB : Copy := { cp [] with id := 12, kind := .dcopy (scratchWindow 3) (scratchWindow 3 + 0x200) 64 }
def sCpB : State := st { (sCp []).dev with row := { copies := [cp [], cpB] } }

/-- A vector load or store of 256 bytes at 32 below a base address, and a state with it at the head of its queue. -/
def vm (op a : Nat) : QEntry := qe (W 5 op (4 * 2 ^ 43 + 7 * 2 ^ 33 + 0xFFFFE0)) [a]
def sVm (e : QEntry) : State :=
  st ((host.modCore 3 fun c => { c with vq := [e], v := [(4, ofLanes fun l => BitVec.ofNat 32 (l * 65537))], vp := [(4, 3)] }).write
    (scratchWindow 3 + 0x20) ((List.range 64).map (BitVec.ofNat 8)) fun w => w % 4 = 3)

/-- A scalar load or store of core 3 from register s7. -/
def sM (op size a : Nat) (d : Dev := host) : State :=
  st (withS 3 [(7, a), (5, 0x8877665544332211)] (run 3 8190 (W 5 op (5 * 2 ^ 43 + 7 * 2 ^ 38 + size * 2 ^ 36 + (if op = 2 then 2 ^ 35 else 0))) d))
def pz (a : Nat) : Dev := host.write a (List.replicate 16 5) fun _ => true

/-- A device whose import entry 255 reaches pages 5 to 6 of member 1. -/
def imp : Dev := mk [(HF_IMPORT_BASE_valid 255, 1), (HF_IMPORT_BASE_base 255, 5), (HF_IMPORT_LIMIT_limit 255, 6), (HF_IMPORT_KEY_member_mask 255, 2),
  (HF_IMPORT_KEY_region 255, 9), (HF_IMPORT_KEY_key 255, 0xABCD)] net
def rowA (m a : Nat) : Nat := 2 ^ 52 + m * 2 ^ 48 + a

/-- A queued instruction of the copy queue of core 3. -/
def dm (g op : Nat) (vals : List Nat) : QEntry := qe (W g op (2 ^ 32 + 65535 * 2 ^ 16)) vals
def sDm (e : QEntry) (d : Dev := host) : State := st (d.modCore 3 fun c => { c with dq := [e] })

/-- A descriptor of 64 bytes at the start of the scratch of core 3. -/
def desc (a b c dd e f : Nat) : Dev :=
  host.writeClean (scratchWindow 3) (leBytes 8 a ++ leBytes 8 b ++ leBytes 8 c ++ leBytes 8 dd ++ leBytes 8 e ++ leBytes 8 f)

theorem wit_TallyAndFrameInstructions_0 : let k : Nat := 3; let s : State := sR 7 1 (65535 * 2 ^ 32 + 5 * 2 ^ 27); s.dev.issues k 7 1 = true ∧ s.dev.pc k < 8191 := by decide +kernel
theorem wit_TallyAndFrameInstructions_1 : let k : Nat := 3; let s : State := sR 10 1 (5 * 2 ^ 43); s.dev.issues k 10 1 = true ∧ s.dev.pc k < 8191 := by decide +kernel
theorem wit_TallyAndFrameInstructions_2 : let k : Nat := 3; let s : State := sR 7 2 (65535 * 2 ^ 32 + 6 * 2 ^ 27) [(HF_TALLY_error 65535, 1)]; s.dev.issues k 7 2 = true ∧ s.dev.pc k < 8191 := by decide +kernel
theorem wit_TallyAndFrameInstructions_3 : let k : Nat := 3; let s : State := sR 7 3 (65535 * 2 ^ 32 + 0xFFFF) [(HF_TALLY_count 65535, 0xFFFFFFFF)]; s.dev.issues k 7 3 = true ∧ s.dev.pc k < 8191 := by decide +kernel
theorem wit_TrapHaltAndWaitLimitStopTheCore_0 : let k : Nat := 3; let s : State := sR 11 0 0xABCD; s.dev.issues k 11 0 = true ∧ s.dev.fenceReady k true true true true = true ∧ (s.dev.core k).dmaFailed = false := by decide +kernel
theorem wit_TrapHaltAndWaitLimitStopTheCore_1 : let k : Nat := 3; let s : State := sR 11 1 0; s.dev.issues k 11 1 = true ∧ s.dev.fenceReady k true true true true = true ∧ (s.dev.core k).dmaFailed = false := by decide +kernel
theorem wit_TrapHaltAndWaitLimitStopTheCore_2 : ∀ row ∈ [((.trap : Nat → Instr), 0), (.halt, 1)], let k : Nat := 3; let s : State := core3 (fun c => { c with vq := [qe 0] }) (sR 11 row.2 0); s.dev.issues k 11 row.2 = true ∧ s.dev.fenceReady k true true true true = false := by decide +kernel
theorem wit_TrapHaltAndWaitLimitStopTheCore_3 : let k : Nat := 3; let s : State := sR 10 0 (5 * 2 ^ 43) [(SQ_STATUS_wait 3, 4), (SQ_WAIT_LIMIT_limit 3, 10), (⟨GD_FRAME, 63, 0⟩, 10)]; s.dev.sequencing k = true ∧ (s.dev.fld (SQ_STATUS_wait k) = 1 ∨ s.dev.fld (SQ_STATUS_wait k) = 2 ∨ s.dev.fld (SQ_STATUS_wait k) = 4) ∧ s.dev.fld (SQ_WAIT_LIMIT_limit k) ≠ 0 ∧ (s.dev.core k).waitFrom + s.dev.fld (SQ_WAIT_LIMIT_limit k) ≤ (s.dev.reg GD_FRAME).toNat := by decide +kernel
theorem wit_instructionIssueFillsItsQueue_0 : let k : Nat := 3; let q : Nat := 2; let s : State := core3 (fun c => { c with vq := List.replicate 31 (qe 0) }) (st (run 3 8190 (V3 0))); s.dev.sequencing k = true ∧ s.dev.instrBad k = false ∧ legal (s.dev.instr k) = true ∧ queueOf (s.dev.instr k) = q ∧ q ≠ 0 ∧ ((s.dev.core k).queue q).length < queueDepth q ∧ s.dev.pc k < 8191 := by decide +kernel
theorem wit_instructionIssueFillsItsQueue_0_m : let k : Nat := 3; let q : Nat := 1; let s : State := core3 (fun c => { c with mq := List.replicate 15 (qe 0) }) (st (run 3 8190 (MF))); s.dev.sequencing k = true ∧ s.dev.instrBad k = false ∧ legal (s.dev.instr k) = true ∧ queueOf (s.dev.instr k) = q ∧ q ≠ 0 ∧ ((s.dev.core k).queue q).length < queueDepth q ∧ s.dev.pc k < 8191 := by decide +kernel
theorem wit_instructionIssueFillsItsQueue_0_d : let k : Nat := 3; let q : Nat := 3; let s : State := st (run 3 0 (W 6 0 (3 * 2 ^ 43))); s.dev.sequencing k = true ∧ s.dev.instrBad k = false ∧ legal (s.dev.instr k) = true ∧ queueOf (s.dev.instr k) = q ∧ q ≠ 0 ∧ ((s.dev.core k).queue q).length < queueDepth q ∧ s.dev.pc k < 8191 := by decide +kernel
theorem wit_instructionIssueFillsItsQueue_1 : let k : Nat := 3; let q : Nat := 2; let s : State := core3 (fun c => { c with vq := List.replicate 32 (qe 0) }) (st (run 3 8190 (V3 0))); s.dev.sequencing k = true ∧ s.dev.instrBad k = false ∧ legal (s.dev.instr k) = true ∧ queueOf (s.dev.instr k) = q ∧ q ≠ 0 ∧ queueDepth q ≤ ((s.dev.core k).queue q).length := by decide +kernel
theorem wit_illegalAndPoisonedWordsTrapAtIssue_0 : let k : Nat := 3; let s : State := st (run 3 8191 (W 15 0 0)); s.dev.sequencing k = true ∧ s.dev.instrBad k = false ∧ legal (s.dev.instr k) = false := by decide +kernel
theorem wit_illegalAndPoisonedWordsTrapAtIssue_0_v : let k : Nat := 3; let s : State := st (run 3 8191 (W 3 1 0)); s.dev.sequencing k = true ∧ s.dev.instrBad k = false ∧ legal (s.dev.instr k) = false := by decide +kernel
theorem wit_illegalAndPoisonedWordsTrapAtIssue_1 : let k : Nat := 3; let s : State := st { run 3 5 0 with ram := { istoreBad := [(istore 3 5, true)] } }; s.dev.sequencing k = true ∧ s.dev.instrBad k = true := by decide +kernel
theorem wit_satisfiedWaitsGoOn_0 : let k : Nat := 3; let s : State := sR 8 0 (15 * 2 ^ 44); s.dev.issues k 8 0 = true ∧ s.dev.pc k < 8191 ∧ s.dev.fenceReady k (wbit (s.dev.instr k) 47) (wbit (s.dev.instr k) 46) (wbit (s.dev.instr k) 45) (wbit (s.dev.instr k) 44) = true ∧ (wbit (s.dev.instr k) 45 = true → (s.dev.core k).dmaFailed = false) := by decide +kernel
theorem wit_satisfiedWaitsGoOn_1 : let k : Nat := 3; let s : State := sR 10 0 (5 * 2 ^ 43) [(⟨GD_FRAME, 63, 0⟩, 100)]; s.dev.issues k 10 0 = true ∧ s.dev.pc k < 8191 ∧ ((s.dev.core k).sreg (wget (s.dev.instr k) 47 43)).toNat ≤ (s.dev.reg GD_FRAME).toNat ∧ s.dev.switchDue = false := by decide +kernel
theorem wit_satisfiedWaitsGoOn_2 : let k : Nat := 3; let s : State := sR 10 0 (5 * 2 ^ 43) [(⟨GD_FRAME, 63, 0⟩, 100), (SQ_STATUS_wait 3, 3)]; s.dev.issues k 10 0 = true ∧ s.dev.pc k < 8191 ∧ s.dev.fld (SQ_STATUS_wait k) = 3 ∧ ((s.dev.core k).sreg (wget (s.dev.instr k) 47 43)).toNat ≤ (s.dev.reg GD_FRAME).toNat ∧ s.dev.switchDue = false := by decide +kernel
theorem wit_satisfiedWaitsGoOn_3 : let k : Nat := 3; let s : State := sR 7 0 (65535 * 2 ^ 32 + 5 * 2 ^ 27) [(HF_TALLY_count 65535, 100)]; let t := wget (s.dev.instr k) 47 32; s.dev.issues k 7 0 = true ∧ s.dev.pc k < 8191 ∧ (s.dev.fld (HF_TALLY_count t) + 2 ^ 32 - ((s.dev.core k).sreg (wget (s.dev.instr k) 31 27)).toNat % 2 ^ 32) % 2 ^ 32 < 2 ^ 31 ∧ s.dev.fld (HF_TALLY_error t) = 0 := by decide +kernel
theorem wit_unsatisfiedWaitsWaitOrTrap_0 : let k : Nat := 3; let s : State := core3 (fun c => { c with dq := [qe 0] }) (sR 8 0 (2 ^ 45)); s.dev.issues k 8 0 = true ∧ s.dev.fenceReady k (wbit (s.dev.instr k) 47) (wbit (s.dev.instr k) 46) (wbit (s.dev.instr k) 45) (wbit (s.dev.instr k) 44) = false := by decide +kernel
theorem wit_unsatisfiedWaitsWaitOrTrap_1 : let k : Nat := 3; let s : State := core3 (fun c => { c with dmaFailed := true, dmaReason := 0x0503 }) (sR 8 0 (2 ^ 45)); s.dev.issues k 8 0 = true ∧ wbit (s.dev.instr k) 45 = true ∧ (s.dev.core k).dmaFailed = true ∧ s.dev.fenceReady k (wbit (s.dev.instr k) 47) (wbit (s.dev.instr k) 46) true (wbit (s.dev.instr k) 44) = true := by decide +kernel
theorem wit_unsatisfiedWaitsWaitOrTrap_2 : let k : Nat := 3; let s : State := sR 10 0 (6 * 2 ^ 43) [(⟨GD_FRAME, 63, 0⟩, 100)]; s.dev.issues k 10 0 = true ∧ s.dev.fld (SQ_STATUS_wait k) ≠ 3 ∧ (s.dev.reg GD_FRAME).toNat + 2 ^ 28 < ((s.dev.core k).sreg (wget (s.dev.instr k) 47 43)).toNat := by decide +kernel
theorem wit_unsatisfiedWaitsWaitOrTrap_3 : let k : Nat := 3; let s : State := sR 10 0 (6 * 2 ^ 43) [(⟨GD_FRAME, 63, 0⟩, 101)]; s.dev.issues k 10 0 = true ∧ ((s.dev.reg GD_FRAME).toNat < ((s.dev.core k).sreg (wget (s.dev.instr k) 47 43)).toNat ∨ s.dev.switchDue = true) ∧ ((s.dev.core k).sreg (wget (s.dev.instr k) 47 43)).toNat ≤ (s.dev.reg GD_FRAME).toNat + 2 ^ 28 := by decide +kernel
theorem wit_unsatisfiedWaitsWaitOrTrap_4 : let k : Nat := 3; let s : State := sR 7 0 (65535 * 2 ^ 32 + 5 * 2 ^ 27) [(HF_TALLY_count 65535, 99)]; let t := wget (s.dev.instr k) 47 32; let ready := s.dev.tallyReady t ((s.dev.core k).sreg (wget (s.dev.instr k) 31 27)); s.dev.issues k 7 0 = true ∧ ready = false := by decide +kernel
theorem wit_unsatisfiedWaitsWaitOrTrap_5 : let k : Nat := 3; let s : State := sR 7 0 (65535 * 2 ^ 32 + 5 * 2 ^ 27) [(HF_TALLY_count 65535, 100), (HF_TALLY_error 65535, 1)]; let t := wget (s.dev.instr k) 47 32; let ready := s.dev.tallyReady t ((s.dev.core k).sreg (wget (s.dev.instr k) 31 27)); s.dev.issues k 7 0 = true ∧ ready = true ∧ s.dev.fld (HF_TALLY_error t) = 1 := by decide +kernel
theorem wit_semaphoreInstructions_0 : let k : Nat := 3; let s : State := { sR 8 1 (7 * 2 ^ 45) with dev := (sR 8 1 (7 * 2 ^ 45)).dev.setSem 3 7 1 }; let j := wget (s.dev.instr k) 47 45; s.dev.issues k 8 1 = true ∧ s.dev.pc k < 8191 ∧ (s.dev.core k).aheadOn 4 j < s.dev.sem k j := by decide +kernel
theorem wit_semaphoreInstructions_1 : let k : Nat := 3; let s : State := sR 8 1 (7 * 2 ^ 45); s.dev.issues k 8 1 = true ∧ s.dev.sem k (wget (s.dev.instr k) 47 45) ≤ (s.dev.core k).aheadOn 4 (wget (s.dev.instr k) 47 45) := by decide +kernel
theorem wit_semaphoreInstructions_2 : let k : Nat := 3; let s : State := { sR 8 2 (7 * 2 ^ 45) with dev := (sR 8 2 (7 * 2 ^ 45)).dev.setSem 3 7 254 }; let j := wget (s.dev.instr k) 47 45; s.dev.issues k 8 2 = true ∧ s.dev.pc k < 8191 ∧ s.dev.sem k j < 255 := by decide +kernel
theorem wit_semaphoreInstructions_3 : let k : Nat := 3; let s : State := { sR 8 2 (7 * 2 ^ 45) with dev := (sR 8 2 (7 * 2 ^ 45)).dev.setSem 3 7 255 }; s.dev.issues k 8 2 = true ∧ s.dev.sem k (wget (s.dev.instr k) 47 45) = 255 := by decide +kernel
theorem wit_barrierCountsArrivals_0 : let k : Nat := 3; let s : State := sR 9 0 (2 * 2 ^ 46 + 15 * 2 ^ 42 + 1 * 2 ^ 32); let w := s.dev.instr k; let n := wget w 41 32 + 1; s.dev.issues k 9 0 = true ∧ s.dev.fld (SQ_STATUS_wait k) ≠ 2 ∧ s.dev.row.barriers.find? (barrierOf w k) = none ∧ 1 < n := by decide +kernel
theorem wit_barrierCountsArrivals_1 : let k : Nat := 3; let s : State := sR 9 0 (15 * 2 ^ 42); let w := s.dev.instr k; let n := wget w 41 32 + 1; s.dev.issues k 9 0 = true ∧ s.dev.fld (SQ_STATUS_wait k) ≠ 2 ∧ s.dev.row.barriers.find? (barrierOf w k) = none ∧ n = 1 ∧ s.dev.pc k < 8191 := by decide +kernel
theorem wit_barrierCountsArrivals_2 : let k : Nat := 3; let s : State := { sR 9 0 (2 * 2 ^ 32) with dev := { (sR 9 0 (2 * 2 ^ 32)).dev with row := { barriers := [⟨0, 0, 0, 3, [4]⟩] } } }; let w := s.dev.instr k; let n := wget w 41 32 + 1; let b := (⟨0, 0, 0, 3, [4]⟩ : Barrier); s.dev.issues k 9 0 = true ∧ s.dev.fld (SQ_STATUS_wait k) ≠ 2 ∧ s.dev.row.barriers.find? (barrierOf w k) = some b ∧ b.count = n ∧ b.cores.length + 1 < n := by decide +kernel
theorem wit_barrierCountsArrivals_3 : let k : Nat := 3; let s : State := { sR 9 0 (2 * 2 ^ 32) with dev := { (sR 9 0 (2 * 2 ^ 32)).dev with row := { barriers := [⟨0, 0, 0, 3, [4, 5]⟩] } } }; let w := s.dev.instr k; let n := wget w 41 32 + 1; let b := (⟨0, 0, 0, 3, [4, 5]⟩ : Barrier); s.dev.issues k 9 0 = true ∧ s.dev.fld (SQ_STATUS_wait k) ≠ 2 ∧ s.dev.row.barriers.find? (barrierOf w k) = some b ∧ b.count = n ∧ b.cores.length + 1 = n := by decide +kernel
theorem wit_barrierCountsArrivals_4 : let k : Nat := 3; let s : State := { sR 9 0 (2 * 2 ^ 32) with dev := { (sR 9 0 (2 * 2 ^ 32)).dev with row := { barriers := [⟨0, 0, 0, 2, [4]⟩] } } }; let w := s.dev.instr k; let n := wget w 41 32 + 1; let b := (⟨0, 0, 0, 2, [4]⟩ : Barrier); s.dev.issues k 9 0 = true ∧ s.dev.fld (SQ_STATUS_wait k) ≠ 2 ∧ s.dev.row.barriers.find? (barrierOf w k) = some b ∧ b.count ≠ n := by decide +kernel
theorem wit_vectorLoadsAndStoresLocal_0 : let k : Nat := 3; let s : State := sVm (vm 0 (scratchWindow 3 + 0x40)); let e : QEntry := vm 0 (scratchWindow 3 + 0x40); let x : Nat := scratchWindow 3 + 0x20; s.dev.vecHead k = some e ∧ grp e.word = 5 ∧ opc e.word = 0 ∧ vectorAddress e % 32 = 0 ∧ coreAddr (vectorAddress e) = .loc x ∧ s.dev.present x (vectorLength e.word) = true ∧ s.dev.held x (vectorLength e.word) = false := by decide +kernel
theorem wit_vectorLoadsAndStoresLocal_1 : let k : Nat := 3; let s : State := sVm (vm 1 (scratchWindow 3 + 0x40)); let e : QEntry := vm 1 (scratchWindow 3 + 0x40); let x : Nat := scratchWindow 3 + 0x20; s.dev.vecHead k = some e ∧ grp e.word = 5 ∧ opc e.word = 1 ∧ vectorAddress e % 32 = 0 ∧ coreAddr (vectorAddress e) = .loc x ∧ s.dev.present x (vectorLength e.word) = true ∧ s.dev.held x (vectorLength e.word) = false := by decide +kernel
theorem wit_vectorLoadsAndStoresLocal_1_h : let k : Nat := 3; let s : State := sVm (vm 1 0x1FA0); let e : QEntry := vm 1 0x1FA0; let x : Nat := 0x1F80; s.dev.vecHead k = some e ∧ grp e.word = 5 ∧ opc e.word = 1 ∧ vectorAddress e % 32 = 0 ∧ coreAddr (vectorAddress e) = .loc x ∧ s.dev.present x (vectorLength e.word) = true ∧ s.dev.held x (vectorLength e.word) = false := by decide +kernel
theorem wit_vectorAccessAddressTraps_0 : ∀ row ∈ [((.vld : Nat → Instr), 0), (.vst, 1)], let k : Nat := 3; let s : State := sVm (vm row.2 (scratchWindow 3 + 0x41)); let e : QEntry := vm row.2 (scratchWindow 3 + 0x41); let a := vectorAddress e; s.dev.vecHead k = some e ∧ grp e.word = 5 ∧ opc e.word = row.2 ∧ a % 32 ≠ 0 := by decide +kernel
theorem wit_vectorAccessAddressTraps_1 : ∀ row ∈ [((.vld : Nat → Instr), 0), (.vst, 1)], let k : Nat := 3; let s : State := sVm (vm row.2 (2 ^ 48 + 0x20)); let e : QEntry := vm row.2 (2 ^ 48 + 0x20); let a := vectorAddress e; s.dev.vecHead k = some e ∧ grp e.word = 5 ∧ opc e.word = row.2 ∧ a % 32 = 0 ∧ coreAddr a = .bad := by decide +kernel
theorem wit_vectorAccessAddressTraps_2 : ∀ row ∈ [((.vld : Nat → Instr), 0), (.vst, 1)], let k : Nat := 3; let s : State := sVm (vm row.2 (seamBase + 2 ^ 30)); let e : QEntry := vm row.2 (seamBase + 2 ^ 30); let a := vectorAddress e; let x := seamBase + 2 ^ 30 - 0x20; s.dev.vecHead k = some e ∧ grp e.word = 5 ∧ opc e.word = row.2 ∧ a % 32 = 0 ∧ coreAddr a = .loc x ∧ s.dev.present x (vectorLength e.word) = false := by decide +kernel
theorem wit_scalarLoadsAndStoresLocal_0 : let k : Nat := 3; let s : State := sM 2 1 0x7E (host.writeClean 0x70 (List.replicate 16 0x85)); let x : Nat := 0x7E; let n := scalarBytes (s.dev.instr k); let t := s.dev.scrub x n; s.dev.issues k 5 2 = true ∧ scalarAddress s.dev k % scalarBytes (s.dev.instr k) = 0 ∧ coreAddr (scalarAddress s.dev k) = .loc x ∧ inRegSpace x = false ∧ s.dev.present x (scalarBytes (s.dev.instr k)) = true ∧ s.dev.held x (scalarBytes (s.dev.instr k)) = false ∧ t.poisonAt x = false ∧ t.pc k < 8191 := by decide +kernel
theorem wit_scalarLoadsAndStoresLocal_0_b : let k : Nat := 3; let s : State := sM 2 3 (scratchWindow 3 + 2 ^ 21 - 8); let x : Nat := scratchWindow 3 + 2 ^ 21 - 8; let n := scalarBytes (s.dev.instr k); let t := s.dev.scrub x n; s.dev.issues k 5 2 = true ∧ scalarAddress s.dev k % scalarBytes (s.dev.instr k) = 0 ∧ coreAddr (scalarAddress s.dev k) = .loc x ∧ inRegSpace x = false ∧ s.dev.present x (scalarBytes (s.dev.instr k)) = true ∧ s.dev.held x (scalarBytes (s.dev.instr k)) = false ∧ t.poisonAt x = false ∧ t.pc k < 8191 := by decide +kernel
theorem wit_scalarLoadsAndStoresLocal_1 : let k : Nat := 3; let s : State := sM 2 3 0x70 (pz 0x70); let x : Nat := 0x70; let n := scalarBytes (s.dev.instr k); let t := s.dev.scrub x n; s.dev.issues k 5 2 = true ∧ scalarAddress s.dev k % scalarBytes (s.dev.instr k) = 0 ∧ coreAddr (scalarAddress s.dev k) = .loc x ∧ inRegSpace x = false ∧ s.dev.present x (scalarBytes (s.dev.instr k)) = true ∧ s.dev.held x (scalarBytes (s.dev.instr k)) = false ∧ t.poisonAt x = true := by decide +kernel
theorem wit_scalarLoadsAndStoresLocal_2 : let k : Nat := 3; let s : State := sM 3 2 (clusterWindow 0 7 + 2 ^ 24 - 4); let x : Nat := clusterWindow 0 7 + 2 ^ 24 - 4; s.dev.issues k 5 3 = true ∧ scalarAddress s.dev k % scalarBytes (s.dev.instr k) = 0 ∧ coreAddr (scalarAddress s.dev k) = .loc x ∧ inRegSpace x = false ∧ s.dev.present x (scalarBytes (s.dev.instr k)) = true ∧ s.dev.held x (scalarBytes (s.dev.instr k)) = false := by decide +kernel
theorem wit_scalarLoadsAndStoresLocal_2_h : let k : Nat := 3; let s : State := sM 3 0 (0xC00000000 * 4 - 1); let x : Nat := 0xC00000000 * 4 - 1; s.dev.issues k 5 3 = true ∧ scalarAddress s.dev k % scalarBytes (s.dev.instr k) = 0 ∧ coreAddr (scalarAddress s.dev k) = .loc x ∧ inRegSpace x = false ∧ s.dev.present x (scalarBytes (s.dev.instr k)) = true ∧ s.dev.held x (scalarBytes (s.dev.instr k)) = false := by decide +kernel
theorem wit_scalarRegisterAccesses_0 : let k : Nat := 3; let s : State := sM 2 3 (regSpaceBase + GD_FRAME); let x : Nat := regSpaceBase + GD_FRAME; s.dev.issues k 5 2 = true ∧ scalarBytes (s.dev.instr k) = 8 ∧ scalarAddress s.dev k % 8 = 0 ∧ coreAddr (scalarAddress s.dev k) = .loc x ∧ inRegSpace x = true := by decide +kernel
theorem wit_scalarRegisterAccesses_0_c : let k : Nat := 3; let s : State := sM 2 3 (regSpaceBase + SQ_CYCLE 3); let x : Nat := regSpaceBase + SQ_CYCLE 3; s.dev.issues k 5 2 = true ∧ scalarBytes (s.dev.instr k) = 8 ∧ scalarAddress s.dev k % 8 = 0 ∧ coreAddr (scalarAddress s.dev k) = .loc x ∧ inRegSpace x = true := by decide +kernel
theorem wit_scalarRegisterAccesses_1 : let k : Nat := 3; let s : State := sM 3 3 (regSpaceBase + SQ_WAIT_LIMIT 3); let x : Nat := regSpaceBase + SQ_WAIT_LIMIT 3; s.dev.issues k 5 3 = true ∧ scalarBytes (s.dev.instr k) = 8 ∧ scalarAddress s.dev k % 8 = 0 ∧ coreAddr (scalarAddress s.dev k) = .loc x ∧ inRegSpace x = true := by decide +kernel
theorem wit_scalarRegisterAccesses_1_t : let k : Nat := 3; let s : State := sM 3 3 (regSpaceBase + HF_TALLY 65535); let x : Nat := regSpaceBase + HF_TALLY 65535; s.dev.issues k 5 3 = true ∧ scalarBytes (s.dev.instr k) = 8 ∧ scalarAddress s.dev k % 8 = 0 ∧ coreAddr (scalarAddress s.dev k) = .loc x ∧ inRegSpace x = true := by decide +kernel
theorem wit_atomReachesTheAtomicUnit_0 : let k : Nat := 3; let s : State := sM 4 0 0x108; let w := s.dev.instr k; let kind := wget w 27 24; let n := if kind = 1 ∨ 9 ≤ kind ∧ kind ≤ 13 then 8 else 4; let a := ((s.dev.core k).sreg (wget w 42 38)).toNat; let x := 0x108; s.dev.issues k 5 4 = true ∧ a % n = 0 ∧ coreAddr a = .loc x ∧ s.dev.present x n = true := by decide +kernel
theorem wit_atomReachesTheAtomicUnit_1 : let k : Nat := 3; let s : State := sM 4 0 0x106; let w := s.dev.instr k; let kind := wget w 27 24; let n := if kind = 1 ∨ 9 ≤ kind ∧ kind ≤ 13 then 8 else 4; let a := ((s.dev.core k).sreg (wget w 42 38)).toNat; s.dev.issues k 5 4 = true ∧ a % n ≠ 0 := by decide +kernel
theorem wit_scalarRowAccessesBecomeRequests_0 : let k : Nat := 3; let m : Nat := 1; let x : Nat := 0x6FF8; let s : State := sM 2 3 (rowA 1 0x6FF8) imp; let n := scalarBytes (s.dev.instr k); let region := s.dev.importFor m x n; let g := 9; let key := 0xABCD; scalarAddress s.dev k % scalarBytes (s.dev.instr k) = 0 ∧ coreAddr (scalarAddress s.dev k) = .row m x ∧ s.dev.issues k 5 2 = true ∧ s.dev.pathGate 0 (s.dev.memberFid m) = none ∧ region = some (g, key) := by decide +kernel
theorem wit_scalarRowAccessesBecomeRequests_1 : let k : Nat := 3; let m : Nat := 1; let x : Nat := 0x5000; let s : State := sM 3 3 (rowA 1 0x5000) imp; let n := scalarBytes (s.dev.instr k); let region := s.dev.importFor m x n; let g := 9; let key := 0xABCD; scalarAddress s.dev k % scalarBytes (s.dev.instr k) = 0 ∧ coreAddr (scalarAddress s.dev k) = .row m x ∧ s.dev.issues k 5 3 = true ∧ s.dev.pathGate 0 (s.dev.memberFid m) = none ∧ region = some (g, key) := by decide +kernel
theorem wit_scalarRowAccessesBecomeRequests_2 : let k : Nat := 3; let m : Nat := 3; let x : Nat := 0x5000; let s : State := sM 2 3 (rowA 3 0x5000) imp; let reason := 0x0702; scalarAddress s.dev k % scalarBytes (s.dev.instr k) = 0 ∧ coreAddr (scalarAddress s.dev k) = .row m x ∧ s.dev.issues k 5 2 = true ∧ s.dev.pathGate 0 (s.dev.memberFid m) = some reason := by decide +kernel
theorem wit_scalarRowAccessesBecomeRequests_3 : let k : Nat := 3; let m : Nat := 1; let x : Nat := 0x7000; let s : State := sM 2 3 (rowA 1 0x7000) imp; let n := scalarBytes (s.dev.instr k); let region := s.dev.importFor m x n; scalarAddress s.dev k % scalarBytes (s.dev.instr k) = 0 ∧ coreAddr (scalarAddress s.dev k) = .row m x ∧ s.dev.issues k 5 2 = true ∧ s.dev.pathGate 0 (s.dev.memberFid m) = none ∧ region = none := by decide +kernel
theorem wit_dcopyStartsACopy_0 : let k : Nat := 3; let s : State := sDm (dm 6 0 [scratchWindow 3, 0x100, 33]); let e : QEntry := dm 6 0 [scratchWindow 3, 0x100, 33]; let dst := (e.val 0).toNat; let src := (e.val 1).toNat; let len := (e.val 2).toNat; s.dev.dmaHead k 6 0 = some e ∧ coreAddr dst ≠ .bad ∧ coreAddr src ≠ .bad ∧ (dst % 32 ≠ 0 ∨ src % 32 ≠ 0 ∨ len % 32 ≠ 0) := by decide +kernel
theorem wit_dcopyStartsACopy_1 : let k : Nat := 3; let s : State := sDm (dm 6 0 [scratchWindow 3, 0x100, 32]); let e : QEntry := dm 6 0 [scratchWindow 3, 0x100, 32]; let dst := (e.val 0).toNat; let src := (e.val 1).toNat; let len := (e.val 2).toNat; let kind := CopyKind.dcopy dst src len; s.dev.dmaHead k 6 0 = some e ∧ coreAddr dst ≠ .bad ∧ coreAddr src ≠ .bad ∧ dst % 32 = 0 ∧ src % 32 = 0 ∧ len % 32 = 0 ∧ 32 ≤ len ∧ len ≤ 2 ^ 30 ∧ (∀ r ∈ kind.local, s.dev.present r.1 r.2 = true) ∧ s.dev.copyGate kind = none := by decide +kernel
theorem wit_dcopyStartsACopy_1_g : let k : Nat := 3; let s : State := sDm (dm 6 0 [0x40000000, 0, 2 ^ 21]); let e : QEntry := dm 6 0 [0x40000000, 0, 2 ^ 21]; let dst := (e.val 0).toNat; let src := (e.val 1).toNat; let len := (e.val 2).toNat; let kind := CopyKind.dcopy dst src len; s.dev.dmaHead k 6 0 = some e ∧ coreAddr dst ≠ .bad ∧ coreAddr src ≠ .bad ∧ dst % 32 = 0 ∧ src % 32 = 0 ∧ len % 32 = 0 ∧ 32 ≤ len ∧ len ≤ 2 ^ 30 ∧ (∀ r ∈ kind.local, s.dev.present r.1 r.2 = true) ∧ s.dev.copyGate kind = none := by decide +kernel
theorem wit_dcopyStartsACopy_1_r : let k : Nat := 3; let s : State := sDm (dm 6 0 [scratchWindow 3, rowA 1 0x5000, 2048]) imp; let e : QEntry := dm 6 0 [scratchWindow 3, rowA 1 0x5000, 2048]; let dst := (e.val 0).toNat; let src := (e.val 1).toNat; let len := (e.val 2).toNat; let kind := CopyKind.dcopy dst src len; s.dev.dmaHead k 6 0 = some e ∧ coreAddr dst ≠ .bad ∧ coreAddr src ≠ .bad ∧ dst % 32 = 0 ∧ src % 32 = 0 ∧ len % 32 = 0 ∧ 32 ≤ len ∧ len ≤ 2 ^ 30 ∧ (∀ r ∈ kind.local, s.dev.present r.1 r.2 = true) ∧ s.dev.copyGate kind = none := by decide +kernel
theorem wit_dcopyStartsACopy_2 : let k : Nat := 3; let s : State := sDm (dm 6 0 [scratchWindow 3, 0x100, 0]); let e : QEntry := dm 6 0 [scratchWindow 3, 0x100, 0]; let dst := (e.val 0).toNat; let src := (e.val 1).toNat; let len := (e.val 2).toNat; s.dev.dmaHead k 6 0 = some e ∧ coreAddr dst ≠ .bad ∧ coreAddr src ≠ .bad ∧ dst % 32 = 0 ∧ src % 32 = 0 ∧ len % 32 = 0 ∧ (len < 32 ∨ 2 ^ 30 < len) := by decide +kernel
theorem wit_dcopyStartsACopy_2_g : let k : Nat := 3; let s : State := sDm (dm 6 0 [scratchWindow 3, 0x100, 2 ^ 30 + 32]); let e : QEntry := dm 6 0 [scratchWindow 3, 0x100, 2 ^ 30 + 32]; let dst := (e.val 0).toNat; let src := (e.val 1).toNat; let len := (e.val 2).toNat; s.dev.dmaHead k 6 0 = some e ∧ coreAddr dst ≠ .bad ∧ coreAddr src ≠ .bad ∧ dst % 32 = 0 ∧ src % 32 = 0 ∧ len % 32 = 0 ∧ (len < 32 ∨ 2 ^ 30 < len) := by decide +kernel
theorem wit_descriptorCopiesAndMessagesStart_0 : let k : Nat := 3; let s : State := sDm (dm 6 1 [scratchWindow 3]) (desc 0x1000 (scratchWindow 3 + 0x1000) (32 + 2 * 2 ^ 32) 4096 (2 ^ 64 - 64) (65535 + 2 ^ 16)); let e : QEntry := dm 6 1 [scratchWindow 3]; let sa := (e.val 0).toNat; let t := s.dev.scrub sa 64; let l := t.bytesAt sa 64; let kind := CopyKind.ddesc (leAt l 8 8) (leAt l 0 8) (leAt l 16 4) (leAt l 20 4) (sext 64 (leAt l 32 8)) (sext 64 (leAt l 24 8)); s.dev.dmaHead k 6 1 = some e ∧ scratchWindow k ≤ sa ∧ sa < scratchWindow k + 2 ^ 21 ∧ sa % 64 = 0 ∧ (t.poisonsAt sa 64).any id = false ∧ s.dev.copiesWrite k sa 64 = false ∧ leAt l 42 2 ≤ 1 ∧ leAt l 44 20 = 0 ∧ 32 ≤ leAt l 16 4 ∧ leAt l 16 4 ≤ 2 ^ 24 ∧ 1 ≤ leAt l 20 4 ∧ leAt l 20 4 ≤ 65536 ∧ (∀ g ∈ kind.segs, coreAddr g.2.1 ≠ .bad ∧ coreAddr g.2.2.1 ≠ .bad ∧ g.2.1 % 32 = 0 ∧ g.2.2.1 % 32 = 0 ∧ g.2.2.2 % 32 = 0) ∧ (∀ r ∈ kind.local, (t.startEntry k 3 e).present r.1 r.2 = true) ∧ (t.startEntry k 3 e).copyGate kind = none := by decide +kernel
theorem wit_descriptorCopiesAndMessagesStart_2 : let k : Nat := 3; let s : State := sDm (dm 7 4 [1 + 1023 * 2 ^ 32, 0x1000, 65536]); let e : QEntry := dm 7 4 [1 + 1023 * 2 ^ 32, 0x1000, 65536]; let src : Nat := 0x1000; s.dev.dmaHead k 7 4 = some e ∧ coreAddr (e.val 1).toNat = .loc src ∧ 1 ≤ (e.val 2).toNat ∧ (e.val 2).toNat ≤ 65536 ∧ s.dev.present src (e.val 2).toNat = true := by decide +kernel
theorem wit_CopyEndReportsAndCompletes_0 : let id : Nat := 12; let s : State := sCpB; let c : Copy := cpB; s.dev.findCopy id = some c ∧ (s.dev.copyBusy id = true ∨ s.dev.copyBehind c = true) := by decide +kernel
theorem wit_CopyEndReportsAndCompletes_1 : let id : Nat := 11; let s : State := sCp []; let c : Copy := cp []; let m := c.late.foldl (fun d g => d.writeMasked (c.kind.at g.1).2 g.2.1 g.2.2) s.dev; let c' := cp []; s.dev.findCopy id = some c ∧ s.dev.copyBusy id = false ∧ s.dev.copyBehind c = false ∧ (∀ g ∈ c.late, s.dev.held (c.kind.at g.1).2 g.2.1.length = false) ∧ c.fails = [] ∧ (∀ r ∈ c.kind.local, m.held r.1 r.2 = false) ∧ (m.moveCopy c).findCopy id = some c' := by decide +kernel
theorem wit_CopyEndReportsAndCompletes_2 : let id : Nat := 11; let s : State := sCp [(5, 0x0502), (4, 0x0503)]; let c : Copy := cp [(5, 0x0502), (4, 0x0503)]; let reason := 0x0503; s.dev.findCopy id = some c ∧ s.dev.copyBusy id = false ∧ s.dev.copyBehind c = false ∧ (∀ g ∈ c.late, s.dev.held (c.kind.at g.1).2 g.2.1.length = false) ∧ c.fails ≠ [] ∧ firstFail c.fails = some reason ∧ reason ≠ 0 ∧ c.live = true := by decide +kernel
theorem wit_CopyEndReportsAndCompletes_3 : let id : Nat := 11; let s : State := sCp [(5, 0x0502)]; let c : Copy := cp [(5, 0x0502)]; let reason := 0x0502; let t := 65535; s.dev.findCopy id = some c ∧ s.dev.copyBusy id = false ∧ s.dev.copyBehind c = false ∧ (∀ g ∈ c.late, s.dev.held (c.kind.at g.1).2 g.2.1.length = false) ∧ c.fails ≠ [] ∧ firstFail c.fails = some reason ∧ reason ≠ 0 ∧ c.live = true ∧ c.tally = some t ∧ c.core < 960 ∧ t < 65536 ∧ reason < 65536 := by decide +kernel


/-- A command of queue pair 3 with these parameters, and a device (before host-ready unless another is given) that holds it. -/
def cmd (op : Nat) (ps : List Nat) (phase : CmdPhase := .begun) (aux : List Nat := []) : Cmd :=
  ⟨21, .queue 3, padTo 64 (leBytes 2 op ++ leBytes 2 0 ++ leBytes 4 0x77 ++ leBytes 8 500 ++ leBytes 8 1 ++ ps.flatMap (leBytes 8)), phase, aux, 0, false⟩
def qpr : QPair :=
  { q := 3, sqBase := 0x10000, sqSize := 16, cqBase := 0x20000, cqSize := 16, tail := 0, cqHead := 0, phase := true, coalCount := 2, coalFrames := 10,
    unsignalled := 0, since := 0, deleting := false }
def cold : Dev := mk [(CP_STATUS_ready, 0)] host
def sC (c : Cmd) (d : Dev := cold) : State := st { d with cp := { d.cp with qps := [qpr], cmds := [c] } }

/-- A bell record received on lane 31 of port 0 from coordinate 1. -/
def bellC (kind : Nat) (pl : List Byte) : RxCell :=
  ⟨5, 0, 31, 4, 200, ⟨bellOp kind 9 3, 256, 0, 0, 1, 0, 4, 0, 1, 0, padTo 256 pl, 0⟩⟩
def sB (kind : Nat) (pl : List Byte) (d : Dev := net) : State := st { d with net := { d.net with rx := [bellC kind pl] } }
def remC (op : Nat) : List Byte := leBytes 4 1 ++ leBytes 4 99 ++ leBytes 4 0 ++ zeros 4 ++ (cmd op [7, 0xFFFF]).packet
def remCmd (op : Nat) : Cmd := { cmd op [7, 0xFFFF] with id := 1, origin := .remote 1 99 }
def away : Cmd := cmd 0x0100 [] (.away 99 700 1)
def acc : Dev := mk [(CP_CTRL_remote_accept, 1), (CP_CTRL_enable, 1)] net

/-- A queue pair with a packet at its head. -/
def sQ (c : Cmd) (x : QPair := qpr) (d : Dev := mk [(CP_CTRL_enable, 1), (CP_QP_sq_head 3, 15)] host) : State :=
  st ({ d with cp := { qps := [{ x with tail := 0 }] } }.hostWrite (0x10000 + 64 * 15) c.packet)
def cpl : Cpl := ⟨3, 0x77, 5, 1, 2, 3, true, false⟩
def sPost (x : QPair) (d : Dev := mk [(CP_QP_cq_tail 3, 15), (CP_QP_vector 3, 2)] host) : State := st { d with cp := { qps := [x], cpls := [cpl] } }

/-- Aperture 15 maps the first 4 GiB of HBM. -/
def bar : Dev := mk [(CP_APERTURE_valid 15, 1), (CP_APERTURE_base 15, 0)] (host.write 0x1000 (List.replicate 16 7) fun _ => true)

/-- A running pass over 4 KiB, a word of which is bad. -/
def assayC : Cmd := { cmd 0x0202 [0x1000, 0x1000, 4 + 2 ^ 8, 0x40000] .running with id := 22 }
def sAs (c : Cmd) (l : List Cmd) : State :=
  st { ((host.writeClean 0x1000 (List.replicate 16 7)).setChk 0x1010 0x1234) with cp := { qps := [qpr], cmds := c :: l } }

/-- Core 3 of a device in a state. -/
def coreSt (k stt : Nat) (d : Dev := cold) : Dev := mk [(SQ_STATUS_state k, stt)] d
def sPostC : State := sPost { qpr with unsignalled := 1, since := 0 } (mk [(⟨GD_FRAME, 63, 0⟩, 10)] host)
/-- A command with every optional field 0. -/
def cmd0 (op : Nat) (ps : List Nat) : Cmd :=
  ⟨21, .queue 3, padTo 64 (leBytes 2 op ++ leBytes 2 0 ++ leBytes 4 0x77 ++ zeros 16 ++ ps.flatMap (leBytes 8)), .begun, [], 0, false⟩
def remC0 (op : Nat) : List Byte := leBytes 4 1 ++ leBytes 4 99 ++ leBytes 4 0 ++ zeros 4 ++ (cmd0 op [7, 0xFFFF]).packet
/-- A command for member 1 of the row. -/
def cmdR (op : Nat) (ps : List Nat) : Cmd :=
  ⟨21, .queue 3, padTo 64 (leBytes 2 op ++ leBytes 2 8 ++ leBytes 4 0x77 ++ zeros 8 ++ leBytes 8 1 ++ ps.flatMap (leBytes 8)), .begun, [], 0, false⟩
def open15 (d : Dev) : Dev := mk [(CP_CTRL_enable, 1), (CP_QP_sq_head 3, 15)] d
def assayL : Cmd := { cmd 0x0202 [0x1000, 0x1000, 4, 0x40000] .running with id := 22 }
/-- A two-dimensional sheet keeps port 5 dark. -/
def dark5 : Dev := { net with fab := { map := some { fmap with twoD := true } } }.setDrift 5 { loaded := true }

theorem wit_AdministrativeCommands_0 : let id : Nat := 21; let s : State := sC (cmd 0x0100 []); let c : Cmd := cmd 0x0100 []; (s.dev.findCmd id = some c ∧ c.opcode = 0x0100 ∧ c.phase = .begun) := by decide +kernel
theorem wit_AdministrativeCommands_1 : let id : Nat := 21; let s : State := sC (cmd 0x0101 [0x9000]); let c : Cmd := cmd 0x0101 [0x9000]; (s.dev.findCmd id = some c ∧ c.opcode = 0x0101 ∧ c.phase = .begun) := by decide +kernel
theorem wit_AdministrativeCommands_2 : let id : Nat := 21; let s : State := st { (sC (cmd 0x0106 [])).dev with cp := { (sC (cmd 0x0106 [])).dev.cp with events := [⟨4, 1, 2⟩, ⟨5, 0, 0⟩], lostSince := 65536 } }; let c : Cmd := cmd 0x0106 []; let e := (⟨4, 1, 2⟩ : Event); let t := [⟨5, 0, 0⟩]; let q := 3; (s.dev.findCmd id = some c ∧ c.opcode = 0x0106 ∧ c.phase = .begun) ∧ s.dev.cp.events = e :: t ∧ c.origin = .queue q := by decide +kernel
theorem wit_AdministrativeCommands_3 : let id : Nat := 21; let s : State := sC (cmd 0x0106 []); let c : Cmd := cmd 0x0106 []; (s.dev.findCmd id = some c ∧ c.opcode = 0x0106 ∧ c.phase = .begun) ∧ s.dev.cp.events = [] ∧ s.dev.awaiting.length < 16 := by decide +kernel
theorem wit_AdministrativeCommands_4 : let id : Nat := 21; let s : State := st { (sC (cmd 0x0106 [])).dev with cp := { (sC (cmd 0x0106 [])).dev.cp with cmds := cmd 0x0106 [] :: (List.range 16).map fun i => { cmd 0x0106 [] .running with id := 30 + i } } }; let c : Cmd := cmd 0x0106 []; (s.dev.findCmd id = some c ∧ c.opcode = 0x0106 ∧ c.phase = .begun) ∧ s.dev.cp.events = [] ∧ 16 ≤ s.dev.awaiting.length := by decide +kernel
theorem wit_AdministrativeCommands_5 : let id : Nat := 21; let s : State := sC (cmd 0x0102 [0x4000, 0x8000, 63 * 2 ^ 32 + 1 * 2 ^ 16 + 4095 + 5 * 2 ^ 48, 7 + 100 * 2 ^ 16]); let c : Cmd := cmd 0x0102 [0x4000, 0x8000, 63 * 2 ^ 32 + 1 * 2 ^ 16 + 4095 + 5 * 2 ^ 48, 7 + 100 * 2 ^ 16]; let q := c.p 2 / 2 ^ 32 % 64; let sq := c.p 2 % 2 ^ 12 + 1; let cq := c.p 2 / 2 ^ 16 % 2 ^ 12 + 1; (s.dev.findCmd id = some c ∧ c.opcode = 0x0102 ∧ c.phase = .begun) ∧ q ≠ 0 ∧ s.dev.qp q = none ∧ 2 ≤ sq ∧ 2 ≤ cq ∧ c.p 0 % 4096 = 0 ∧ c.p 1 % 4096 = 0 ∧ bitAt (c.p 2) 40 = false := by decide +kernel
theorem wit_AdministrativeCommands_6 : let id : Nat := 21; let s : State := sC (cmd 0x0102 [0x4000, 0x8000, 3 * 2 ^ 32 + 1 * 2 ^ 16 + 1]); let c : Cmd := cmd 0x0102 [0x4000, 0x8000, 3 * 2 ^ 32 + 1 * 2 ^ 16 + 1]; let q := c.p 2 / 2 ^ 32 % 64; (s.dev.findCmd id = some c ∧ c.opcode = 0x0102 ∧ c.phase = .begun) ∧ q ≠ 0 ∧ s.dev.qp q ≠ none := by decide +kernel
theorem wit_AdministrativeCommands_7 : let id : Nat := 21; let s : State := st { cold with cp := { qps := [{ qpr with q := 63 }, qpr], cmds := [cmd 0x0103 [63]] } }; let c : Cmd := cmd 0x0103 [63]; let x : QPair := { qpr with q := 63 }; let q := c.p 0 % 64; let p := 3; (s.dev.findCmd id = some c ∧ c.opcode = 0x0103 ∧ c.phase = .begun) ∧ s.dev.qp q = some x ∧ q ≠ 0 ∧ x.deleting = false ∧ x.tail = s.dev.fld (CP_QP_sq_head q) ∧ 0 < x.sqSize ∧ s.dev.queueCmds q = [] ∧ (∀ y ∈ s.dev.cp.cpls, y.q ≠ q) ∧ s.dev.cp.cmds = [c] ∧ c.origin = .queue p ∧ c.id = id := by decide +kernel
theorem wit_RemoteCommandsAreServedAnsweredAndTimedOut_0 : let rx : Nat := 5; let s : State := sB 0x30 (remC 0x0100); let r : RxCell := bellC 0x30 (remC 0x0100); let t := (s.dev.dropRx r).bump; s.dev.rxCell rx = some r ∧ r.cell.cls = 4 ∧ r.cell.bellKind = 0x30 ∧ leAt r.cell.payload 8 4 = (s.dev.dropRx r).fid ∧ t.flag CP_CTRL_remote_accept = false := by decide +kernel
theorem wit_RemoteCommandsAreServedAnsweredAndTimedOut_1 : let rx : Nat := 5; let s : State := sB 0x30 (remC 0x0107) acc; let r : RxCell := bellC 0x30 (remC 0x0107); let t := (s.dev.dropRx r).bump; let c : Cmd := ⟨(s.dev.dropRx r).nextId, .remote (leAt r.cell.payload 0 4) (leAt r.cell.payload 4 4), sliceB r.cell.payload 16 64, .begun, [], 0, false⟩; s.dev.rxCell rx = some r ∧ r.cell.cls = 4 ∧ r.cell.bellKind = 0x30 ∧ leAt r.cell.payload 8 4 = (s.dev.dropRx r).fid ∧ t.flag CP_CTRL_remote_accept = true ∧ opInfo c.opcode (c.p 0) = none := by decide +kernel
theorem wit_RemoteCommandsAreServedAnsweredAndTimedOut_2 : let rx : Nat := 5; let s : State := sB 0x30 (remC0 0x0105) acc; let r : RxCell := bellC 0x30 (remC0 0x0105); let t := (s.dev.dropRx r).bump; let c : Cmd := ⟨(s.dev.dropRx r).nextId, .remote (leAt r.cell.payload 0 4) (leAt r.cell.payload 4 4), sliceB r.cell.payload 16 64, .begun, [], 0, false⟩; let i := (⟨.any, true, [wholeWord, wholeWord]⟩ : OpInfo); s.dev.rxCell rx = some r ∧ r.cell.cls = 4 ∧ r.cell.bellKind = 0x30 ∧ leAt r.cell.payload 8 4 = (s.dev.dropRx r).fid ∧ t.flag CP_CTRL_remote_accept = true ∧ opInfo c.opcode (c.p 0) = some i ∧ t.checkPacket c i true = 0 := by decide +kernel
theorem wit_RemoteCommandsAreServedAnsweredAndTimedOut_3 : let rx : Nat := 5; let s : State := st { (sB 0x31 (leBytes 4 1 ++ leBytes 4 99 ++ leBytes 4 0 ++ zeros 4 ++ leBytes 2 0x0202 ++ zeros 2 ++ leBytes 4 1 ++ leBytes 4 2 ++ leBytes 4 3)).dev with cp := { cmds := [away] } }; let r : RxCell := bellC 0x31 (leBytes 4 1 ++ leBytes 4 99 ++ leBytes 4 0 ++ zeros 4 ++ leBytes 2 0x0202 ++ zeros 2 ++ leBytes 4 1 ++ leBytes 4 2 ++ leBytes 4 3); let c : Cmd := away; let seq : Nat := 99; let deadline : Nat := 700; let target : Nat := 1; s.dev.rxCell rx = some r ∧ r.cell.cls = 4 ∧ r.cell.bellKind = 0x31 ∧ leAt r.cell.payload 8 4 = (s.dev.dropRx r).fid ∧ (s.dev.dropRx r).cp.cmds = [c] ∧ c.phase = .away seq deadline target ∧ leAt r.cell.payload 4 4 = seq ∧ leAt r.cell.payload 0 4 = target := by decide +kernel
theorem wit_RemoteCommandsAreServedAnsweredAndTimedOut_4 : let id : Nat := 21; let s : State := sC away (mk [(⟨GD_FRAME, 63, 0⟩, 700)] host); let c : Cmd := away; let seq : Nat := 99; let deadline : Nat := 700; let target : Nat := 1; s.dev.findCmd id = some c ∧ c.phase = .away seq deadline target ∧ deadline ≤ s.dev.frame := by decide +kernel
theorem wit_completionsCountAndWaitForTheirRing_0 : let c : Cmd := cmd 0x0100 []; let q : Nat := 3; c.origin = .queue q := by decide +kernel
theorem wit_completionsCountAndWaitForTheirRing_3 : let c : Cmd := cmd 0x0100 []; let q : Nat := 3; let reason : Nat := 0; c.origin = .queue q ∧ reason = 0 := by decide +kernel
theorem wit_completionsCountAndWaitForTheirRing_5 : let c : Cmd := cmd 0x0100 []; let q : Nat := 3; let reason : Nat := 1; c.origin = .queue q ∧ reason ≠ 0 := by decide +kernel
theorem wit_completionsArePosted_0 : let q : Nat := 3; let s : State := sPost { qpr with cqHead := 1 }; let x : QPair := { qpr with cqHead := 1 }; let c : Cpl := cpl; s.dev.qp q = some x ∧ s.dev.cp.cpls.find? (fun y => y.q == q) = some c ∧ s.dev.ringFull x = false ∧ (∀ y ∈ s.dev.cp.cmds, y.opcode ≠ 0x0103) ∧ q < 64 ∧ x.cqSize ≤ 4096 ∧ 0 < x.cqSize := by decide +kernel
theorem wit_completionsArePosted_0_u : let q : Nat := 3; let s : State := sPost { qpr with cqHead := 1, unsignalled := 1 }; let x : QPair := { qpr with cqHead := 1, unsignalled := 1 }; let c : Cpl := cpl; s.dev.qp q = some x ∧ s.dev.cp.cpls.find? (fun y => y.q == q) = some c ∧ s.dev.ringFull x = false ∧ (∀ y ∈ s.dev.cp.cmds, y.opcode ≠ 0x0103) ∧ q < 64 ∧ x.cqSize ≤ 4096 ∧ 0 < x.cqSize := by decide +kernel
theorem wit_completionsArePosted_1 : let q : Nat := 3; let s : State := sPostC; let x : QPair := { qpr with unsignalled := 1, since := 0 }; s.dev.qp q = some x ∧ x.unsignalled ≠ 0 ∧ x.since + x.coalFrames ≤ s.dev.frame := by decide +kernel
theorem wit_hostInterfaceOpensResetsAndMaps_0 : let v : Word64 := 1; let s : State := st (mk [(CP_AQ_SQ_entries, 15), (CP_AQ_CQ_entries, 1)] host); s.dev.ready = true ∧ s.dev.cp.d3hot = false ∧ s.dev.inBatch CP_CTRL = false ∧ s.dev.flag CP_CTRL_enable = false ∧ bitAt v.toNat 0 = true ∧ s.dev.fld CP_AQ_SQ_entries ≠ 0 ∧ s.dev.fld CP_AQ_CQ_entries ≠ 0 := by decide +kernel
theorem wit_hostInterfaceOpensResetsAndMaps_1 : let k : Nat := 15; let v : Word64 := 0x123400000001; let s : State := st host; k < 16 ∧ s.dev.ready = true ∧ s.dev.cp.d3hot = false ∧ s.dev.inBatch (CP_APERTURE k) = false ∧ (bitAt v.toNat 0 = false ∨ wget v 47 32 ≠ 0x0F00) := by decide +kernel
theorem wit_hostInterfaceOpensResetsAndMaps_2 : let k : Nat := 15; let v : Word64 := 0x0F0000000001; let s : State := st host; k < 16 ∧ s.dev.ready = true ∧ s.dev.cp.d3hot = false ∧ s.dev.inBatch (CP_APERTURE k) = false ∧ bitAt v.toNat 0 = true ∧ wget v 47 32 = 0x0F00 := by decide +kernel
theorem wit_hostInterfaceOpensResetsAndMaps_4 : let gen : Nat := 7; let width : Nat := 8; 5 ≤ gen ∧ gen ≤ 7 ∧ (width = 4 ∨ width = 8) := by decide +kernel
theorem wit_hostInterfaceOpensResetsAndMaps_5 : let width : Nat := 3; width < 4 := by decide +kernel
theorem wit_bar2AccessesReachMemory_1 : let s : State := st cold; s.dev.cp.d3hot = false ∧ s.dev.ready = false := by decide +kernel
theorem wit_bar2AccessesReachMemory_2 : let off : Nat := 15 * 2 ^ 32 + 0xFFE; let data : List (BitVec 8) := [1, 2]; let s : State := st bar; let a : Nat := 0xFFE; s.dev.cp.d3hot = false ∧ s.dev.ready = true ∧ data ≠ [] ∧ off / 4096 = (off + data.length - 1) / 4096 ∧ s.dev.bar2Byte off = some a ∧ s.dev.held a data.length = false := by decide +kernel
theorem wit_assays_0 : let id : Nat := 21; let s : State := sC (cmd 0x0202 [0x1000, 0x1000, 16, 0x2000]) host; let c : Cmd := cmd 0x0202 [0x1000, 0x1000, 16, 0x2000]; (s.dev.findCmd id = some c ∧ c.opcode = 0x0202 ∧ c.phase = .begun) ∧ c.id = id ∧ s.dev.assayCheck c = 0 := by decide +kernel
theorem wit_assays_3 : let id : Nat := 22; let s : State := sAs (cmd 0x0100 []) [assayC]; let c : Cmd := assayC; let t := narrowAsked s.dev c (if bitAt (c.p 2) 8 then [] else [(c.p 3, 64)]); s.dev.assays.find? (fun y => y.id == id) = some c ∧ s.dev.assayHeld c = false ∧ t.narrowBusy (.command c.id) = false := by decide +kernel
theorem wit_assays_4 : let id : Nat := 21; let s : State := sAs (cmd 0x0203 [0x78]) [assayC]; let c : Cmd := cmd 0x0203 [0x78]; (s.dev.findCmd id = some c ∧ c.opcode = 0x0203 ∧ c.phase = .begun) ∧ (∀ x ∈ s.dev.assays, x.tag ≠ c.p 0) := by decide +kernel
theorem wit_assays_6 : let id : Nat := 21; let s : State := sAs (cmd 0x0203 [0x77]) [assayC]; let c : Cmd := cmd 0x0203 [0x77]; let x : Cmd := assayC; let t := narrowAsked s.dev x (if bitAt (x.p 2) 8 then [] else [(x.p 3, 64)]); (s.dev.findCmd id = some c ∧ c.opcode = 0x0203 ∧ c.phase = .begun) ∧ s.dev.assays.find? (fun y => y.tag == c.p 0) = some x ∧ s.dev.assayHeld x = false ∧ t.narrowBusy (.command x.id) = false := by decide +kernel
theorem wit_initialisationsEnd_1 : let die : Nat := 0; let cluster : Nat := 7; let core : Nat := 9; let s : State := st (coreSt 79 6 host); let k := die * 80 + cluster * 10 + core; die < 12 ∧ cluster < 8 ∧ core < 10 ∧ s.dev.coreState k = 6 ∧ (∀ y ∈ s.dev.cp.cmds, y.opcode ≠ 0x0302) := by decide +kernel
theorem wit_initialisationsEnd_2 : let die : Nat := 11; let cluster : Nat := 7; die < 12 ∧ cluster < 8 := by decide +kernel
theorem wit_initialisationsEnd_3 : True := by decide +kernel
theorem wit_resets_1 : let id : Nat := 21; let s : State := sC (cmd 0x0104 [3 + 79 * 2 ^ 16]) (coreSt 79 1); let c : Cmd := cmd 0x0104 [3 + 79 * 2 ^ 16]; let k := c.p 0 / 2 ^ 8 % 16 * 80 + c.p 0 / 2 ^ 16 % 256; (s.dev.findCmd id = some c ∧ c.opcode = 0x0104 ∧ c.phase = .begun) ∧ c.p 0 % 8 = 3 ∧ c.p 0 / 2 ^ 16 % 256 < 80 ∧ s.dev.coreState k = 1 := by decide +kernel
theorem wit_resets_10 : let id : Nat := 21; let s : State := sC (cmd 0x0104 [0]); let c : Cmd := cmd 0x0104 [0]; let q := 3; (s.dev.findCmd id = some c ∧ c.opcode = 0x0104 ∧ c.phase = .begun) ∧ c.p 0 % 8 = 0 ∧ c.origin = .queue q := by decide +kernel
theorem wit_resets_11 : let s : State := st { host with cp := { resetDue := some (3, 0x77) } }; let q : Nat := 3; let tag : Nat := 0x77; s.dev.cp.resetDue = some (q, tag) ∧ (∀ x ∈ s.dev.cp.cpls, ¬ (x.q = q ∧ x.tag = tag)) := by decide +kernel
theorem wit_resets_12 : let s : State := st { host with cp := { resetDue := some (3, 0x77), cpls := [cpl] } }; let q : Nat := 3; let tag : Nat := 0x77; s.dev.cp.resetDue = some (q, tag) ∧ (∃ x ∈ s.dev.cp.cpls, x.q = q ∧ x.tag = tag) := by decide +kernel
theorem wit_unitCommands_0 : let id : Nat := 21; let s : State := sC (cmd 0x0105 [regSpaceBase + SQ_WAIT_LIMIT 3, 77]); let c : Cmd := cmd 0x0105 [regSpaceBase + SQ_WAIT_LIMIT 3, 77]; (s.dev.findCmd id = some c ∧ c.opcode = 0x0105 ∧ c.phase = .begun) := by decide +kernel
theorem wit_unitCommands_0_r : let id : Nat := 21; let s : State := sC (cmd 0x0105 [regSpaceBase + HF_TALLY 65535, 77]); let c : Cmd := cmd 0x0105 [regSpaceBase + HF_TALLY 65535, 77]; (s.dev.findCmd id = some c ∧ c.opcode = 0x0105 ∧ c.phase = .begun) := by decide +kernel
theorem wit_unitCommands_1 : let id : Nat := 21; let s : State := sC (cmd 0x0302 [79 * 2 ^ 8]) (coreSt 79 2); let c : Cmd := cmd 0x0302 [79 * 2 ^ 8]; let die := c.p 0 % 16; let k := die * 80 + c.p 0 / 2 ^ 8 % 128; let cl := k % 80 / 10; (s.dev.findCmd id = some c ∧ c.opcode = 0x0302 ∧ c.phase = .begun) ∧ c.p 0 / 2 ^ 8 % 128 < 80 ∧ c.p 0 % 16 < 12 ∧ s.dev.spareActive die cl = false ∧ s.dev.spareGood die cl = true ∧ die * 8 + cl ∉ s.dev.svc.clustersOff ∧ (s.dev.coreState k = 2 ∨ s.dev.coreState k = 3 ∨ s.dev.coreState k = 5) ∧ c.id = id := by decide +kernel
theorem wit_unitCommands_8 : let id : Nat := 21; let s : State := sC (cmd 0x0304 [7 * 2 ^ 12]); let c : Cmd := cmd 0x0304 [7 * 2 ^ 12]; let die := c.p 0 / 2 ^ 8 % 16; let cl := c.p 0 / 2 ^ 12 % 8; (s.dev.findCmd id = some c ∧ c.opcode = 0x0304 ∧ c.phase = .begun) ∧ bitAt (c.p 0) 0 = false ∧ s.dev.clusterUp die cl = true ∧ (∀ k ∈ coresOfCluster die cl, s.dev.coreState k ≠ 1) := by decide +kernel
theorem wit_unitCommands_9 : let id : Nat := 21; let s : State := sC (cmd 0x0305 [7 * 2 ^ 12]) { cold with svc := { clustersOff := [7] } }; let c : Cmd := cmd 0x0305 [7 * 2 ^ 12]; let die := c.p 0 / 2 ^ 8 % 16; let cl := c.p 0 / 2 ^ 12 % 8; (s.dev.findCmd id = some c ∧ c.opcode = 0x0305 ∧ c.phase = .begun) ∧ bitAt (c.p 0) 0 = false ∧ s.dev.dieUp die = true ∧ s.dev.clusterUp die cl = false := by decide +kernel
theorem wit_unitCommands_11 : let id : Nat := 21; let s : State := sC (cmd 0x0701 [5]) (mk [(DR_CTRL_enable 5, 1)] cold); let c : Cmd := cmd 0x0701 [5]; (s.dev.findCmd id = some c ∧ c.opcode = 0x0701 ∧ c.phase = .begun) := by decide +kernel
theorem wit_unitCommands_12 : let id : Nat := 21; let s : State := sC (cmd 0x0702 [5]); let c : Cmd := cmd 0x0702 [5]; let n := c.p 0 % 8; let t := if s.dev.flag (DR_CTRL_enable n) then s.dev.driftOff n else s.dev; (s.dev.findCmd id = some c ∧ c.opcode = 0x0702 ∧ c.phase = .begun) ∧ (t.drift n).loaded = false := by decide +kernel
theorem wit_unitCommands_14 : let id : Nat := 21; let s : State := sC (cmd 0x0702 [5]) (cold.setDrift 5 { loaded := true }); let c : Cmd := cmd 0x0702 [5]; let n := c.p 0 % 8; let t := if s.dev.flag (DR_CTRL_enable n) then s.dev.driftOff n else s.dev; (s.dev.findCmd id = some c ∧ c.opcode = 0x0702 ∧ c.phase = .begun) ∧ (t.drift n).loaded = true ∧ t.keepsDark n = false := by decide +kernel
theorem wit_startingACoreSetsItsState_0 : let k : Nat := 959; let i := 8; k < 960 ∧ 1 ≤ i ∧ i ≤ 8 := by decide +kernel
theorem wit_startingACoreSetsItsState_1 : let k : Nat := 959; let i := 9; k < 960 ∧ 8 < i := by decide +kernel
theorem wit_startingACoreSetsItsState_2 : let k : Nat := 959; k < 960 := by decide +kernel
theorem wit_sqRegisterRows_0 : let k : Nat := 79; let v : Word64 := 1; let s : State := st (coreSt 79 0 host); k < 960 ∧ s.dev.ready = true ∧ s.dev.cp.d3hot = false ∧ s.dev.regAbsent (SQ_CTRL k) = false ∧ s.dev.inBatch (SQ_CTRL k) = false ∧ s.dev.flag (SQ_CTRL_run k) = false ∧ wget v 2 0 = 1 ∧ s.dev.coreState k ≠ 1 ∧ s.dev.coreState k ≠ 5 ∧ s.dev.coreState k ≠ 6 := by decide +kernel
theorem wit_sqRegisterRows_1 : let k : Nat := 79; let v : Word64 := 1; let s : State := st (coreSt 79 6 host); k < 960 ∧ s.dev.ready = true ∧ s.dev.cp.d3hot = false ∧ s.dev.regAbsent (SQ_CTRL k) = false ∧ s.dev.inBatch (SQ_CTRL k) = false ∧ s.dev.flag (SQ_CTRL_run k) = false ∧ wget v 2 0 = 1 ∧ s.dev.coreState k = 6 := by decide +kernel
theorem wit_sqRegisterRows_3 : let k : Nat := 79; let v : Word64 := 2; let s : State := st ((coreSt 79 2 host).modCore 79 fun c => { c with swTrap := true }); k < 960 ∧ s.dev.ready = true ∧ s.dev.cp.d3hot = false ∧ s.dev.regAbsent (SQ_CTRL k) = false ∧ s.dev.inBatch (SQ_CTRL k) = false ∧ s.dev.flag (SQ_CTRL_run k) = false ∧ wget v 2 0 = 2 ∧ s.dev.coreState k = 2 ∧ (s.dev.core k).swTrap = true ∧ s.dev.fld (SQ_TRAP_pc k) ≠ 8191 := by decide +kernel
theorem wit_sqRegisterRows_4 : let k : Nat := 79; let v : Word64 := 5; let s : State := st (mk [(SQ_CTRL_run 79, 1)] (coreSt 79 1 host)); k < 960 ∧ s.dev.ready = true ∧ s.dev.cp.d3hot = false ∧ s.dev.regAbsent (SQ_CTRL k) = false ∧ s.dev.inBatch (SQ_CTRL k) = false ∧ s.dev.flag (SQ_CTRL_run k) = true ∧ s.dev.coreState k = 1 ∧ wget v 2 0 = 5 := by decide +kernel
theorem wit_sqRegisterRows_5 : let k : Nat := 79; let v : Word64 := 0x123456789; let s : State := st (coreSt 79 0 host); k < 960 ∧ s.dev.ready = true ∧ s.dev.cp.d3hot = false ∧ s.dev.regAbsent (SQ_SR_SEED k) = false ∧ s.dev.inBatch (SQ_SR_SEED k) = false ∧ s.dev.refusedByRun (SQ_SR_SEED k) v = false := by decide +kernel
theorem wit_launches_3 : let id : Nat := 21; let s : State := sC (cmd 0x0300 [1 + 78 * 2 ^ 16 + 1 * 2 ^ 24] .running [1]) (coreSt 78 4 (coreSt 79 4)); let c : Cmd := cmd 0x0300 [1 + 78 * 2 ^ 16 + 1 * 2 ^ 24] .running [1]; s.dev.findCmd id = some c ∧ c.opcode = 0x0300 ∧ c.phase = .running ∧ (∀ k ∈ c.cores, s.dev.coreState k = 4) := by decide +kernel
theorem wit_launches_4 : let id : Nat := 21; let s : State := sC (cmd 0x0300 [1 + 78 * 2 ^ 16 + 1 * 2 ^ 24] .running [1]) (coreSt 78 4 (coreSt 79 2)); let c : Cmd := cmd 0x0300 [1 + 78 * 2 ^ 16 + 1 * 2 ^ 24] .running [1]; let k := 79; s.dev.findCmd id = some c ∧ c.opcode = 0x0300 ∧ c.phase = .running ∧ (∀ j ∈ c.cores, s.dev.coreState j ≠ 1) ∧ c.cores.find? (fun j => s.dev.coreState j == 2 || s.dev.coreState j == 3) = some k ∧ s.dev.coreState k = 2 := by decide +kernel
theorem wit_launches_5 : let id : Nat := 21; let s : State := sC (cmd 0x0301 [1 + 78 * 2 ^ 16 + 1 * 2 ^ 24]) (coreSt 78 4 (coreSt 79 1)); let c : Cmd := cmd 0x0301 [1 + 78 * 2 ^ 16 + 1 * 2 ^ 24]; let l : List Nat := [78, 79]; (s.dev.findCmd id = some c ∧ c.opcode = 0x0301 ∧ c.phase = .begun) ∧ selCores (c.p 0) = some l := by decide +kernel
theorem wit_doorbellsSetTailAndHead_0 : let q : Nat := 3; let size : Nat := 4; let v : Word64 := 15; let s : State := sPost qpr; let x := qpr; s.dev.ready = true ∧ s.dev.cp.d3hot = false ∧ q < 64 ∧ s.dev.qp q = some x ∧ (size = 4 ∨ size = 8) ∧ v.toNat < 4096 ∧ v.toNat < x.sqSize := by decide +kernel
theorem wit_doorbellsSetTailAndHead_1 : let q : Nat := 3; let size : Nat := 8; let v : Word64 := 15; let s : State := sPost qpr; let x := qpr; s.dev.ready = true ∧ s.dev.cp.d3hot = false ∧ q < 64 ∧ s.dev.qp q = some x ∧ (size = 4 ∨ size = 8) ∧ v.toNat < 4096 ∧ v.toNat < x.sqSize := by decide +kernel
theorem wit_doorbellsSetTailAndHead_2 : let q : Nat := 3; let size : Nat := 8; let v : Word64 := 15; let s : State := sPost qpr; let x := qpr; s.dev.ready = true ∧ s.dev.cp.d3hot = false ∧ q < 64 ∧ s.dev.qp q = some x ∧ (size = 4 ∨ size = 8) ∧ v.toNat < 4096 ∧ v.toNat < x.cqSize := by decide +kernel
theorem wit_doorbellsSetTailAndHead_3 : let q : Nat := 3; let size : Nat := 8; let v : Word64 := 16; let s : State := sPost qpr; s.dev.ready = true ∧ s.dev.cp.d3hot = false ∧ q < 64 ∧ (∀ x, s.dev.qp q = some x → x.sqSize ≤ v.toNat ∨ 4096 ≤ v.toNat ∨ (size ≠ 4 ∧ size ≠ 8)) := by decide +kernel
theorem wit_doorbellsSetTailAndHead_3_s : let q : Nat := 63; let size : Nat := 3; let v : Word64 := 0; let s : State := sPost qpr; s.dev.ready = true ∧ s.dev.cp.d3hot = false ∧ q < 64 ∧ (∀ x, s.dev.qp q = some x → x.sqSize ≤ v.toNat ∨ 4096 ≤ v.toNat ∨ (size ≠ 4 ∧ size ≠ 8)) := by decide +kernel
theorem wit_doorbellsSetTailAndHead_4 : let q : Nat := 3; let size : Nat := 4; let v : Word64 := 16; let s : State := sPost qpr; s.dev.ready = true ∧ s.dev.cp.d3hot = false ∧ q < 64 ∧ (∀ x, s.dev.qp q = some x → x.cqSize ≤ v.toNat ∨ 4096 ≤ v.toNat ∨ (size ≠ 4 ∧ size ≠ 8)) := by decide +kernel
theorem wit_queuesTakeTurns_0 : let d : Dev := (sQ (cmd 0x0107 [])).dev; let q : Nat := 3; let x : QPair := { qpr with tail := 0 }; d.qp q = some x := by decide +kernel
theorem wit_queuesTakeTurns_9 : let last : Nat := 3; let q : Nat := 3; let p : Nat → Bool := fun q => q == 3; turnAfter last p = some q := by decide +kernel
theorem wit_queuesTakeTurns_11 : let last : Nat := 3; let q : Nat := 63; let p : Nat → Bool := fun q => q == 3 ∨ q == 63; let j : Nat := 3; turnAfter last p = some q ∧ j < 64 ∧ p j = true := by decide +kernel
theorem wit_queuesTakeTurns_12 : let last : Nat := 3; let p : Nat → Bool := fun q => q == 64; let j : Nat := 63; turnAfter last p = none ∧ j < 64 := by decide +kernel
theorem wit_heldCommandsBeginAtTheirFrame_0 : let id : Nat := 21; let s : State := sC (cmd 0x0100 [] .held) (mk [(⟨GD_FRAME, 63, 0⟩, 500)] host); let c : Cmd := cmd 0x0100 [] .held; s.dev.findCmd id = some c ∧ c.phase = .held ∧ c.frame ≤ s.dev.frame ∧ s.dev.switchDue = false := by decide +kernel
theorem wit_heldCommandsBeginAtTheirFrame_1 : let id : Nat := 21; let s : State := sC (cmd 0x0100 [] .held) (mk [(⟨GD_FRAME, 63, 0⟩, 499)] host); let c : Cmd := cmd 0x0100 [] .held; s.dev.findCmd id = some c ∧ c.phase = .held ∧ (s.dev.frame < c.frame ∨ s.dev.switchDue = true) := by decide +kernel
theorem wit_msixVectorsSendOrPend_0 : let d : Dev := { host with cp := { msixTable := [(0x1008 + 16 * 63, 0)] } }; let v : Nat := 63; v < 64 ∧ (d.msixWord (0x1008 + 16 * v)).getLsbD 32 = false := by decide +kernel
theorem wit_msixVectorsSendOrPend_1 : let d : Dev := host; let v : Nat := 63; v < 64 ∧ (d.msixWord (0x1008 + 16 * v)).getLsbD 32 = true := by decide +kernel
theorem wit_msixVectorsSendOrPend_2 : let d : Dev := { host with cp := { msixPending := 2 ^ 63 } }; let v : Nat := 63; let x : Word64 := 0; v < 64 ∧ d.cp.d3hot = false ∧ d.cp.msixPending.getLsbD v = true ∧ x.getLsbD 32 = false := by decide +kernel
theorem wit_msixVectorsSendOrPend_4 : let d : Dev := host; let off : Nat := 0x13F8; d.cp.d3hot = false ∧ 0x1000 ≤ off ∧ off < 0x1400 ∧ off % 8 = 0 := by decide +kernel
theorem wit_msixVectorsSendOrPend_5 : let d : Dev := { host with cp := { msixPending := 2 ^ 63 } }; let off : Nat := 0x13F8; d.cp.d3hot = false ∧ 0x1000 ≤ off ∧ off < 0x1400 ∧ off % 8 = 0 := by decide +kernel
theorem wit_commandsBegin_0 : let q : Nat := 3; let s : State := sQ (cmd 0x0107 []) qpr host; let x : QPair := { qpr with tail := 0 }; s.dev.qp q = some x ∧ s.dev.urgentTurn ≠ some q ∧ s.dev.commonTurn ≠ some q := by decide +kernel
theorem wit_commandsBegin_1 : let q : Nat := 3; let s : State := sQ (cmd 0x0107 []); let x : QPair := { qpr with tail := 0 }; let head := s.dev.fld (CP_QP_sq_head q); let c : Cmd := ⟨s.dev.nextId, .queue q, s.dev.hostRead (x.sqBase + 64 * head) 64, .begun, [], 0, false⟩; let t := { s.dev with nextId := s.dev.nextId + 1 }.setFld (CP_QP_sq_head q) ((head + 1) % x.sqSize); s.dev.qp q = some x ∧ (s.dev.urgentTurn = some q ∨ s.dev.commonTurn = some q) ∧ t.checkOpcode c q = none := by decide +kernel
theorem wit_commandsBegin_2 : let q : Nat := 3; let s : State := sQ (cmd 0x0700 [8]); let x : QPair := { qpr with tail := 0 }; let head := s.dev.fld (CP_QP_sq_head q); let c : Cmd := ⟨s.dev.nextId, .queue q, s.dev.hostRead (x.sqBase + 64 * head) 64, .begun, [], 0, false⟩; let t := { s.dev with nextId := s.dev.nextId + 1 }.setFld (CP_QP_sq_head q) ((head + 1) % x.sqSize); let i := (⟨.any, false, [bitMask 2 0]⟩ : OpInfo); s.dev.qp q = some x ∧ (s.dev.urgentTurn = some q ∨ s.dev.commonTurn = some q) ∧ t.checkOpcode c q = some i ∧ t.checkPacket c i (!c.isRemote) ≠ 0 := by decide +kernel
theorem wit_commandsBegin_3 : let q : Nat := 3; let s : State := sQ (cmd0 0x0105 [8, 9]); let x : QPair := { qpr with tail := 0 }; let head := s.dev.fld (CP_QP_sq_head q); let c : Cmd := ⟨s.dev.nextId, .queue q, s.dev.hostRead (x.sqBase + 64 * head) 64, .begun, [], 0, false⟩; let t := { s.dev with nextId := s.dev.nextId + 1 }.setFld (CP_QP_sq_head q) ((head + 1) % x.sqSize); let i := (⟨.any, true, [wholeWord, wholeWord]⟩ : OpInfo); s.dev.qp q = some x ∧ (s.dev.urgentTurn = some q ∨ s.dev.commonTurn = some q) ∧ t.checkOpcode c q = some i ∧ t.checkPacket c i (!c.isRemote) = 0 ∧ (c.isRemote = false ∨ c.target = t.fid ∧ t.rowGate c.target = none) := by decide +kernel
theorem wit_commandsBegin_4 : let q : Nat := 3; let s : State := sQ (cmdR 0x0105 [8, 9]) qpr (open15 host); let x : QPair := { qpr with tail := 0 }; let head := s.dev.fld (CP_QP_sq_head q); let c : Cmd := ⟨s.dev.nextId, .queue q, s.dev.hostRead (x.sqBase + 64 * head) 64, .begun, [], 0, false⟩; let t := { s.dev with nextId := s.dev.nextId + 1 }.setFld (CP_QP_sq_head q) ((head + 1) % x.sqSize); let i := (⟨.any, true, [wholeWord, wholeWord]⟩ : OpInfo); let r := 0x0702; s.dev.qp q = some x ∧ (s.dev.urgentTurn = some q ∨ s.dev.commonTurn = some q) ∧ t.checkOpcode c q = some i ∧ t.checkPacket c i (!c.isRemote) = 0 ∧ c.isRemote = true ∧ t.rowGate c.target = some r := by decide +kernel
theorem wit_commandsBegin_5 : let q : Nat := 3; let s : State := sQ (cmdR 0x0105 [8, 9]) qpr (open15 net); let x : QPair := { qpr with tail := 0 }; let head := s.dev.fld (CP_QP_sq_head q); let c : Cmd := ⟨s.dev.nextId, .queue q, s.dev.hostRead (x.sqBase + 64 * head) 64, .begun, [], 0, false⟩; let t := { s.dev with nextId := s.dev.nextId + 1 }.setFld (CP_QP_sq_head q) ((head + 1) % x.sqSize); let i := (⟨.any, true, [wholeWord, wholeWord]⟩ : OpInfo); s.dev.qp q = some x ∧ (s.dev.urgentTurn = some q ∨ s.dev.commonTurn = some q) ∧ t.checkOpcode c q = some i ∧ t.checkPacket c i (!c.isRemote) = 0 ∧ c.isRemote = true ∧ t.rowGate c.target = none ∧ c.target ≠ t.fid := by decide +kernel
theorem wit_copyMovesItsBytes_0 : let id : Nat := 21; let s : State := sC (cmd 0x0200 [0x9000, 2 ^ 46, 16, 1]) host; let c : Cmd := cmd 0x0200 [0x9000, 2 ^ 46, 16, 1]; let n := c.p 2; let ranges := (if bitAt (c.p 3) 0 then [] else [(c.p 0, n)]) ++ (if bitAt (c.p 3) 1 then [] else [(c.p 1, n)]); (s.dev.findCmd id = some c ∧ c.opcode = 0x0200 ∧ c.phase = .begun) ∧ 16 ≤ c.p 2 ∧ c.p 2 ≤ 2 ^ 34 ∧ c.p 2 % 16 = 0 ∧ (∃ r ∈ ranges, s.dev.present r.1 r.2 = false) := by decide +kernel
theorem wit_copyMovesItsBytes_1 : let id : Nat := 21; let s : State := sC (cmd 0x0200 [0x9000, seamBase, 16, 1]) { cold with ram := { seamInit := [0] } }; let c : Cmd := cmd 0x0200 [0x9000, seamBase, 16, 1]; let n := c.p 2; let ranges := (if bitAt (c.p 3) 0 then [] else [(c.p 0, n)]) ++ (if bitAt (c.p 3) 1 then [] else [(c.p 1, n)]); (s.dev.findCmd id = some c ∧ c.opcode = 0x0200 ∧ c.phase = .begun) ∧ 16 ≤ c.p 2 ∧ c.p 2 ≤ 2 ^ 34 ∧ c.p 2 % 16 = 0 ∧ (∀ r ∈ ranges, s.dev.present r.1 r.2 = true) ∧ (∃ r ∈ ranges, s.dev.held r.1 r.2 = true) := by decide +kernel
theorem wit_copyMovesItsBytes_2 : let id : Nat := 21; let s : State := sC (cmd 0x0200 [0x9000, 0x2000, 16, 1]) host; let c : Cmd := cmd 0x0200 [0x9000, 0x2000, 16, 1]; let n := c.p 2; let ranges := (if bitAt (c.p 3) 0 then [] else [(c.p 0, n)]) ++ (if bitAt (c.p 3) 1 then [] else [(c.p 1, n)]); let t := narrowAsked s.dev c ranges; (s.dev.findCmd id = some c ∧ c.opcode = 0x0200 ∧ c.phase = .begun) ∧ 16 ≤ c.p 2 ∧ c.p 2 ≤ 2 ^ 34 ∧ c.p 2 % 16 = 0 ∧ (∀ r ∈ ranges, s.dev.present r.1 r.2 = true ∧ s.dev.held r.1 r.2 = false) ∧ t.narrowBusy (.command c.id) = true := by decide +kernel
theorem wit_copyMovesItsBytes_3 : let id : Nat := 21; let s : State := sC { cmd 0x0200 [0x9000, 0x2000, 16, 1] with asked := true } host; let c : Cmd := { cmd 0x0200 [0x9000, 0x2000, 16, 1] with asked := true }; let n := c.p 2; let ranges := (if bitAt (c.p 3) 0 then [] else [(c.p 0, n)]) ++ (if bitAt (c.p 3) 1 then [] else [(c.p 1, n)]); let t := narrowAsked s.dev c ranges; (s.dev.findCmd id = some c ∧ c.opcode = 0x0200 ∧ c.phase = .begun) ∧ 16 ≤ c.p 2 ∧ c.p 2 ≤ 2 ^ 34 ∧ c.p 2 % 16 = 0 ∧ (∀ r ∈ ranges, s.dev.present r.1 r.2 = true ∧ s.dev.held r.1 r.2 = false) ∧ t.narrowBusy (.command c.id) = false ∧ bitAt (c.p 3) 0 = true ∧ bitAt (c.p 3) 1 = false := by decide +kernel
theorem wit_copyMovesItsBytes_4 : let id : Nat := 21; let s : State := sC { cmd 0x0200 [0x2000, 0x9000, 32, 2] with asked := true } (host.write 0x2000 (List.replicate 16 5) fun _ => true); let c : Cmd := { cmd 0x0200 [0x2000, 0x9000, 32, 2] with asked := true }; let n := c.p 2; let ranges := (if bitAt (c.p 3) 0 then [] else [(c.p 0, n)]) ++ (if bitAt (c.p 3) 1 then [] else [(c.p 1, n)]); let t := narrowAsked s.dev c ranges; (s.dev.findCmd id = some c ∧ c.opcode = 0x0200 ∧ c.phase = .begun) ∧ 16 ≤ c.p 2 ∧ c.p 2 ≤ 2 ^ 34 ∧ c.p 2 % 16 = 0 ∧ (∀ r ∈ ranges, s.dev.present r.1 r.2 = true ∧ s.dev.held r.1 r.2 = false) ∧ t.narrowBusy (.command c.id) = false ∧ bitAt (c.p 3) 0 = false ∧ bitAt (c.p 3) 1 = true := by decide +kernel
theorem wit_copyMovesItsBytes_5 : let id : Nat := 21; let s : State := sC { cmd 0x0200 [0x2008, 0x4000, 48, 0] with asked := true } (host.write 0x2000 (List.replicate 16 5) fun _ => true); let c : Cmd := { cmd 0x0200 [0x2008, 0x4000, 48, 0] with asked := true }; let n := c.p 2; let ranges := (if bitAt (c.p 3) 0 then [] else [(c.p 0, n)]) ++ (if bitAt (c.p 3) 1 then [] else [(c.p 1, n)]); let t := narrowAsked s.dev c ranges; (s.dev.findCmd id = some c ∧ c.opcode = 0x0200 ∧ c.phase = .begun) ∧ 16 ≤ c.p 2 ∧ c.p 2 ≤ 2 ^ 34 ∧ c.p 2 % 16 = 0 ∧ (∀ r ∈ ranges, s.dev.present r.1 r.2 = true ∧ s.dev.held r.1 r.2 = false) ∧ t.narrowBusy (.command c.id) = false ∧ bitAt (c.p 3) 0 = false ∧ bitAt (c.p 3) 1 = false := by decide +kernel
theorem wit_copyMovesItsBytes_6 : let id : Nat := 21; let s : State := sC (cmd 0x0200 [0x2000, 0x9000, 48, 3]) host; let c : Cmd := cmd 0x0200 [0x2000, 0x9000, 48, 3]; let n := c.p 2; let ranges := (if bitAt (c.p 3) 0 then [] else [(c.p 0, n)]) ++ (if bitAt (c.p 3) 1 then [] else [(c.p 1, n)]); let t := narrowAsked s.dev c ranges; (s.dev.findCmd id = some c ∧ c.opcode = 0x0200 ∧ c.phase = .begun) ∧ 16 ≤ c.p 2 ∧ c.p 2 ≤ 2 ^ 34 ∧ c.p 2 % 16 = 0 ∧ (∀ r ∈ ranges, s.dev.present r.1 r.2 = true ∧ s.dev.held r.1 r.2 = false) ∧ t.narrowBusy (.command c.id) = false ∧ bitAt (c.p 3) 0 = true ∧ bitAt (c.p 3) 1 = true := by decide +kernel
theorem wit_copyMovesItsBytes_7 : let id : Nat := 21; let s : State := sC (cmd 0x0200 [0x2000, 0x9000, 0, 7 + 2 ^ 32]) host; let c : Cmd := cmd 0x0200 [0x2000, 0x9000, 0, 7 + 2 ^ 32]; (s.dev.findCmd id = some c ∧ c.opcode = 0x0200 ∧ c.phase = .begun) ∧ (c.p 2 < 16 ∨ 2 ^ 34 < c.p 2 ∨ c.p 2 % 16 ≠ 0) := by decide +kernel
theorem wit_copyMovesItsBytes_7_g : let id : Nat := 21; let s : State := sC (cmd 0x0200 [0x2000, 0x9000, 2 ^ 34 + 16, 0]) host; let c : Cmd := cmd 0x0200 [0x2000, 0x9000, 2 ^ 34 + 16, 0]; (s.dev.findCmd id = some c ∧ c.opcode = 0x0200 ∧ c.phase = .begun) ∧ (c.p 2 < 16 ∨ 2 ^ 34 < c.p 2 ∨ c.p 2 % 16 ≠ 0) := by decide +kernel
theorem wit_fillWritesItsPattern_0 : let id : Nat := 21; let s : State := sC (cmd 0x0201 [0x2000, 8, 5]) host; let c : Cmd := cmd 0x0201 [0x2000, 8, 5]; (s.dev.findCmd id = some c ∧ c.opcode = 0x0201 ∧ c.phase = .begun) ∧ (c.p 1 < 16 ∨ 2 ^ 38 < c.p 1 ∨ c.p 1 % 16 ≠ 0) := by decide +kernel
theorem wit_fillWritesItsPattern_1 : let id : Nat := 21; let s : State := sC (cmd 0x0201 [0x2008, 16, 5]) host; let c : Cmd := cmd 0x0201 [0x2008, 16, 5]; (s.dev.findCmd id = some c ∧ c.opcode = 0x0201 ∧ c.phase = .begun) ∧ 16 ≤ c.p 1 ∧ c.p 1 ≤ 2 ^ 38 ∧ c.p 1 % 16 = 0 ∧ (c.p 0 % 16 ≠ 0 ∨ s.dev.present (c.p 0) (c.p 1) = false) := by decide +kernel
theorem wit_fillWritesItsPattern_2 : let id : Nat := 21; let s : State := sC (cmd 0x0201 [seamBase, 16, 5]) { cold with ram := { seamInit := [0] } }; let c : Cmd := cmd 0x0201 [seamBase, 16, 5]; (s.dev.findCmd id = some c ∧ c.opcode = 0x0201 ∧ c.phase = .begun) ∧ 16 ≤ c.p 1 ∧ c.p 1 ≤ 2 ^ 38 ∧ c.p 1 % 16 = 0 ∧ c.p 0 % 16 = 0 ∧ s.dev.present (c.p 0) (c.p 1) = true ∧ s.dev.held (c.p 0) (c.p 1) = true := by decide +kernel
theorem wit_fillWritesItsPattern_3 : let id : Nat := 21; let s : State := sC (cmd 0x0201 [0x2000, 16, 5]) host; let c : Cmd := cmd 0x0201 [0x2000, 16, 5]; let t := narrowAsked s.dev c [(c.p 0, c.p 1)]; (s.dev.findCmd id = some c ∧ c.opcode = 0x0201 ∧ c.phase = .begun) ∧ 16 ≤ c.p 1 ∧ c.p 1 ≤ 2 ^ 38 ∧ c.p 1 % 16 = 0 ∧ c.p 0 % 16 = 0 ∧ s.dev.present (c.p 0) (c.p 1) = true ∧ s.dev.held (c.p 0) (c.p 1) = false ∧ t.narrowBusy (.command c.id) = true := by decide +kernel
theorem wit_fillWritesItsPattern_4 : let id : Nat := 21; let s : State := sC { cmd 0x0201 [0x2000, 32, 0x1122334455667788] with asked := true } host; let c : Cmd := { cmd 0x0201 [0x2000, 32, 0x1122334455667788] with asked := true }; let t := narrowAsked s.dev c [(c.p 0, c.p 1)]; (s.dev.findCmd id = some c ∧ c.opcode = 0x0201 ∧ c.phase = .begun) ∧ 16 ≤ c.p 1 ∧ c.p 1 ≤ 2 ^ 38 ∧ c.p 1 % 16 = 0 ∧ c.p 0 % 16 = 0 ∧ s.dev.present (c.p 0) (c.p 1) = true ∧ s.dev.held (c.p 0) (c.p 1) = false ∧ t.narrowBusy (.command c.id) = false := by decide +kernel
theorem wit_assays_1 : let id : Nat := 21; let s : State := sC (cmd 0x0202 [0x1001, 0x1000, 16, 0x2000]) host; let c : Cmd := cmd 0x0202 [0x1001, 0x1000, 16, 0x2000]; (s.dev.findCmd id = some c ∧ c.opcode = 0x0202 ∧ c.phase = .begun) ∧ c.id = id ∧ s.dev.assayCheck c ≠ 0 := by decide +kernel
theorem wit_assays_2 : let id : Nat := 22; let s : State := sAs (cmd 0x0100 []) [assayL]; let c : Cmd := assayL; let t := narrowAsked s.dev c (if bitAt (c.p 2) 8 then [] else [(c.p 3, 64)]); s.dev.assays.find? (fun y => y.id == id) = some c ∧ s.dev.assayHeld c = false ∧ t.narrowBusy (.command c.id) = true := by decide +kernel
theorem wit_assays_5 : let id : Nat := 21; let s : State := sAs (cmd 0x0203 [0x77]) [assayL]; let c : Cmd := cmd 0x0203 [0x77]; let x : Cmd := assayL; let t := narrowAsked s.dev x (if bitAt (x.p 2) 8 then [] else [(x.p 3, 64)]); (s.dev.findCmd id = some c ∧ c.opcode = 0x0203 ∧ c.phase = .begun) ∧ s.dev.assays.find? (fun y => y.tag == c.p 0) = some x ∧ s.dev.assayHeld x = false ∧ t.narrowBusy (.command x.id) = true := by decide +kernel
theorem wit_initialisationsEnd_0 : let d : Dev := host; d.coll.submits = [] := by decide +kernel
theorem wit_resets_0 : let id : Nat := 21; let s : State := sC (cmd 0x0104 [3 + 80 * 2 ^ 16]); let c : Cmd := cmd 0x0104 [3 + 80 * 2 ^ 16]; (s.dev.findCmd id = some c ∧ c.opcode = 0x0104 ∧ c.phase = .begun) ∧ c.p 0 % 8 = 3 ∧ 80 ≤ c.p 0 / 2 ^ 16 % 256 := by decide +kernel
theorem wit_resets_2 : let id : Nat := 21; let s : State := sC (cmd 0x0104 [3 + 79 * 2 ^ 16]) (coreSt 79 5); let c : Cmd := cmd 0x0104 [3 + 79 * 2 ^ 16]; let k := c.p 0 / 2 ^ 8 % 16 * 80 + c.p 0 / 2 ^ 16 % 256; (s.dev.findCmd id = some c ∧ c.opcode = 0x0104 ∧ c.phase = .begun) ∧ c.p 0 % 8 = 3 ∧ c.p 0 / 2 ^ 16 % 256 < 80 ∧ s.dev.coreState k = 5 := by decide +kernel
theorem wit_resets_3 : let id : Nat := 21; let s : State := sC (cmd 0x0104 [3 + 79 * 2 ^ 16]) (coreSt 79 2 (run 79 0 0 cold)); let c : Cmd := cmd 0x0104 [3 + 79 * 2 ^ 16]; let k := c.p 0 / 2 ^ 8 % 16 * 80 + c.p 0 / 2 ^ 16 % 256; (s.dev.findCmd id = some c ∧ c.opcode = 0x0104 ∧ c.phase = .begun) ∧ c.p 0 % 8 = 3 ∧ c.p 0 / 2 ^ 16 % 256 < 80 ∧ s.dev.coreState k ≠ 1 ∧ s.dev.coreState k ≠ 5 ∧ k < 960 := by decide +kernel
theorem wit_resets_4 : let id : Nat := 21; let s : State := sC (cmd 0x0104 [2 + 7 * 2 ^ 12]) (coreSt 79 1); let c : Cmd := cmd 0x0104 [2 + 7 * 2 ^ 12]; let die := c.p 0 / 2 ^ 8 % 16; let cl := c.p 0 / 2 ^ 12 % 8; (s.dev.findCmd id = some c ∧ c.opcode = 0x0104 ∧ c.phase = .begun) ∧ c.p 0 % 8 = 2 ∧ (∃ k ∈ coresOfCluster die cl, s.dev.coreState k = 1) := by decide +kernel
theorem wit_resets_5 : let id : Nat := 21; let s : State := sC (cmd 0x0104 [2 + 7 * 2 ^ 12]) (coreSt 79 2 (run 79 0 0 cold)); let c : Cmd := cmd 0x0104 [2 + 7 * 2 ^ 12]; let die := c.p 0 / 2 ^ 8 % 16; let cl := c.p 0 / 2 ^ 12 % 8; (s.dev.findCmd id = some c ∧ c.opcode = 0x0104 ∧ c.phase = .begun) ∧ c.p 0 % 8 = 2 ∧ (∀ k ∈ coresOfCluster die cl, s.dev.coreState k ≠ 1) ∧ die < 12 := by decide +kernel
theorem wit_resets_6 : let id : Nat := 21; let s : State := sC (cmd 0x0104 [1]) (coreSt 79 1); let c : Cmd := cmd 0x0104 [1]; let die := c.p 0 / 2 ^ 8 % 16; (s.dev.findCmd id = some c ∧ c.opcode = 0x0104 ∧ c.phase = .begun) ∧ c.p 0 % 8 = 1 ∧ (∃ k ∈ coresOfDie die, s.dev.coreState k = 1) := by decide +kernel
theorem wit_resets_7 : let id : Nat := 21; let s : State := sC (cmd 0x0104 [1]) (coreSt 79 2 (run 79 0 0 cold)); let c : Cmd := cmd 0x0104 [1]; let die := c.p 0 / 2 ^ 8 % 16; (s.dev.findCmd id = some c ∧ c.opcode = 0x0104 ∧ c.phase = .begun) ∧ c.p 0 % 8 = 1 ∧ (∀ k ∈ coresOfDie die, s.dev.coreState k ≠ 1) ∧ die < 12 := by decide +kernel
theorem wit_resets_8 : let id : Nat := 21; let s : State := sC (cmd 0x0104 [4 + 5 * 2 ^ 12]); let c : Cmd := cmd 0x0104 [4 + 5 * 2 ^ 12]; (s.dev.findCmd id = some c ∧ c.opcode = 0x0104 ∧ c.phase = .begun) ∧ c.p 0 % 8 = 4 := by decide +kernel
theorem wit_resets_9 : let id : Nat := 21; let s : State := sC (cmd 0x0104 [5]); let c : Cmd := cmd 0x0104 [5]; (s.dev.findCmd id = some c ∧ c.opcode = 0x0104 ∧ c.phase = .begun) ∧ 4 < c.p 0 % 8 := by decide +kernel
theorem wit_unitCommands_3 : let id : Nat := 21; let s : State := sC (cmd 0x0304 [1]) (coreSt 79 1); let c : Cmd := cmd 0x0304 [1]; let die := c.p 0 / 2 ^ 8 % 16; (s.dev.findCmd id = some c ∧ c.opcode = 0x0304 ∧ c.phase = .begun) ∧ bitAt (c.p 0) 0 = true ∧ (∃ k ∈ coresOfDie die, s.dev.coreState k = 1) := by decide +kernel
theorem wit_unitCommands_4 : let id : Nat := 21; let s : State := sC (cmd 0x0304 [1]); let c : Cmd := cmd 0x0304 [1]; let die := c.p 0 / 2 ^ 8 % 16; (s.dev.findCmd id = some c ∧ c.opcode = 0x0304 ∧ c.phase = .begun) ∧ bitAt (c.p 0) 0 = true ∧ (∀ k ∈ coresOfDie die, s.dev.coreState k ≠ 1) ∧ die < 12 := by decide +kernel
theorem wit_unitCommands_5 : let id : Nat := 21; let s : State := sC (cmd 0x0305 [1]); let c : Cmd := cmd 0x0305 [1]; let die := c.p 0 / 2 ^ 8 % 16; (s.dev.findCmd id = some c ∧ c.opcode = 0x0305 ∧ c.phase = .begun) ∧ bitAt (c.p 0) 0 = true ∧ s.dev.dieUp die = true := by decide +kernel
theorem wit_unitCommands_6 : let id : Nat := 21; let s : State := sC (cmd 0x0305 [1 + 2 ^ 8]); let c : Cmd := cmd 0x0305 [1 + 2 ^ 8]; let die := c.p 0 / 2 ^ 8 % 16; (s.dev.findCmd id = some c ∧ c.opcode = 0x0305 ∧ c.phase = .begun) ∧ bitAt (c.p 0) 0 = true ∧ s.dev.dieUp die = false := by decide +kernel
theorem wit_unitCommands_7 : let id : Nat := 21; let s : State := sC (cmd 0x0305 [1 + 2 ^ 8]); let c : Cmd := cmd 0x0305 [1 + 2 ^ 8]; let die := c.p 0 / 2 ^ 8 % 16; (s.dev.findCmd id = some c ∧ c.opcode = 0x0305 ∧ c.phase = .begun) ∧ bitAt (c.p 0) 0 = true ∧ s.dev.dieUp die = false ∧ die < 12 := by decide +kernel
theorem wit_unitCommands_13 : let id : Nat := 21; let s : State := sC (cmd 0x0702 [5]) dark5; let c : Cmd := cmd 0x0702 [5]; let n := c.p 0 % 8; let t := if s.dev.flag (DR_CTRL_enable n) then s.dev.driftOff n else s.dev; (s.dev.findCmd id = some c ∧ c.opcode = 0x0702 ∧ c.phase = .begun) ∧ (t.drift n).loaded = true ∧ t.keepsDark n = true := by decide +kernel
theorem wit_sqRegisterRows_2 : let k : Nat := 79; let v : Word64 := 2; let s : State := st (mk [(SQ_TRAP_pc 79, 8191)] ((coreSt 79 2 host).modCore 79 fun c => { c with swTrap := true })); k < 960 ∧ s.dev.ready = true ∧ s.dev.cp.d3hot = false ∧ s.dev.regAbsent (SQ_CTRL k) = false ∧ s.dev.inBatch (SQ_CTRL k) = false ∧ s.dev.flag (SQ_CTRL_run k) = false ∧ wget v 2 0 = 2 ∧ s.dev.coreState k = 2 ∧ (s.dev.core k).swTrap = true ∧ s.dev.fld (SQ_TRAP_pc k) = 8191 := by decide +kernel
theorem wit_launches_0 : let id : Nat := 21; let s : State := sC (cmd 0x0300 [1 + 78 * 2 ^ 16 + 1 * 2 ^ 24, 8192, 0x1001, 0, 0]); let c : Cmd := cmd 0x0300 [1 + 78 * 2 ^ 16 + 1 * 2 ^ 24, 8192, 0x1001, 0, 0]; s.dev.findCmd id = some c ∧ c.opcode = 0x0300 ∧ c.phase = .begun ∧ c.aux = [] ∧ s.dev.launchCheck c ≠ 0 := by decide +kernel
theorem wit_launches_1 : let id : Nat := 21; let s : State := sC (cmd 0x0300 [1 + 78 * 2 ^ 16 + 1 * 2 ^ 24, 8191, 0x1000, 0, 0]); let c : Cmd := cmd 0x0300 [1 + 78 * 2 ^ 16 + 1 * 2 ^ 24, 8191, 0x1000, 0, 0]; let ranges := (c.p 2, 64) :: (if c.p 3 = 0 then [] else [(c.p 3, 8 * (c.p 4 % 2 ^ 14))]); let t := if c.aux = [] then s.dev.modCmd c.id fun y => { y with aux := [0] } else s.dev; let u := narrowAsked t c ranges; s.dev.findCmd id = some c ∧ c.opcode = 0x0300 ∧ c.phase = .begun ∧ (c.aux = [0] ∨ c.aux = [] ∧ s.dev.launchCheck c = 0) ∧ (∀ r ∈ ranges, t.present r.1 r.2 = true ∧ t.held r.1 r.2 = false) ∧ u.narrowBusy (.command c.id) = true := by decide +kernel
theorem wit_launches_2 : let id : Nat := 21; let s : State := sC { cmd 0x0300 [1 + 78 * 2 ^ 16 + 1 * 2 ^ 24, 8191, 0x1000, 0, 0] with asked := true }; let c : Cmd := { cmd 0x0300 [1 + 78 * 2 ^ 16 + 1 * 2 ^ 24, 8191, 0x1000, 0, 0] with asked := true }; let ranges := (c.p 2, 64) :: (if c.p 3 = 0 then [] else [(c.p 3, 8 * (c.p 4 % 2 ^ 14))]); let t := if c.aux = [] then s.dev.modCmd c.id fun y => { y with aux := [0] } else s.dev; let u := narrowAsked t c ranges; let v := u.scrub (c.p 2) 64; let w := ((if c.p 3 = 0 then v else v.loadImage c.cores (c.p 3) (c.p 4 % 2 ^ 14)).loadArgs c.cores (c.p 1) ((List.range 8).map fun i => BitVec.ofNat 64 (ofLe (v.bytesAt (c.p 2 + 8 * i) 8)))).modCmd c.id fun y => { y with aux := [1] }; let c' := { cmd 0x0300 [1 + 78 * 2 ^ 16 + 1 * 2 ^ 24, 8191, 0x1000, 0, 0] .begun [1] with asked := true }; s.dev.findCmd id = some c ∧ c.opcode = 0x0300 ∧ c.phase = .begun ∧ (c.aux = [0] ∨ c.aux = [] ∧ s.dev.launchCheck c = 0) ∧ (∀ r ∈ ranges, t.present r.1 r.2 = true ∧ t.held r.1 r.2 = false) ∧ u.narrowBusy (.command c.id) = false ∧ ((v.poisonsAt (c.p 2) 64).any fun b => b) = false ∧ w.findCmd id = some c' ∧ c'.phase = .begun ∧ c'.aux = [1] := by decide +kernel
theorem wit_launchImagesReachTheStores_0 : let cores : List Nat := [3, 4]; let len : Nat := 2; let k : Nat := 4; let i : Nat := 1; (∀ j ∈ cores, j < 960) ∧ k ∈ cores ∧ len ≤ 8192 ∧ i < len := by decide +kernel


/-- The readings of a sound package with every die. -/
def rep : StageReport :=
  { flashHeaderOk := true, variant := 3, substrateId := 9, variantValid := true,
    straps := (List.range 17).map fun k => if k < 12 then ⟨true, true, 0, k / 3, k % 3⟩ else if k < 16 then ⟨true, true, 1, k - 12, 3⟩ else ⟨true, true, 2, 3, 3⟩,
    veinFaults := [⟨16, 3, symbolDiff 31 1, .clean⟩], linkPass := 15, bondPass := 0xFFE, hbmPass := 0x7FFF, failedCores := [1055], readyMs := 1200 }
/-- A device whose boot is at a stage. -/
def stg (n : Nat) (d : Dev := {}) : Dev := mk [(CP_STATUS_boot_stage, n)] d
def ho (k : Nat) (sw : Bool) : Handover := ⟨k, 21, 128, sw, 1, 0, [], 0⟩
def hoDev (k frame : Nat) (sw : Bool) (d : Dev := cold) : Dev :=
  mk [(⟨GD_FRAME, 63, 0⟩, frame)] { d with fw := { d.fw with handovers := [ho k sw] }, flash := { d.flash with fw := [(2 * k, ⟨1, 4096, none, 1, true⟩), (2 * k + 1, ⟨2, 4096, none, 2, true⟩)] } }
def pw (p : PowerSt) (d : Dev := {}) : State := st { d with pw := p }
def twoSlots (k : Nat) (d : Dev := cold) : Dev := { d with flash := { d.flash with fw := [(2 * k, ⟨1, 4096, none, 1, true⟩), (2 * k + 1, ⟨2, 4096, none, 2, true⟩)] } }
def authAt (l : List (Nat × List Byte)) (c : Cmd) : State :=
  sC c (l.foldl (fun d x => d.hostWrite (0x4000 + x.1) x.2) cold)
/-- Temperatures at which gated writes may begin. -/
def warm (d : Dev := cold) : Dev := mk ((List.range 40).map fun z => (TM_ZONE_temp z, 16 * 70)) d

theorem wit_bootStagesPass_0 : let s : State := st {}; s.dev.pw.phase = .on ∧ s.dev.fld CP_STATUS_boot_stage = 0 ∧ s.dev.flag CP_STATUS_boot_failed = false := by decide +kernel
theorem wit_bootStagesPass_1 : let r : StageReport := rep; let s : State := st (stg 1); let stage := s.dev.fld CP_STATUS_boot_stage; s.dev.pw.phase = .on ∧ s.dev.flag CP_STATUS_boot_failed = false ∧ stage = 1 ∧ r.flashHeaderOk = true := by decide +kernel
theorem wit_bootStagesPass_2 : let s : State := st (stg 2); let stage := s.dev.fld CP_STATUS_boot_stage; let i := 0; let l := [0]; s.dev.pw.phase = .on ∧ s.dev.flag CP_STATUS_boot_failed = false ∧ stage = 2 ∧ s.dev.sorarnPick = (some i, l) ∧ (∀ k < 5, 1 ≤ k → k ≤ 4 → s.dev.slotUsable k 0 = true) := by decide +kernel
theorem wit_bootStagesPass_3 : let r : StageReport := rep; let s : State := st (stg 3); let stage := s.dev.fld CP_STATUS_boot_stage; s.dev.pw.phase = .on ∧ s.dev.flag CP_STATUS_boot_failed = false ∧ stage = 3 ∧ r.variantValid = true ∧ 1 ≤ r.variant ∧ r.variant ≤ 3 ∧ (∀ k < 17, 12 ≤ k → k ≤ 16 → (r.straps[k]?).map (strapOk k) = some true) := by decide +kernel
theorem wit_bootStagesPass_4 : let r : StageReport := rep; let s : State := st (stg 4 host); let stage := s.dev.fld CP_STATUS_boot_stage; s.dev.pw.phase = .on ∧ s.dev.flag CP_STATUS_boot_failed = false ∧ stage = 4 ∧ bitsOf (veinPass r).toNat 31 28 = 15 ∧ bitAt (veinPass r).toNat 32 = true := by decide +kernel
theorem wit_bootStagesPass_5 : let r : StageReport := rep; let s : State := st (stg 5 host); let stage := s.dev.fld CP_STATUS_boot_stage; s.dev.pw.phase = .on ∧ s.dev.flag CP_STATUS_boot_failed = false ∧ stage = 5 ∧ r.linkPass = 15 := by decide +kernel
theorem wit_bootStagesPass_6 : let s : State := st (stg 6 (mk [(HF_VEIN_BIST_mc, 0xFFFE)] host)); let stage := s.dev.fld CP_STATUS_boot_stage; s.dev.pw.phase = .on ∧ s.dev.flag CP_STATUS_boot_failed = false ∧ stage = 6 := by decide +kernel
theorem wit_bootStagesPass_7 : let s : State := st (stg 7 cold); let stage := s.dev.fld CP_STATUS_boot_stage; s.dev.pw.phase = .on ∧ s.dev.flag CP_STATUS_boot_failed = false ∧ stage = 7 := by decide +kernel
theorem wit_bootStops_0_a : let r : StageReport := { rep with flashHeaderOk := false }; let s : State := st (stg 1); let stage := s.dev.fld CP_STATUS_boot_stage; let reason := 0x0103; s.dev.pw.phase = .on ∧ s.dev.flag CP_STATUS_boot_failed = false ∧ ((stage = 1 ∧ r.flashHeaderOk = false ∧ reason = 0x0103) ∨ (stage = 2 ∧ s.dev.sorarnPick.1 = none ∧ reason = 0x0A01) ∨ (stage = 4 ∧ bitsOf (veinPass r).toNat 31 28 ≠ 15 ∧ reason = 0x0B01) ∨ (stage = 5 ∧ r.linkPass ≠ 15 ∧ reason = 0x0B01)) := by decide +kernel
theorem wit_bootStops_0_b : let r : StageReport := rep; let s : State := st (stg 2 { flash := { fw := [] } }); let stage := s.dev.fld CP_STATUS_boot_stage; let reason := 0x0A01; s.dev.pw.phase = .on ∧ s.dev.flag CP_STATUS_boot_failed = false ∧ ((stage = 1 ∧ r.flashHeaderOk = false ∧ reason = 0x0103) ∨ (stage = 2 ∧ s.dev.sorarnPick.1 = none ∧ reason = 0x0A01) ∨ (stage = 4 ∧ bitsOf (veinPass r).toNat 31 28 ≠ 15 ∧ reason = 0x0B01) ∨ (stage = 5 ∧ r.linkPass ≠ 15 ∧ reason = 0x0B01)) := by decide +kernel
theorem wit_bootStops_0_c : let r : StageReport := { rep with veinFaults := [⟨28, 0, 0, .bad⟩] }; let s : State := st (stg 4); let stage := s.dev.fld CP_STATUS_boot_stage; let reason := 0x0B01; s.dev.pw.phase = .on ∧ s.dev.flag CP_STATUS_boot_failed = false ∧ ((stage = 1 ∧ r.flashHeaderOk = false ∧ reason = 0x0103) ∨ (stage = 2 ∧ s.dev.sorarnPick.1 = none ∧ reason = 0x0A01) ∨ (stage = 4 ∧ bitsOf (veinPass r).toNat 31 28 ≠ 15 ∧ reason = 0x0B01) ∨ (stage = 5 ∧ r.linkPass ≠ 15 ∧ reason = 0x0B01)) := by decide +kernel
theorem wit_bootStops_0_d : let r : StageReport := { rep with linkPass := 14 }; let s : State := st (stg 5); let stage := s.dev.fld CP_STATUS_boot_stage; let reason := 0x0B01; s.dev.pw.phase = .on ∧ s.dev.flag CP_STATUS_boot_failed = false ∧ ((stage = 1 ∧ r.flashHeaderOk = false ∧ reason = 0x0103) ∨ (stage = 2 ∧ s.dev.sorarnPick.1 = none ∧ reason = 0x0A01) ∨ (stage = 4 ∧ bitsOf (veinPass r).toNat 31 28 ≠ 15 ∧ reason = 0x0B01) ∨ (stage = 5 ∧ r.linkPass ≠ 15 ∧ reason = 0x0B01)) := by decide +kernel
theorem wit_bootStops_1 : let r : StageReport := { rep with variantValid := false }; let s : State := st (stg 3); let stage := s.dev.fld CP_STATUS_boot_stage; s.dev.pw.phase = .on ∧ s.dev.flag CP_STATUS_boot_failed = false ∧ stage = 3 ∧ r.variantValid = false := by decide +kernel
theorem wit_bootStops_2 : let s : State := st (stg 7); let t := if s.dev.fld CP_STATUS_boot_stage = 2 then s.dev.sorarnPick.2 else s.dev.fw.tried ++ [s.dev.fld (HF_FW_RUN_slot 0)]; s.dev.pw.phase = .on ∧ s.dev.flag CP_STATUS_boot_failed = false ∧ 2 ≤ s.dev.fld CP_STATUS_boot_stage ∧ s.dev.fld CP_STATUS_boot_stage < 8 ∧ t.length < 2 := by decide +kernel
theorem wit_bootStops_2_b : let s : State := st (stg 2); let t := if s.dev.fld CP_STATUS_boot_stage = 2 then s.dev.sorarnPick.2 else s.dev.fw.tried ++ [s.dev.fld (HF_FW_RUN_slot 0)]; s.dev.pw.phase = .on ∧ s.dev.flag CP_STATUS_boot_failed = false ∧ 2 ≤ s.dev.fld CP_STATUS_boot_stage ∧ s.dev.fld CP_STATUS_boot_stage < 8 ∧ t.length < 2 := by decide +kernel
theorem wit_bootStops_3 : let s : State := st (stg 3 { fw := { tried := [0, 1] } }); let t := if s.dev.fld CP_STATUS_boot_stage = 2 then s.dev.sorarnPick.2 else s.dev.fw.tried ++ [s.dev.fld (HF_FW_RUN_slot 0)]; s.dev.pw.phase = .on ∧ s.dev.flag CP_STATUS_boot_failed = false ∧ 2 ≤ s.dev.fld CP_STATUS_boot_stage ∧ s.dev.fld CP_STATUS_boot_stage < 8 ∧ 2 ≤ t.length := by decide +kernel
theorem wit_bootStops_4 : let s : State := st (stg 8 (hoDev 0 4223 true)); let h : Handover := ho 0 true; s.dev.pw.phase = .on ∧ s.dev.flag CP_STATUS_boot_failed = false ∧ s.dev.fld CP_STATUS_boot_stage = 8 ∧ s.dev.handoverOf 0 = some h ∧ h.switched = true ∧ s.dev.frame < h.frame + 4096 := by decide +kernel
theorem wit_moduleResets_0 : let s : State := st (mk [(TM_SHUTDOWN_valid, 1)] net); s.dev.pw.phase = .on := by decide +kernel
theorem wit_railsComeUp_0 : let m : Nat := 40000; let a : Nat := 12600; let b : Nat := 3135; let s : State := pw { phase := .off, pwrEn := false }; s.dev.pw.phase = .off ∧ s.dev.pw.pwrEn = false ∧ 40000 ≤ m ∧ m ≤ 60000 ∧ 11400 ≤ a ∧ a ≤ 12600 ∧ 3135 ≤ b ∧ b ≤ 3465 := by decide +kernel
theorem wit_railsComeUp_1 : let m : Nat := 60001; let a : Nat := 12600; let b : Nat := 3135; let s : State := pw { phase := .off, pwrEn := false }; s.dev.pw.phase = .off ∧ s.dev.pw.pwrEn = false ∧ (m < 40000 ∨ 60000 < m ∨ a < 11400 ∨ 12600 < a ∨ b < 3135 ∨ 3465 < b) := by decide +kernel
theorem wit_railsComeUp_1_b : let m : Nat := 60000; let a : Nat := 11399; let b : Nat := 3465; let s : State := pw { phase := .off, pwrEn := false }; s.dev.pw.phase = .off ∧ s.dev.pw.pwrEn = false ∧ (m < 40000 ∨ 60000 < m ∨ a < 11400 ∨ 12600 < a ∨ b < 3135 ∨ 3465 < b) := by decide +kernel
theorem wit_railsComeUp_2 : let m : Nat := 60000; let s : State := pw { phase := .off, hold := .shutdown }; s.dev.pw.phase = .off ∧ 40000 ≤ m ∧ m ≤ 60000 ∧ s.dev.pw.pwrEn = true ∧ s.dev.pw.hold ≠ .railFault ∧ 11400 ≤ s.dev.pw.auxMv ∧ s.dev.pw.auxMv ≤ 12600 ∧ 3135 ≤ s.dev.pw.standbyMv ∧ s.dev.pw.standbyMv ≤ 3465 := by decide +kernel
theorem wit_railsComeUp_3 : let m : Nat := 60000; let s : State := pw { phase := .off, hold := .railFault }; s.dev.pw.phase = .off ∧ 40000 ≤ m ∧ m ≤ 60000 ∧ s.dev.pw.hold = .railFault := by decide +kernel
theorem wit_railsComeUp_4 : let n : Nat := 5; let s : State := pw { phase := .up 5 }; s.dev.pw.phase = .up n ∧ n < 6 := by decide +kernel
theorem wit_railsComeUp_5 : let n : Nat := 6; let s : State := pw { phase := .up 6 }; s.dev.pw.phase = .up n ∧ n = 6 := by decide +kernel
theorem wit_railsMissTheirTime_0 : let rail : Nat := 23; let n : Nat := 6; let s : State := pw { phase := .up 6 }; s.dev.pw.phase = .up n ∧ railStep rail = n ∧ rail < 54 ∧ rail < 24 := by decide +kernel
theorem wit_railsMissTheirTime_1 : let rail : Nat := 52; let n : Nat := railStep 52; let s : State := pw { phase := .up (railStep 52) }; s.dev.pw.phase = .up n ∧ railStep rail = n ∧ rail < 54 ∧ 41 ≤ rail ∧ rail < 53 := by decide +kernel
theorem wit_railsMissTheirTime_2 : let rail : Nat := 40; let n : Nat := railStep 40; let s : State := pw { phase := .up (railStep 40) }; s.dev.pw.phase = .up n ∧ railStep rail = n ∧ rail < 54 ∧ 24 ≤ rail ∧ (rail < 41 ∨ rail = 53) := by decide +kernel
theorem wit_railsMissTheirTime_2_b : let rail : Nat := 53; let n : Nat := railStep 53; let s : State := pw { phase := .up (railStep 53) }; s.dev.pw.phase = .up n ∧ railStep rail = n ∧ rail < 54 ∧ 24 ≤ rail ∧ (rail < 41 ∨ rail = 53) := by decide +kernel
theorem wit_railsGoDown_0 : let s : State := st host; s.dev.pw.phase = .on := by decide +kernel
theorem wit_railsGoDown_1 : let n : Nat := 6; let s : State := pw { phase := .up 6 }; s.dev.pw.phase = .up n := by decide +kernel
theorem wit_railsGoDown_2 : let n : Nat := 6; let s : State := pw { phase := .down 6 } host; s.dev.pw.phase = .down n ∧ 1 < n := by decide +kernel
theorem wit_railsGoDown_2_b : let n : Nat := 2; let s : State := pw { phase := .down 2 } host; s.dev.pw.phase = .down n ∧ 1 < n := by decide +kernel
theorem wit_railsGoDown_2_c : let n : Nat := 4; let s : State := pw { phase := .down 4 } host; s.dev.pw.phase = .down n ∧ 1 < n := by decide +kernel
theorem wit_railsGoDown_3 : let s : State := pw { phase := .down 1, pwrEn := false }; s.dev.pw.phase = .down 1 ∧ s.dev.pw.pwrEn = false := by decide +kernel
theorem wit_railsGoDown_4 : let s : State := pw { phase := .down 1, pwrEn := true }; s.dev.pw.phase = .down 1 ∧ s.dev.pw.pwrEn = true ∧ s.dev.pw.hold = .none ∧ s.dev.pw.inputsOk = true := by decide +kernel
theorem wit_sidebandTestAndReferencePortsAnswer_0 : True := by decide +kernel
theorem wit_sidebandTestAndReferencePortsAnswer_2 : let b : BitVec 8 := 255; b ≠ 1 := by decide +kernel
theorem wit_sidebandTestAndReferencePortsAnswer_6 : let s : State := pw { pwrEn := false }; s.dev.pw.pwrEn = false := by decide +kernel
theorem wit_sidebandTestAndReferencePortsAnswer_7 : let s : State := pw { pwrEn := true }; s.dev.pw.pwrEn = true := by decide +kernel
theorem wit_imagesAreStaged_0 : let id : Nat := 21; let s : State := sC (cmd 0x0800 [5, 0x4000, 4097]); let c : Cmd := cmd 0x0800 [5, 0x4000, 4097]; let k := c.p 0 % 16; (s.dev.findCmd id = some c ∧ c.opcode = 0x0800 ∧ c.phase = .begun) ∧ 5 ≤ k := by decide +kernel
theorem wit_imagesAreStaged_1 : let id : Nat := 21; let s : State := sC (cmd 0x0800 [4, 0x4000, 1044481]); let c : Cmd := cmd 0x0800 [4, 0x4000, 1044481]; let k := c.p 0 % 16; let len := c.p 2; (s.dev.findCmd id = some c ∧ c.opcode = 0x0800 ∧ c.phase = .begun) ∧ k < 5 ∧ (len < 4097 ∨ 4096 + maxPayload k < len) := by decide +kernel
theorem wit_imagesAreStaged_1_b : let id : Nat := 21; let s : State := sC (cmd 0x0800 [4, 0x4000, 4096]); let c : Cmd := cmd 0x0800 [4, 0x4000, 4096]; let k := c.p 0 % 16; let len := c.p 2; (s.dev.findCmd id = some c ∧ c.opcode = 0x0800 ∧ c.phase = .begun) ∧ k < 5 ∧ (len < 4097 ∨ 4096 + maxPayload k < len) := by decide +kernel
theorem wit_imagesAreStaged_2 : let id : Nat := 21; let s : State := sC (cmd 0x0800 [4, 0x4000, 4097]); let c : Cmd := cmd 0x0800 [4, 0x4000, 4097]; let k := c.p 0 % 16; let len := c.p 2; let l := s.dev.hostRead (c.p 1) len; (s.dev.findCmd id = some c ∧ c.opcode = 0x0800 ∧ c.phase = .begun) ∧ k < 5 ∧ 4097 ≤ len ∧ len ≤ 4096 + maxPayload k ∧ imageGood k l = false := by decide +kernel
theorem wit_handoversRun_0 : let id : Nat := 21; let s : State := sC (cmd 0x0801 [5, 128]); let c : Cmd := cmd 0x0801 [5, 128]; let k := c.p 0 % 16; (s.dev.findCmd id = some c ∧ c.opcode = 0x0801 ∧ c.phase = .begun) ∧ c.id = id ∧ 5 ≤ k := by decide +kernel
theorem wit_handoversRun_1 : let id : Nat := 21; let s : State := sC (cmd 0x0801 [4, 128]) (hoDev 4 0 false); let c : Cmd := cmd 0x0801 [4, 128]; let k := c.p 0 % 16; (s.dev.findCmd id = some c ∧ c.opcode = 0x0801 ∧ c.phase = .begun) ∧ c.id = id ∧ k < 5 ∧ s.dev.handoverOf k ≠ none := by decide +kernel
theorem wit_handoversRun_2 : let id : Nat := 21; let s : State := sC (cmd 0x0801 [4, 127]); let c : Cmd := cmd 0x0801 [4, 127]; let k := c.p 0 % 16; let f := c.p 1; (s.dev.findCmd id = some c ∧ c.opcode = 0x0801 ∧ c.phase = .begun) ∧ c.id = id ∧ k < 5 ∧ s.dev.handoverOf k = none ∧ (f < s.dev.frame + 128 ∨ s.dev.frame + 2 ^ 28 < f) := by decide +kernel
theorem wit_handoversRun_2_b : let id : Nat := 21; let s : State := sC (cmd 0x0801 [4, 2 ^ 28 + 1]); let c : Cmd := cmd 0x0801 [4, 2 ^ 28 + 1]; let k := c.p 0 % 16; let f := c.p 1; (s.dev.findCmd id = some c ∧ c.opcode = 0x0801 ∧ c.phase = .begun) ∧ c.id = id ∧ k < 5 ∧ s.dev.handoverOf k = none ∧ (f < s.dev.frame + 128 ∨ s.dev.frame + 2 ^ 28 < f) := by decide +kernel
theorem wit_handoversRun_3 : let id : Nat := 21; let s : State := sC (cmd 0x0801 [0, 128]) (twoSlots 0); let c : Cmd := cmd 0x0801 [0, 128]; let k := c.p 0 % 16; let f := c.p 1; let i := 1 - s.dev.fld (HF_FW_RUN_slot k); (s.dev.findCmd id = some c ∧ c.opcode = 0x0801 ∧ c.phase = .begun) ∧ c.id = id ∧ k < 5 ∧ s.dev.handoverOf k = none ∧ s.dev.frame + 128 ≤ f ∧ f ≤ s.dev.frame + 2 ^ 28 ∧ s.dev.slotSound k i = true ∧ s.dev.leastVersion k ≤ s.dev.slotVersion k i ∧ s.dev.slotVersion k i ≠ s.dev.fld (HF_FW_RUN_version k) ∧ (k ≠ 0 ∨ s.dev.heldInWindow f = false) := by decide +kernel
theorem wit_handoversRun_3_b : let id : Nat := 21; let s : State := sC (cmd 0x0801 [4, 2 ^ 28]) (twoSlots 4); let c : Cmd := cmd 0x0801 [4, 2 ^ 28]; let k := c.p 0 % 16; let f := c.p 1; let i := 1 - s.dev.fld (HF_FW_RUN_slot k); (s.dev.findCmd id = some c ∧ c.opcode = 0x0801 ∧ c.phase = .begun) ∧ c.id = id ∧ k < 5 ∧ s.dev.handoverOf k = none ∧ s.dev.frame + 128 ≤ f ∧ f ≤ s.dev.frame + 2 ^ 28 ∧ s.dev.slotSound k i = true ∧ s.dev.leastVersion k ≤ s.dev.slotVersion k i ∧ s.dev.slotVersion k i ≠ s.dev.fld (HF_FW_RUN_version k) ∧ (k ≠ 0 ∨ s.dev.heldInWindow f = false) := by decide +kernel
theorem wit_handoversRun_4 : let k : Nat := 4; let s : State := st (hoDev 4 128 false); let h : Handover := ho 4 false; k < 5 ∧ s.dev.handoverOf k = some h ∧ h.switched = false ∧ h.frame ≤ s.dev.frame := by decide +kernel
theorem wit_handoversRun_4_b : let k : Nat := 0; let s : State := st (hoDev 0 128 false); let h : Handover := ho 0 false; k < 5 ∧ s.dev.handoverOf k = some h ∧ h.switched = false ∧ h.frame ≤ s.dev.frame := by decide +kernel
theorem wit_handoversRun_4_c : let k : Nat := 2; let s : State := st (hoDev 2 128 false); let h : Handover := ho 2 false; k < 5 ∧ s.dev.handoverOf k = some h ∧ h.switched = false ∧ h.frame ≤ s.dev.frame := by decide +kernel
theorem wit_handoversRun_5 : let k : Nat := 4; let s : State := st (hoDev 4 128 false); let h : Handover := ho 4 false; k < 5 ∧ s.dev.handoverOf k = some h ∧ h.switched = false ∧ h.frame ≤ s.dev.frame ∧ s.dev.findCmd h.cmd = none := by decide +kernel
theorem wit_handoversRun_6 : let k : Nat := 0; let s : State := sC (cmd 0x0801 [0, 128]) (hoDev 0 4224 true); let h : Handover := ho 0 true; let c : Cmd := cmd 0x0801 [0, 128]; let q : Nat := 3; k < 5 ∧ s.dev.handoverOf k = some h ∧ h.switched = true ∧ s.dev.oldCodeFree h = true ∧ s.dev.findCmd h.cmd = some c ∧ c.origin = .queue q := by decide +kernel
theorem wit_handoversRun_6_b : let k : Nat := 4; let s : State := sC (cmd 0x0801 [4, 128]) (hoDev 4 128 true); let h : Handover := ho 4 true; let c : Cmd := cmd 0x0801 [4, 128]; let q : Nat := 3; k < 5 ∧ s.dev.handoverOf k = some h ∧ h.switched = true ∧ s.dev.oldCodeFree h = true ∧ s.dev.findCmd h.cmd = some c ∧ c.origin = .queue q := by decide +kernel
theorem wit_identityIsRead_0 : let id : Nat := 21; let s : State := sC (cmd 0x0802 [0x4000, 0x5000, 895]); let c : Cmd := cmd 0x0802 [0x4000, 0x5000, 895]; (s.dev.findCmd id = some c ∧ c.opcode = 0x0802 ∧ c.phase = .begun) ∧ c.p 2 < 896 := by decide +kernel
theorem wit_identityIsRead_1 : let id : Nat := 21; let s : State := sC (cmd 0x0802 [0x4000, 0x5000, 896]); let c : Cmd := cmd 0x0802 [0x4000, 0x5000, 896]; (s.dev.findCmd id = some c ∧ c.opcode = 0x0802 ∧ c.phase = .begun) ∧ 896 ≤ c.p 2 := by decide +kernel
theorem wit_authoritiesAndFusesAdvance_0 : let id : Nat := 21; let s : State := sC (cmd 0x0804 [0x4000, 4095]); let c : Cmd := cmd 0x0804 [0x4000, 4095]; (s.dev.findCmd id = some c ∧ c.opcode = 0x0804 ∧ c.phase = .begun) ∧ c.p 1 ≠ 4096 := by decide +kernel
theorem wit_authoritiesAndFusesAdvance_1 : let id : Nat := 21; let s : State := sC (cmd 0x0804 [0x4000, 4096]); let c : Cmd := cmd 0x0804 [0x4000, 4096]; let l := s.dev.hostRead (c.p 0) 4096; (s.dev.findCmd id = some c ∧ c.opcode = 0x0804 ∧ c.phase = .begun) ∧ c.p 1 = 4096 ∧ leAt l 0 2 ≠ 0x5841 := by decide +kernel
theorem wit_authoritiesAndFusesAdvance_4 : let s : State := st (mk [(HF_AUTH_active, 1), (HF_AUTH_EXPIRY_frame, 7), (⟨GD_FRAME, 63, 0⟩, 7)]); s.dev.flag HF_AUTH_active = true ∧ s.dev.fld HF_AUTH_EXPIRY_frame ≤ s.dev.frame := by decide +kernel
theorem wit_authoritiesAndFusesAdvance_5 : let s : State := st (mk [(HF_AUTH_active, 1), (HF_AUTH_EXPIRY_frame, 8), (⟨GD_FRAME, 63, 0⟩, 7)]); (s.dev.flag HF_AUTH_active = false ∨ s.dev.frame < s.dev.fld HF_AUTH_EXPIRY_frame) := by decide +kernel
theorem wit_authoritiesAndFusesAdvance_6 : let id : Nat := 21; let s : State := sC (cmd 0x0805 [4, 1]) { cold with flash := { fuses := [(4, [2])] } }; let c : Cmd := cmd 0x0805 [4, 1]; let k := c.p 0 % 16; let v := c.p 1 % 2 ^ 32; (s.dev.findCmd id = some c ∧ c.opcode = 0x0805 ∧ c.phase = .begun) ∧ k < 5 ∧ v < s.dev.leastVersion k := by decide +kernel
theorem wit_authoritiesAndFusesAdvance_7 : let id : Nat := 21; let s : State := sC (cmd 0x0805 [4, 2]) { cold with flash := { fuses := [(4, [2])] } }; let c : Cmd := cmd 0x0805 [4, 2]; let k := c.p 0 % 16; let v := c.p 1 % 2 ^ 32; (s.dev.findCmd id = some c ∧ c.opcode = 0x0805 ∧ c.phase = .begun) ∧ k < 5 ∧ v = s.dev.leastVersion k := by decide +kernel
theorem wit_authoritiesAndFusesAdvance_8 : let id : Nat := 21; let s : State := sC (cmd 0x0805 [4, 3]) (mk [(HF_FW_RUN_version 4, 3)] { warm with flash := { fuses := [(4, [1, 2])] } }); let c : Cmd := cmd 0x0805 [4, 3]; let k := c.p 0 % 16; let v := c.p 1 % 2 ^ 32; (s.dev.findCmd id = some c ∧ c.opcode = 0x0805 ∧ c.phase = .begun) ∧ k < 5 ∧ s.dev.leastVersion k < v ∧ v ≤ s.dev.fld (HF_FW_RUN_version k) ∧ (s.dev.fuses k).length < 16 ∧ s.dev.gateOpen [16] = true := by decide +kernel
theorem wit_authoritiesAndFusesAdvance_9 : let id : Nat := 21; let s : State := sC (cmd 0x0700 [5]) (mk [(DR_CONTOUR_CTRL_state 5, 1)] cold); let c : Cmd := cmd 0x0700 [5]; let n := c.p 0 % 8; (s.dev.findCmd id = some c ∧ c.opcode = 0x0700 ∧ c.phase = .begun) ∧ s.dev.fld (DR_CONTOUR_CTRL_state n) ≠ 0 := by decide +kernel
theorem wit_authoritiesAndFusesAdvance_10 : let id : Nat := 21; let s : State := sC (cmd 0x0700 [5]) warm; let c : Cmd := cmd 0x0700 [5]; let n := c.p 0 % 8; (s.dev.findCmd id = some c ∧ c.opcode = 0x0700 ∧ c.phase = .begun) ∧ s.dev.fld (DR_CONTOUR_CTRL_state n) = 0 ∧ s.dev.gateOpen [16, 17 + n] = true := by decide +kernel
theorem wit_selfTestFindsTheCheckersThatDepart_0 : let k : Nat := 16; k < 33 := by decide +kernel
theorem wit_selfTestFindsTheCheckersThatDepart_1 : let k : Nat := 32; let n : Nat := 35; k < 33 ∧ n < 36 := by decide +kernel
theorem wit_selfTestFindsTheCheckersThatDepart_2 : let k : Nat := 0; let m : Nat := 35; let n : Nat := 34; k < 33 ∧ m < 36 ∧ n < m := by decide +kernel
theorem wit_selfTestFindsTheCheckersThatDepart_3 : let k : Nat := 32; k < 33 := by decide +kernel


/-- The frame and the grid state. -/
def fr (n : Nat) (d : Dev := net) : Dev := mk [(⟨GD_FRAME, 63, 0⟩, n)] d
def gs (n : Nat) (d : Dev := net) : Dev := mk [(GD_STATUS_state, n)] d
def annC (gen : Nat) : List Byte := leBytes 4 102 ++ leBytes 4 103 ++ leBytes 2 gen ++ leBytes 1 2
def mgen (n g : Nat) (d : Dev := net) : Dev := mk [(GD_STATUS_state, n), (GD_MASTER_generation, g)] d
def gd (g : GridSt) (d : Dev) : Dev := { d with grid := g }
/-- A ranging cell from coordinate 1 that carries a frame, an echo and a generation. -/
def rngC (f echo gen : Nat) : RxCell :=
  ⟨5, 0, 31, 15, 700, ⟨0, 29, 0, 0, 1, 0, 5, 0, 1, 0,
    leBytes 4 1 ++ [0, 3] ++ leBytes 2 gen ++ leBytes 8 f ++ leBytes 4 0 ++ leBytes 4 echo ++ leBytes 4 102 ++ [0], 0⟩⟩
def sG (r : RxCell) (d : Dev := net) : State := st { d with net := { d.net with rx := [r] } }
def part (good bad : Nat) (rep : Option Nat := none) (since : Nat := 30) : List (Nat × Partner) := [(1, ⟨good, bad, since, none, rep⟩)]
/-- Entry k of a batch names a register. -/
def bat (l : List Nat) (fs : List (Fld × Nat)) (d : Dev := host) : State :=
  st (mk (fs ++ (l.zipIdx.map fun x => (GD_BATCH_ADDR_addr x.2, (regSpaceBase + x.1) / 8)) ++ l.zipIdx.map fun x => (⟨GD_BATCH_DATA x.2, 63, 0⟩, 1000 + x.2)) d)

theorem wit_datumIsFollowed_0 : let s : State := st (fr 512 (gs 5)); s.dev.gridState = 5 ∧ s.dev.frame % 256 = 0 := by decide +kernel
theorem wit_datumIsFollowed_1 : let s : State := st (fr 511 (gs 5)); (s.dev.gridState ≠ 5 ∨ s.dev.frame % 256 ≠ 0) := by decide +kernel
theorem wit_datumIsFollowed_2 : let rx : Nat := 5; let s : State := sB 1 (annC 6) (mgen 5 6); let r : RxCell := bellC 1 (annC 6); let pl := r.cell.payload; let own := s.dev.fld GD_MASTER_generation; let st := s.dev.gridState; (s.dev.rxCell rx = some r ∧ r.cell.cls = 4 ∧ r.cell.bellKind = 1) ∧ (st = 0 ∨ leAt pl 8 2 < own ∨ (st = 5 ∧ leAt pl 8 2 ≤ own)) := by decide +kernel
theorem wit_datumIsFollowed_3 : let rx : Nat := 5; let s : State := sB 1 (annC 7) (mgen 4 6); let r : RxCell := bellC 1 (annC 7); let pl := r.cell.payload; let own := s.dev.fld GD_MASTER_generation; let st := s.dev.gridState; (s.dev.rxCell rx = some r ∧ r.cell.cls = 4 ∧ r.cell.bellKind = 1) ∧ (st = 3 ∨ st = 4) ∧ own ≤ leAt pl 8 2 := by decide +kernel
theorem wit_datumIsFollowed_3_b : let rx : Nat := 5; let s : State := sB 1 (annC 6) (mgen 3 6); let r : RxCell := bellC 1 (annC 6); let pl := r.cell.payload; let own := s.dev.fld GD_MASTER_generation; let st := s.dev.gridState; (s.dev.rxCell rx = some r ∧ r.cell.cls = 4 ∧ r.cell.bellKind = 1) ∧ (st = 3 ∨ st = 4) ∧ own ≤ leAt pl 8 2 := by decide +kernel
theorem wit_datumIsFollowed_4 : let rx : Nat := 5; let s : State := sB 1 (annC 7) (mgen 5 6); let r : RxCell := bellC 1 (annC 7); let pl := r.cell.payload; let own := s.dev.fld GD_MASTER_generation; let st := s.dev.gridState; (s.dev.rxCell rx = some r ∧ r.cell.cls = 4 ∧ r.cell.bellKind = 1) ∧ st = 5 ∧ own < leAt pl 8 2 := by decide +kernel
theorem wit_datumIsFollowed_5 : let rx : Nat := 5; let s : State := sB 1 (annC 6) (gd { bellRun := [(1, 16)], heardFrame := some (-3) } (fr 700 (mgen 1 6))); let r : RxCell := bellC 1 (annC 6); let pl := r.cell.payload; let own := s.dev.fld GD_MASTER_generation; let st := s.dev.gridState; let o := -3; (s.dev.rxCell rx = some r ∧ r.cell.cls = 4 ∧ r.cell.bellKind = 1) ∧ st = 1 ∧ own ≤ leAt pl 8 2 ∧ s.dev.grid.heardFrame = some o ∧ (∃ x ∈ s.dev.grid.bellRun, 16 ≤ x.2) := by decide +kernel
theorem wit_gridStatesMove_0 : let s : State := st (gd { silent := 2048 } (fr 256 (mgen 4 65535))); s.dev.gridState = 4 ∧ s.dev.fld GD_MASTER_backup_id = s.dev.fid ∧ 2048 ≤ s.dev.grid.silent ∧ s.dev.frame % 256 = 0 ∧ s.dev.grid.demoted = false := by decide +kernel
theorem wit_gridStatesMove_1 : let s : State := st (gd { silent := 2048 } net); s.dev.gridState = 3 ∧ 2048 ≤ s.dev.grid.silent := by decide +kernel
theorem wit_gridStatesMove_2 : let s : State := st (mk [(GD_HOLDOVER_LIMIT_limit, 9)] (gd { holdover := 10 } (gs 4))); s.dev.fld GD_HOLDOVER_LIMIT_limit < s.dev.grid.holdover ∧ s.dev.flag GD_STATUS_holdover_expired = false := by decide +kernel
theorem wit_gridStatesMove_3 : let s : State := st (gd { listen := 2048 } (gs 1 { net with fab := { map := some { fmap with master := net.fid } } })); let m : FabMap := { fmap with master := net.fid }; s.dev.gridState = 1 ∧ s.dev.grid.heard = false ∧ s.dev.grid.demoted = false ∧ s.dev.fab.map = some m ∧ ((m.master = s.dev.fid ∧ 2048 ≤ s.dev.grid.listen) ∨ (m.backup = s.dev.fid ∧ 4096 ≤ s.dev.grid.listen)) := by decide +kernel
theorem wit_gridStatesMove_4 : let v : Word64 := 1; let s : State := st host; s.dev.ready = true ∧ s.dev.cp.d3hot = false ∧ s.dev.inBatch GD_CTRL = false ∧ s.dev.flag GD_CTRL_enable = false ∧ bitAt v.toNat 0 = true := by decide +kernel
theorem wit_gridStatesMove_5 : let v : Word64 := 0; let s : State := st (mk [(GD_CTRL_enable, 1)] net); s.dev.ready = true ∧ s.dev.cp.d3hot = false ∧ s.dev.inBatch GD_CTRL = false ∧ s.dev.flag GD_CTRL_enable = true ∧ bitAt v.toNat 0 = false := by decide +kernel
theorem wit_rangingAligns_0 : let p : Nat := 0; let f : Nat := 0; let c : Nat := 1; let y : Nat := 1; let s : State := st { fr 0 with fab := { net.fab with looped := [0] } }; p < 6 ∧ 2 ≤ s.dev.gridState ∧ s.dev.aim p 15 (fun f => some (s.dev.rangingSlot p f)) = some (f, c, y) ∧ s.dev.rangingLane p c = true := by decide +kernel
theorem wit_rangingAligns_2 : let p : Nat := 0; let f : Nat := 0; let c : Nat := 1; let y : Nat := 1; let s : State := st { fr 0 with fab := { net.fab with looped := [0] } }; p < 6 ∧ 2 ≤ s.dev.gridState ∧ s.dev.aim p 15 (fun f => some (s.dev.rangingSlot p f)) = some (f, c, y) ∧ s.dev.rangingLane p c = true ∧ s.dev.isZb p = false := by decide +kernel
theorem wit_rangingAligns_4 : let p : Nat := 0; let f : Nat := 0; let c : Nat := 1; let y : Nat := 1; let s : State := st { fr 0 with fab := { net.fab with looped := [0] } }; p < 6 ∧ 2 ≤ s.dev.gridState ∧ s.dev.aim p 15 (fun f => some (s.dev.rangingSlot p f)) = some (f, c, y) ∧ s.dev.rangingLane p c = true ∧ s.dev.advance_ p c ≤ 1024 * 15 := by decide +kernel
theorem wit_rangingAligns_5 : let p : Nat := 0; let f : Nat := 2; let c : Nat := 3; let y : Nat := 3; let s : State := st (mk ([1, 2, 3].map fun c => (⟨GD_RANGE 0 c, 21, 0⟩, encodeAdv 40000)) { fr 0 with fab := { net.fab with looped := [0] } }); p < 6 ∧ 2 ≤ s.dev.gridState ∧ s.dev.aim p 15 (fun f => some (s.dev.rangingSlot p f)) = some (f, c, y) ∧ s.dev.rangingLane p c = true ∧ 1024 * 15 < s.dev.advance_ p c := by decide +kernel
theorem wit_rangingAligns_8 : let rx : Nat := 5; let e : Int := 40; let s : State := sG (rngC 700 40 6) (gd { partners := [(1, ⟨7, 1, 3, none, none⟩)] } (mk [(GD_RANGE_aligned 0 1, 0)] (mgen 3 6))); let r : RxCell := rngC 700 40 6; let p := r.port; let c := s.dev.colourOf p r.cell.hopSrc; let pl := r.cell.payload; let own := s.dev.fld GD_MASTER_generation; s.dev.rxCell rx = some r ∧ r.cell.cls = 5 ∧ 2 ≤ s.dev.gridState ∧ r.port < 6 ∧ (1 ≤ c ∨ s.dev.isZb p = true) ∧ c < 16 ∧ leAt pl 8 8 = r.frame ∧ cellEcho pl = some e ∧ leAt pl 6 2 ≤ own := by decide +kernel
theorem wit_rangingAligns_8_b : let rx : Nat := 5; let e : Int := -41; let s : State := sG (rngC 700 (2 ^ 32 - 41) 6) (gd { partners := [(1, ⟨7, 1, 3, none, none⟩)] } (mgen 3 6)); let r : RxCell := rngC 700 (2 ^ 32 - 41) 6; let p := r.port; let c := s.dev.colourOf p r.cell.hopSrc; let pl := r.cell.payload; let own := s.dev.fld GD_MASTER_generation; s.dev.rxCell rx = some r ∧ r.cell.cls = 5 ∧ 2 ≤ s.dev.gridState ∧ r.port < 6 ∧ (1 ≤ c ∨ s.dev.isZb p = true) ∧ c < 16 ∧ leAt pl 8 8 = r.frame ∧ cellEcho pl = some e ∧ leAt pl 6 2 ≤ own := by decide +kernel
theorem wit_rangingAligns_11 : let rx : Nat := 5; let s : State := sG (rngC 701 40 6) (mgen 3 6); let r : RxCell := rngC 701 40 6; let p := r.port; let c := s.dev.colourOf p r.cell.hopSrc; let pl := r.cell.payload; let own := s.dev.fld GD_MASTER_generation; s.dev.rxCell rx = some r ∧ r.cell.cls = 5 ∧ 2 ≤ s.dev.gridState ∧ r.port < 6 ∧ (1 ≤ c ∨ s.dev.isZb p = true) ∧ c < 16 ∧ leAt pl 8 8 ≠ r.frame ∧ leAt pl 6 2 ≤ own := by decide +kernel
theorem wit_rangingAligns_9 : let rx : Nat := 5; let e : Int := 40; let arr : Int := -7; let s : State := sG (rngC 700 40 7) (gd { partners := [(1, ⟨7, 1, 3, none, none⟩)] } (mk [(GD_RANGE_aligned 0 1, 0)] (mgen 3 6))); let r : RxCell := rngC 700 40 7; let p := r.port; let c := s.dev.colourOf p r.cell.hopSrc; let pl := r.cell.payload; let al := s.dev.flag (GD_RANGE_aligned p c); let x := s.dev.partner p c; let own := s.dev.fld GD_MASTER_generation; let moved := (clampI ((s.dev.advance_ p c : Int) + if al then clampI (Int.tdiv e 4) (-2) 2 else e) 0 (64 * 16384 - 1)).toNat; let apart := (Int.tdiv ((moved : Int) - (decodeAdv (leAt pl 16 4) : Int)) 2).natAbs; s.dev.rxCell rx = some r ∧ r.cell.cls = 5 ∧ 2 ≤ s.dev.gridState ∧ r.port < 6 ∧ (1 ≤ c ∨ s.dev.isZb p = true) ∧ c < 16 ∧ leAt pl 8 8 = r.frame ∧ cellEcho pl = some e ∧ own < leAt pl 6 2 ∧ al = false ∧ e.natAbs ≤ 40 ∧ 7 ≤ x.good ∧ arr.natAbs ≤ 40 ∧ apart ≤ 40 := by decide +kernel
theorem wit_rangingAligns_10 : let rx : Nat := 5; let e : Int := 40; let arr : Int := -47; let s : State := sG (rngC 700 40 7) (gd { partners := [(1, ⟨7, 1, 3, none, none⟩)] } (mk [(GD_RANGE_aligned 0 1, 0)] (mgen 3 6))); let r : RxCell := rngC 700 40 7; let p := r.port; let c := s.dev.colourOf p r.cell.hopSrc; let pl := r.cell.payload; let al := s.dev.flag (GD_RANGE_aligned p c); let x := s.dev.partner p c; let own := s.dev.fld GD_MASTER_generation; let moved := (clampI ((s.dev.advance_ p c : Int) + if al then clampI (Int.tdiv e 4) (-2) 2 else e) 0 (64 * 16384 - 1)).toNat; let apart := (Int.tdiv ((moved : Int) - (decodeAdv (leAt pl 16 4) : Int)) 2).natAbs; s.dev.rxCell rx = some r ∧ r.cell.cls = 5 ∧ 2 ≤ s.dev.gridState ∧ r.port < 6 ∧ (1 ≤ c ∨ s.dev.isZb p = true) ∧ c < 16 ∧ leAt pl 8 8 = r.frame ∧ cellEcho pl = some e ∧ own < leAt pl 6 2 ∧ al = false ∧ e.natAbs ≤ 40 ∧ 7 ≤ x.good ∧ (40 < arr.natAbs ∨ 40 < apart) := by decide +kernel
theorem wit_rangingAligns_12 : let rx : Nat := 5; let s : State := sG (rngC 701 40 7) (mgen 3 6); let r : RxCell := rngC 701 40 7; let p := r.port; let c := s.dev.colourOf p r.cell.hopSrc; let pl := r.cell.payload; let own := s.dev.fld GD_MASTER_generation; s.dev.rxCell rx = some r ∧ r.cell.cls = 5 ∧ 2 ≤ s.dev.gridState ∧ r.port < 6 ∧ (1 ≤ c ∨ s.dev.isZb p = true) ∧ c < 16 ∧ leAt pl 8 8 ≠ r.frame ∧ own < leAt pl 6 2 ∧ 3 ≤ s.dev.gridState := by decide +kernel
theorem wit_rangingAligns_13 : let p : Nat := 0; let c : Nat := 1; let s : State := st (gd { partners := [(1, ⟨7, 1, 30, none, none⟩)] } (mgen 3 6)); p < 6 ∧ c < 16 ∧ s.dev.flag (GD_RANGE_aligned p c) = true ∧ 30 ≤ (s.dev.partner p c).since := by decide +kernel
theorem wit_rangingAligns_14 : let s : State := st (gd { partners := [(1, ⟨7, 1, 30, none, some 100⟩)] } (fr 15 (mgen 4 6))); 2 ≤ s.dev.gridState ∧ s.dev.gridState ≤ 4 ∧ s.dev.frame % 15 = 0 ∧ s.dev.meanOffset.2 ≠ 0 := by decide +kernel
theorem wit_rangingAligns_15 : let s : State := st (fr 15 (mgen 4 6)); 2 ≤ s.dev.gridState ∧ s.dev.gridState ≤ 4 ∧ s.dev.frame % 15 = 0 ∧ s.dev.meanOffset.2 = 0 := by decide +kernel
theorem wit_boundaries_0 : let s : State := st (gs 1); s.dev.pw.phase = .on := by decide +kernel
theorem wit_boundaries_1 : let s : State := st { net with next := [(TM_GRACE, 4882812)] }; let v : Word64 := 4882812; s.dev.pw.phase = .on ∧ s.dev.next = [(TM_GRACE, v)] ∧ s.dev.batchBusy = false ∧ wget v 31 0 ≤ 4882812 := by decide +kernel
theorem wit_boundaries_2 : let s : State := st { net with next := [(TM_GRACE, 4882813)] }; let v : Word64 := 4882813; s.dev.pw.phase = .on ∧ s.dev.next = [(TM_GRACE, v)] ∧ s.dev.batchBusy = false ∧ 4882812 < wget v 31 0 := by decide +kernel
theorem wit_batches_0 : let v : Word64 := 0x100; let s : State := bat [TM_GRACE] []; let n := wget v 6 0; s.dev.ready = true ∧ s.dev.cp.d3hot = false ∧ s.dev.batchBusy = false ∧ bitAt v.toNat 8 = true ∧ bitAt v.toNat 9 = false ∧ (n = 0 ∨ 64 < n) := by decide +kernel
theorem wit_batches_0_b : let v : Word64 := 0x141; let s : State := bat [TM_GRACE] []; let n := wget v 6 0; s.dev.ready = true ∧ s.dev.cp.d3hot = false ∧ s.dev.batchBusy = false ∧ bitAt v.toNat 8 = true ∧ bitAt v.toNat 9 = false ∧ (n = 0 ∨ 64 < n) := by decide +kernel
theorem wit_batches_1 : let v : Word64 := 0x102; let s : State := bat [TM_GRACE, HF_HBM_MODE] [(GD_BATCH_FRAME_frame, 4)]; let n := wget v 6 0; s.dev.ready = true ∧ s.dev.cp.d3hot = false ∧ s.dev.batchBusy = false ∧ bitAt v.toNat 8 = true ∧ bitAt v.toNat 9 = false ∧ 1 ≤ n ∧ n ≤ 64 ∧ (∃ k < n, s.dev.batchEntryOk k = false) := by decide +kernel
theorem wit_batches_2 : let v : Word64 := 0x101; let s : State := bat [TM_GRACE] [(GD_BATCH_FRAME_frame, 3)]; let n := wget v 6 0; let f := s.dev.fld GD_BATCH_FRAME_frame; s.dev.ready = true ∧ s.dev.cp.d3hot = false ∧ s.dev.batchBusy = false ∧ bitAt v.toNat 8 = true ∧ bitAt v.toNat 9 = false ∧ 1 ≤ n ∧ n ≤ 64 ∧ (∀ k < n, s.dev.batchEntryOk k = true) ∧ (f < s.dev.frame + 4 ∨ s.dev.frame + 2 ^ 28 < f) := by decide +kernel
theorem wit_batches_2_b : let v : Word64 := 0x101; let s : State := bat [TM_GRACE] [(GD_BATCH_FRAME_frame, 2 ^ 28 + 1)]; let n := wget v 6 0; let f := s.dev.fld GD_BATCH_FRAME_frame; s.dev.ready = true ∧ s.dev.cp.d3hot = false ∧ s.dev.batchBusy = false ∧ bitAt v.toNat 8 = true ∧ bitAt v.toNat 9 = false ∧ 1 ≤ n ∧ n ≤ 64 ∧ (∀ k < n, s.dev.batchEntryOk k = true) ∧ (f < s.dev.frame + 4 ∨ s.dev.frame + 2 ^ 28 < f) := by decide +kernel
theorem wit_batches_3 : let v : Word64 := 0x101; let s : State := bat [TM_GRACE] [(GD_BATCH_FRAME_frame, 4)]; let n := wget v 6 0; let f := s.dev.fld GD_BATCH_FRAME_frame; s.dev.ready = true ∧ s.dev.cp.d3hot = false ∧ s.dev.batchBusy = false ∧ bitAt v.toNat 8 = true ∧ bitAt v.toNat 9 = false ∧ 1 ≤ n ∧ n ≤ 64 ∧ (∀ k < n, s.dev.batchEntryOk k = true) ∧ s.dev.frame + 4 ≤ f ∧ f ≤ s.dev.frame + 2 ^ 28 := by decide +kernel
theorem wit_batches_3_b : let v : Word64 := 0x101; let s : State := bat [TM_GRACE] [(GD_BATCH_FRAME_frame, 2 ^ 28)]; let n := wget v 6 0; let f := s.dev.fld GD_BATCH_FRAME_frame; s.dev.ready = true ∧ s.dev.cp.d3hot = false ∧ s.dev.batchBusy = false ∧ bitAt v.toNat 8 = true ∧ bitAt v.toNat 9 = false ∧ 1 ≤ n ∧ n ≤ 64 ∧ (∀ k < n, s.dev.batchEntryOk k = true) ∧ s.dev.frame + 4 ≤ f ∧ f ≤ s.dev.frame + 2 ^ 28 := by decide +kernel
theorem wit_batches_4 : let v : Word64 := 0x201; let s : State := bat [TM_GRACE] [(GD_BATCH_FRAME_frame, 2), (GD_BATCH_STATUS_state, 1), (GD_BATCH_CTRL_count, 1)]; s.dev.ready = true ∧ s.dev.cp.d3hot = false ∧ s.dev.fld GD_BATCH_STATUS_state = 1 ∧ s.dev.inBatch GD_BATCH_CTRL = false ∧ bitAt v.toNat 9 = true ∧ bitAt v.toNat 8 = false ∧ wget v 6 0 = s.dev.fld GD_BATCH_CTRL_count ∧ s.dev.frame + 1 < s.dev.fld GD_BATCH_FRAME_frame := by decide +kernel
theorem wit_batches_5 : let v : Word64 := 0x201; let s : State := bat [TM_GRACE] [(GD_BATCH_FRAME_frame, 1), (GD_BATCH_STATUS_state, 1), (GD_BATCH_CTRL_count, 1)]; s.dev.ready = true ∧ s.dev.cp.d3hot = false ∧ s.dev.fld GD_BATCH_STATUS_state = 1 ∧ s.dev.inBatch GD_BATCH_CTRL = false ∧ bitAt v.toNat 9 = true ∧ bitAt v.toNat 8 = false ∧ wget v 6 0 = s.dev.fld GD_BATCH_CTRL_count ∧ s.dev.fld GD_BATCH_FRAME_frame ≤ s.dev.frame + 1 := by decide +kernel
theorem wit_batches_6 : let s : State := bat [TM_GRACE, TM_GRACE + 0] [(GD_BATCH_FRAME_frame, 1), (GD_BATCH_STATUS_state, 1), (GD_BATCH_CTRL_count, 1)]; s.dev.fld GD_BATCH_STATUS_state = 1 ∧ s.dev.fld GD_BATCH_FRAME_frame = s.dev.frame + 1 := by decide +kernel
theorem wit_registerWrites_0 : let s : State := st { cold with cp := { d3hot := true } }; s.dev.cp.d3hot = true := by decide +kernel
theorem wit_registerWrites_1 : let a : Nat := regSpaceBase + 2 ^ 32; let size : Nat := 8; let s : State := st cold; s.dev.cp.d3hot = false ∧ (size ≠ 8 ∨ a % 8 ≠ 0 ∨ a < regSpaceBase ∨ regSpaceBase + 2 ^ 32 ≤ a) := by decide +kernel
theorem wit_registerWrites_1_b : let a : Nat := regSpaceBase - 8; let size : Nat := 8; let s : State := st cold; s.dev.cp.d3hot = false ∧ (size ≠ 8 ∨ a % 8 ≠ 0 ∨ a < regSpaceBase ∨ regSpaceBase + 2 ^ 32 ≤ a) := by decide +kernel
theorem wit_registerWrites_1_c : let a : Nat := regSpaceBase; let size : Nat := 4; let s : State := st cold; s.dev.cp.d3hot = false ∧ (size ≠ 8 ∨ a % 8 ≠ 0 ∨ a < regSpaceBase ∨ regSpaceBase + 2 ^ 32 ≤ a) := by decide +kernel
theorem wit_registerWrites_2 : let a : Nat := regSpaceBase + DR_CTRL 4; let size : Nat := 8; let s : State := st (mk [(HF_PKG_STRAP_variant, 2)] host); let off := DR_CTRL 4; s.dev.cp.d3hot = false ∧ a = regSpaceBase + off ∧ off < 2 ^ 32 ∧ off % 8 = 0 ∧ size = 8 ∧ s.dev.ready = true ∧ s.dev.regAbsent off = true := by decide +kernel
theorem wit_registerWrites_3 : let a : Nat := regSpaceBase + CP_AQ_SQ; let size : Nat := 8; let v : Word64 := 0x1001; let s : State := st (mk [(CP_CTRL_enable, 1)] host); let off := CP_AQ_SQ; s.dev.cp.d3hot = false ∧ a = regSpaceBase + off ∧ off < 2 ^ 32 ∧ off % 8 = 0 ∧ size = 8 ∧ s.dev.ready = true ∧ s.dev.regAbsent off = false ∧ s.dev.inBatch off = false ∧ s.dev.refusedByRun off v = true ∧ 0x200000 ≤ off ∧ off < 0x300000 := by decide +kernel
theorem wit_registerWrites_4 : let a : Nat := regSpaceBase + 0x18000; let size : Nat := 8; let s : State := st host; let off := 0x18000; s.dev.cp.d3hot = false ∧ a = regSpaceBase + off ∧ off < 2 ^ 32 ∧ off % 8 = 0 ∧ size = 8 ∧ s.dev.ready = true ∧ 0x18000 ≤ off ∧ off < 0x40000 ∧ s.dev.inBatch off = false := by decide +kernel
theorem wit_registerWrites_4_b : let a : Nat := regSpaceBase + 0x3FFF8; let size : Nat := 8; let s : State := st host; let off := 0x3FFF8; s.dev.cp.d3hot = false ∧ a = regSpaceBase + off ∧ off < 2 ^ 32 ∧ off % 8 = 0 ∧ size = 8 ∧ s.dev.ready = true ∧ 0x18000 ≤ off ∧ off < 0x40000 ∧ s.dev.inBatch off = false := by decide +kernel
theorem wit_registerWrites_5 : let a : Nat := regSpaceBase + TM_GRACE; let size : Nat := 8; let s : State := st host; let off := TM_GRACE; s.dev.cp.d3hot = false ∧ a = regSpaceBase + off ∧ off < 2 ^ 32 ∧ off % 8 = 0 ∧ size = 8 ∧ s.dev.ready = true ∧ off = TM_GRACE ∧ s.dev.inBatch off = false := by decide +kernel
theorem wit_registerReads_0 : let off : Nat := CP_STATUS; let s : State := st host; s.dev.cp.d3hot = false ∧ s.dev.ready = true ∧ off % 8 = 0 ∧ off < 2 ^ 32 ∧ s.dev.regAbsent off = false := by decide +kernel
theorem wit_registerReads_0_b : let off : Nat := FB_RELAY_CNT; let s : State := st (mk [(FB_RELAY_CNT_relayed, 5)] host); s.dev.cp.d3hot = false ∧ s.dev.ready = true ∧ off % 8 = 0 ∧ off < 2 ^ 32 ∧ s.dev.regAbsent off = false := by decide +kernel
theorem wit_registerReads_1 : let a : Nat := regSpaceBase + 4; let size : Nat := 8; let s : State := st host; s.dev.cp.d3hot = false ∧ (size ≠ 8 ∨ a % 8 ≠ 0 ∨ a < regSpaceBase ∨ regSpaceBase + 2 ^ 32 ≤ a) := by decide +kernel
theorem wit_tallyAndMailboxWrites_0 : let t : Nat := 65535; let s : State := st (mk [(HF_TALLY_error 65535, 1), (HF_TALLY_count 65534, 7)] host); t < 65536 ∧ s.dev.ready = true ∧ s.dev.cp.d3hot = false ∧ s.dev.inBatch (HF_TALLY t) = false := by decide +kernel
theorem wit_tallyAndMailboxWrites_1 : let m : Nat := 1023; let v : Word64 := 7; let s : State := st (mk [(⟨HF_MBOX_CONS 1023, 63, 0⟩, 5), (⟨HF_MBOX_PROD 1023, 63, 0⟩, 7)] host); let cons := s.dev.reg (HF_MBOX_CONS m); m < 1024 ∧ s.dev.ready = true ∧ s.dev.cp.d3hot = false ∧ s.dev.inBatch (HF_MBOX_CONS m) = false ∧ (v - cons).toNat ≤ (s.dev.reg (HF_MBOX_PROD m) - cons).toNat := by decide +kernel
theorem wit_tallyAndMailboxWrites_2 : let m : Nat := 1023; let v : Word64 := 8; let s : State := st (mk [(⟨HF_MBOX_CONS 1023, 63, 0⟩, 5), (⟨HF_MBOX_PROD 1023, 63, 0⟩, 7)] host); let cons := s.dev.reg (HF_MBOX_CONS m); m < 1024 ∧ s.dev.ready = true ∧ s.dev.cp.d3hot = false ∧ s.dev.inBatch (HF_MBOX_CONS m) = false ∧ (s.dev.reg (HF_MBOX_PROD m) - cons).toNat < (v - cons).toNat := by decide +kernel
theorem wit_tallyAndMailboxWrites_3 : let m : Nat := 1023; let v : Word64 := 2 ^ 63 + 2 ^ 47 + 30; let s : State := st host; m < 1024 ∧ s.dev.ready = true ∧ s.dev.cp.d3hot = false ∧ s.dev.inBatch (HF_MBOX_CTRL m) = false ∧ s.dev.flag (HF_MBOX_CTRL_enable m) = false ∧ (bitAt v.toNat 63 = false ∨ 16 ≤ wget v 4 0 ∧ wget v 4 0 ≤ 30) := by decide +kernel
theorem wit_tallyAndMailboxWrites_3_b : let m : Nat := 1023; let v : Word64 := 2 ^ 47 + 31; let s : State := st host; m < 1024 ∧ s.dev.ready = true ∧ s.dev.cp.d3hot = false ∧ s.dev.inBatch (HF_MBOX_CTRL m) = false ∧ s.dev.flag (HF_MBOX_CTRL_enable m) = false ∧ (bitAt v.toNat 63 = false ∨ 16 ≤ wget v 4 0 ∧ wget v 4 0 ≤ 30) := by decide +kernel
theorem wit_tallyAndMailboxWrites_4 : let m : Nat := 1023; let v : Word64 := 2 ^ 63 + 31; let s : State := st host; m < 1024 ∧ s.dev.ready = true ∧ s.dev.cp.d3hot = false ∧ s.dev.inBatch (HF_MBOX_CTRL m) = false ∧ s.dev.flag (HF_MBOX_CTRL_enable m) = false ∧ bitAt v.toNat 63 = true ∧ (wget v 4 0 < 16 ∨ 30 < wget v 4 0) := by decide +kernel
theorem wit_tallyAndMailboxWrites_5 : let m : Nat := 1023; let v : Word64 := 2 ^ 63 + 17; let s : State := st (mk [(HF_MBOX_CTRL_enable 1023, 1), (HF_MBOX_CTRL_log2_size 1023, 16)] host); m < 1024 ∧ s.dev.ready = true ∧ s.dev.cp.d3hot = false ∧ s.dev.inBatch (HF_MBOX_CTRL m) = false ∧ s.dev.flag (HF_MBOX_CTRL_enable m) = true ∧ (wget v 47 16 ≠ s.dev.fld (HF_MBOX_CTRL_base m) ∨ wget v 4 0 ≠ s.dev.fld (HF_MBOX_CTRL_log2_size m)) := by decide +kernel
theorem wit_tallyAndMailboxWrites_6 : let m : Nat := 1023; let v : Word64 := 16; let s : State := st (mk [(HF_MBOX_CTRL_enable 1023, 1), (HF_MBOX_CTRL_log2_size 1023, 16)] host); m < 1024 ∧ s.dev.ready = true ∧ s.dev.cp.d3hot = false ∧ s.dev.inBatch (HF_MBOX_CTRL m) = false ∧ s.dev.flag (HF_MBOX_CTRL_enable m) = true ∧ wget v 63 63 = 0 ∧ wget v 47 16 = s.dev.fld (HF_MBOX_CTRL_base m) ∧ wget v 4 0 = s.dev.fld (HF_MBOX_CTRL_log2_size m) := by decide +kernel
theorem wit_stacksLeaveAndReturn_0 : let v : Word64 := 1; let s : State := st (mk [(HF_HBM_MODE_lock, 1)] host); s.dev.ready = true ∧ s.dev.cp.d3hot = false ∧ s.dev.inBatch HF_HBM_MODE = false ∧ (s.dev.flag HF_HBM_MODE_lock = true ∨ (bitAt v.toNat 0 = true ∧ ∃ k < 16, s.dev.stackState k ≠ 2)) := by decide +kernel
theorem wit_stacksLeaveAndReturn_0_b : let v : Word64 := 1; let s : State := st host; s.dev.ready = true ∧ s.dev.cp.d3hot = false ∧ s.dev.inBatch HF_HBM_MODE = false ∧ (s.dev.flag HF_HBM_MODE_lock = true ∨ (bitAt v.toNat 0 = true ∧ ∃ k < 16, s.dev.stackState k ≠ 2)) := by decide +kernel
theorem wit_stacksLeaveAndReturn_1 : let v : Word64 := 1; let s : State := st (mk ((List.range 16).map fun k => (MC_STATUS_state k, 2)) host); s.dev.ready = true ∧ s.dev.cp.d3hot = false ∧ s.dev.inBatch HF_HBM_MODE = false ∧ s.dev.flag HF_HBM_MODE_lock = false ∧ (bitAt v.toNat 0 = false ∨ ∀ k < 16, s.dev.stackState k = 2) := by decide +kernel
theorem wit_stacksLeaveAndReturn_2 : let k : Nat := 15; let v : Word64 := 2; let s : State := st (mk [(HF_HBM_MODE_mode, 1)] host); k < 16 ∧ s.dev.ready = true ∧ s.dev.cp.d3hot = false ∧ s.dev.inBatch (MC_CTRL k) = false ∧ wget v 0 0 = s.dev.fld (MC_CTRL_enable k) ∧ wget v 1 1 ≠ s.dev.fld (MC_CTRL_offline k) ∧ s.dev.offlineCheck k ≠ 0 := by decide +kernel
theorem wit_stacksLeaveAndReturn_2_b : let k : Nat := 15; let v : Word64 := 2; let s : State := st host; k < 16 ∧ s.dev.ready = true ∧ s.dev.cp.d3hot = false ∧ s.dev.inBatch (MC_CTRL k) = false ∧ wget v 0 0 = s.dev.fld (MC_CTRL_enable k) ∧ wget v 1 1 ≠ s.dev.fld (MC_CTRL_offline k) ∧ s.dev.offlineCheck k ≠ 0 := by decide +kernel
theorem wit_stacksLeaveAndReturn_3 : let k : Nat := 3; let v : Word64 := 3; let s : State := st (mk [(MC_CTRL_enable 3, 1)] host); k < 16 ∧ s.dev.ready = true ∧ s.dev.cp.d3hot = false ∧ s.dev.inBatch (MC_CTRL k) = false ∧ wget v 0 0 = s.dev.fld (MC_CTRL_enable k) ∧ wget v 1 1 ≠ s.dev.fld (MC_CTRL_offline k) ∧ s.dev.packageWide = false ∧ (s.dev.stackState k = 2 ∨ s.dev.stackState k = 4) ∧ (∀ j ∈ stacksOf (k / 4), j ≠ k → s.dev.stackState j ≠ 3) := by decide +kernel
theorem wit_stacksLeaveAndReturn_3_b : let k : Nat := 3; let v : Word64 := 0; let s : State := st (mk [(MC_CTRL_offline 3, 1), (MC_STATUS_state 3, 4)] host); k < 16 ∧ s.dev.ready = true ∧ s.dev.cp.d3hot = false ∧ s.dev.inBatch (MC_CTRL k) = false ∧ wget v 0 0 = s.dev.fld (MC_CTRL_enable k) ∧ wget v 1 1 ≠ s.dev.fld (MC_CTRL_offline k) ∧ s.dev.packageWide = false ∧ (s.dev.stackState k = 2 ∨ s.dev.stackState k = 4) ∧ (∀ j ∈ stacksOf (k / 4), j ≠ k → s.dev.stackState j ≠ 3) := by decide +kernel
theorem wit_stacksLeaveAndReturn_4 : let k : Nat := 15; let s : State := st (mk [(MC_STATUS_state 15, 1)] cold); k < 16 ∧ s.dev.stackState k = 1 := by decide +kernel
theorem wit_stacksLeaveAndReturn_6 : let k : Nat := 15; let dst : Nat := 4; let s : State := st (mk [(MC_STATUS_state 15, 3)] { cold with svc := { changeTo := [(15, 4)] } }); k < 16 ∧ s.dev.stackState k = 3 ∧ dst < 8 ∧ smFind s.dev.svc.changeTo k = some dst := by decide +kernel
theorem wit_stacksLeaveAndReturn_6_b : let k : Nat := 3; let dst : Nat := 2; let s : State := st (mk [(MC_STATUS_state 3, 3)] { cold with svc := { changeTo := [(3, 2)] } }); k < 16 ∧ s.dev.stackState k = 3 ∧ dst < 8 ∧ smFind s.dev.svc.changeTo k = some dst := by decide +kernel
theorem wit_rowsAreRepaired_0 : let k : Nat := 15; let v : Word64 := 1; let s : State := st host; k < 16 ∧ s.dev.ready = true ∧ s.dev.cp.d3hot = false ∧ s.dev.inBatch (MC_REPAIR_CTRL k) = false ∧ s.dev.refusedByRun (MC_REPAIR_CTRL k) v = false ∧ bitAt v.toNat 0 = true ∧ bitAt v.toNat 1 = false ∧ s.dev.flag HF_AUTH_active = false := by decide +kernel
theorem wit_rowsAreRepaired_2 : let k : Nat := 15; let v : Word64 := 2; let s : State := st host; k < 16 ∧ s.dev.ready = true ∧ s.dev.cp.d3hot = false ∧ s.dev.inBatch (MC_REPAIR_CTRL k) = false ∧ s.dev.refusedByRun (MC_REPAIR_CTRL k) v = false ∧ bitAt v.toNat 1 = true ∧ bitAt v.toNat 0 = false := by decide +kernel
theorem wit_rowsAreRepaired_3 : let k : Nat := 15; let row : Nat := 77; let s : State := st (mk [(MC_REPAIR_STATUS_busy 15, 1)] { cold with svc := { repairing := [(15, 77)] } }); s.dev.flag (MC_REPAIR_STATUS_busy k) = true ∧ (k, row) ∈ s.dev.svc.repairing := by decide +kernel
theorem wit_rowsAreRepaired_4 : let k : Nat := 15; let v : Word64 := 62 * 2 ^ 18 + 35 * 2 ^ 12; let s : State := st host; k < 16 ∧ s.dev.ready = true ∧ s.dev.cp.d3hot = false ∧ s.dev.inBatch (MC_INJECT k) = false ∧ s.dev.refusedByRun (MC_INJECT k) v = false ∧ (36 ≤ wget v 23 18 ∧ wget v 23 18 ≤ 62 ∨ 36 ≤ wget v 17 12 ∧ wget v 17 12 ≤ 62) := by decide +kernel
theorem wit_rowsAreRepaired_5 : let k : Nat := 15; let v : Word64 := 2 ^ 63 + 63 * 2 ^ 18 + 35 * 2 ^ 12; let s : State := st host; k < 16 ∧ s.dev.ready = true ∧ s.dev.cp.d3hot = false ∧ s.dev.inBatch (MC_INJECT k) = false ∧ s.dev.refusedByRun (MC_INJECT k) v = false ∧ (wget v 23 18 < 36 ∨ wget v 23 18 = 63) ∧ (wget v 17 12 < 36 ∨ wget v 17 12 = 63) := by decide +kernel
theorem wit_registerReads_2 : let s : State := st { host with cp := { host.cp with d3hot := true } }; s.dev.cp.d3hot = true := by decide +kernel


/-- A row cell from fabric ID 0 to 1, in flight or waiting in the headframe. -/
def cellC (dst : Nat) (hops : Nat := 0) (hs : Nat := 1) (hd : Nat := 0) : Cell := ⟨0, 16, 3, hops, hs, hd, 1, 0, 1, dst, zeros 256, 0⟩
def wt (cage : Bool) (tr : Option (Nat × Nat × Bool) := none) : Waiting := ⟨9, { cellC 1 with op := 2 * 2 ^ 28 }, tr, cage, some (0, 1), 5, some 0, 256, 8, none, none⟩
def sW (w : Waiting) (sent : List (Nat × Nat) := []) (d : Dev := net) : State := st { d with net := { d.net with waiting := [w], sent := sent } }
/-- Lane 0 of port 0 is lit toward coordinate 1 in slot 15. -/
def plan0 (d : Dev := net) : Dev := d.setReg (0x620000 + 240) 0x81
def bl (kind : Nat) : Bell := ⟨0, 1, kind, zeros 256, none⟩
def sBl (l : List Bell) (d : Dev := net) : State := st { d with net := { d.net with bells := l } }
def misC : List Byte := leBytes 4 1 ++ [0, 31, 7, 15]
/-- Lane l of port n in a state, with what the lane holds. -/
def dl (n l stt : Nat) (f : Lane → Lane := id) (d : Dev := net) : Dev :=
  (mk [(DR_LANE_STAT_state n l, stt), (DR_CTRL_enable n, 1)] d).modLane n l f
def dd (n : Nat) (x : Drift) (d : Dev := net) : Dev := d.setDrift n x

/-- A ranging cell as a receiver reads it. -/
def rngW : Cell := { (rngC 700 40 6).cell with payload := padTo 256 (rngC 700 40 6).cell.payload }

theorem scrambleFrom_twice (g : BitVec 31) (l : List Byte) : scrambleFrom g (scrambleFrom g l) = l := by
  induction l generalizing g with
  | nil => rfl
  | cons b t ih => simp [scrambleFrom, ih]
theorem scrambleFrom_length (g : BitVec 31) (l : List Byte) : (scrambleFrom g l).length = l.length := by
  induction l generalizing g with
  | nil => rfl
  | cons b t ih => simp [scrambleFrom, ih]
/-- A receiver reads back a cell from its bytes. -/
theorem readWire_wire (c : Cell) (h : c.body.length = 280 ∧ Cell.ofBody c.body = c ∧ c.cls < 6 ∧ c.len ≤ 256) : readWire c.wire = some c := by
  have h8 : (crcBytes c.body).length = 8 := by simp [crcBytes, leBytes]
  have hs : scramble c.wire = c.body ++ crcBytes c.body := scrambleFrom_twice _ _
  have ht : (c.body ++ crcBytes c.body).take 280 = c.body := by rw [← h.1, List.take_left]
  have hd : (c.body ++ crcBytes c.body).drop 280 = crcBytes c.body := by rw [← h.1, List.drop_left]
  have hl : c.wire.length = 288 := by
    rw [Cell.wire, scramble, scrambleFrom_length, List.length_append, h.1, h8]
  simp only [readWire, hs, ht, hd, hl, h.2.1, h.2.2, and_self, if_true]

theorem wit_cellsAreLaunched_0 : let p : Nat := 0; let l : Nat := 30; let slot : Nat := 15; let s : State := sW { wt true (some (2, 1, true)) with headAt := none }; let f : Nat := 0; let c : Nat := 1; let y : Nat := 1; let w : Waiting := { wt true (some (2, 1, true)) with headAt := some 0 }; let t := s.dev.requeue; p < 6 ∧ l < 31 ∧ slot < 16 ∧ t.aim p slot (t.slotPartner p l slot) = some (f, c, y) ∧ t.laneCarries p l c = true ∧ t.mayData p y = true ∧ t.probeDue p l y = false ∧ t.pickCell p y (l == 30) = some w ∧ t.hasCredit p y w.cage = true ∧ t.mayAim p y f w = true := by decide +kernel
theorem wit_cellsAreLaunched_0_b : let p : Nat := 0; let l : Nat := 0; let slot : Nat := 15; let s : State := sW (wt false) [] plan0; let f : Nat := 0; let c : Nat := 1; let y : Nat := 1; let w : Waiting := wt false; let t := s.dev.requeue; p < 6 ∧ l < 31 ∧ slot < 16 ∧ t.aim p slot (t.slotPartner p l slot) = some (f, c, y) ∧ t.laneCarries p l c = true ∧ t.mayData p y = true ∧ t.probeDue p l y = false ∧ t.pickCell p y (l == 30) = some w ∧ t.hasCredit p y w.cage = true ∧ t.mayAim p y f w = true := by decide +kernel
theorem wit_cellsAreLaunched_1 : let p : Nat := 0; let l : Nat := 0; let slot : Nat := 15; let s : State := sW (wt false) [(2, 2048)] plan0; let f : Nat := 0; let c : Nat := 1; let y : Nat := 1; let w : Waiting := wt false; let t := s.dev.requeue; p < 6 ∧ l < 31 ∧ slot < 16 ∧ t.aim p slot (t.slotPartner p l slot) = some (f, c, y) ∧ t.laneCarries p l c = true ∧ t.mayData p y = true ∧ t.probeDue p l y = false ∧ t.pickCell p y (l == 30) = some w ∧ (t.hasCredit p y w.cage = false ∨ t.mayAim p y f w = false) := by decide +kernel
theorem wit_cellsAreLaunched_2 : let id : Nat := 9; let s : State := sW (wt false (some (2, 1, true))) [] (fr (5 + 256)); let w : Waiting := wt false (some (2, 1, true)); s.dev.net.waiting.find? (fun x => x.id == id) = some w ∧ w.since + w.relayLimit ≤ s.dev.frame := by decide +kernel
theorem wit_cellsAreLaunched_3 : let id : Nat := 9; let s : State := sW (wt false (some (2, 1, true))) [] (fr (4 + 256)); let w : Waiting := wt false (some (2, 1, true)); s.dev.net.waiting.find? (fun x => x.id == id) = some w ∧ s.dev.frame < w.since + w.relayLimit := by decide +kernel
theorem wit_cellsAreLaunched_4 : let id : Nat := 9; let s : State := sW (wt false) [(2, 2048), (4, 2048)] (fr 8); let w : Waiting := wt false; let f : Nat := 0; let t := s.dev.requeue; let v := if w.transit.isSome then w.cell.epoch else s.dev.version; t.net.waiting.find? (fun x => x.id == id) = some w ∧ w.cage = false ∧ w.headAt = some f ∧ f + w.escape ≤ s.dev.frame ∧ t.ableHop v w.cell.cls w.cell.dst = false ∧ t.cageHop v w.cell.cls w.cell.dst ≠ none := by decide +kernel
theorem wit_cellsAreLaunched_5 : let id : Nat := 9; let s : State := sW (wt false) [(2, 2048)] (fr 7); let w : Waiting := wt false; let f : Nat := 0; let t := s.dev.requeue; let v := if w.transit.isSome then w.cell.epoch else s.dev.version; t.net.waiting.find? (fun x => x.id == id) = some w ∧ w.cage = false ∧ w.headAt = some f ∧ (s.dev.frame < f + w.escape ∨ t.ableHop v w.cell.cls w.cell.dst = true) := by decide +kernel
theorem wit_cellsAreReceived_0 : let p : Nat := 2; let l : Nat := 31; let slot : Nat := 15; let bytes : List (BitVec 8) := zeros 287; let s : State := st net; p < 6 ∧ l < 32 ∧ slot < 16 ∧ s.dev.driftFitted p = true ∧ s.dev.flag (DR_CTRL_enable p) = true ∧ s.dev.gridState ≠ 0 ∧ readWire bytes = none := by decide +kernel
theorem wit_cellsAreReceived_1 : (let p : Nat := 0; let l : Nat := 31; let slot : Nat := 15; let s : State := st net; let c := cellC 0 0 1 2; p < 6 ∧ l < 32 ∧ slot < 16 ∧ s.dev.driftFitted p = true ∧ s.dev.flag (DR_CTRL_enable p) = true ∧ s.dev.gridState ≠ 0 ∧ s.dev.gridServes = true ∧ c.hopDst ≠ s.dev.coordOn p) ∧ readWire (cellC 0 0 1 2).wire = some (cellC 0 0 1 2) := ⟨by decide +kernel, readWire_wire _ (by decide +kernel)⟩
theorem wit_cellsAreReceived_2 : (let p : Nat := 0; let l : Nat := 1; let slot : Nat := 15; let s : State := st net; let c := { cellC 0 with op := 2 * 2 ^ 28 }; p < 6 ∧ l < 32 ∧ slot < 16 ∧ s.dev.driftFitted p = true ∧ s.dev.flag (DR_CTRL_enable p) = true ∧ s.dev.gridState ≠ 0 ∧ s.dev.gridServes = true ∧ c.hopDst = s.dev.coordOn p ∧ s.dev.accepts p c = true ∧ c.listed = true ∧ (4 ≤ c.cls ∨ c.dst = s.dev.fid) ∧ (c.cls = 4 → s.dev.bellElsewhere c = false)) ∧ readWire { cellC 0 with op := 2 * 2 ^ 28 }.wire = some ({ cellC 0 with op := 2 * 2 ^ 28 }) := ⟨by decide +kernel, readWire_wire _ (by decide +kernel)⟩
theorem wit_cellsAreReceived_2_b : (let p : Nat := 0; let l : Nat := 31; let slot : Nat := 4; let s : State := st net; let c := (bellC 0x30 (remC 0x0105)).cell; p < 6 ∧ l < 32 ∧ slot < 16 ∧ s.dev.driftFitted p = true ∧ s.dev.flag (DR_CTRL_enable p) = true ∧ s.dev.gridState ≠ 0 ∧ s.dev.gridServes = true ∧ c.hopDst = s.dev.coordOn p ∧ s.dev.accepts p c = true ∧ c.listed = true ∧ (4 ≤ c.cls ∨ c.dst = s.dev.fid) ∧ (c.cls = 4 → s.dev.bellElsewhere c = false)) ∧ readWire (bellC 0x30 (remC 0x0105)).cell.wire = some ((bellC 0x30 (remC 0x0105)).cell) := ⟨by decide +kernel, readWire_wire _ (by decide +kernel)⟩
theorem wit_cellsAreReceived_3 : (let p : Nat := 0; let l : Nat := 1; let slot : Nat := 15; let s : State := st net; let c := { cellC 1 7 with op := 2 * 2 ^ 28 }; p < 6 ∧ l < 32 ∧ slot < 16 ∧ s.dev.driftFitted p = true ∧ s.dev.flag (DR_CTRL_enable p) = true ∧ s.dev.gridState ≠ 0 ∧ s.dev.gridServes = true ∧ c.hopDst = s.dev.coordOn p ∧ s.dev.accepts p c = true ∧ c.cls < 4 ∧ c.dst ≠ s.dev.fid ∧ s.dev.selfFenced = false ∧ c.hops = 7) ∧ readWire { cellC 1 7 with op := 2 * 2 ^ 28 }.wire = some ({ cellC 1 7 with op := 2 * 2 ^ 28 }) := ⟨by decide +kernel, readWire_wire _ (by decide +kernel)⟩
theorem wit_cellsAreReceived_6 : (let p : Nat := 0; let l : Nat := 30; let slot : Nat := 15; let s : State := st net; let c := { cellC 1 6 with op := 2 * 2 ^ 28 }; p < 6 ∧ l < 32 ∧ slot < 16 ∧ s.dev.driftFitted p = true ∧ s.dev.flag (DR_CTRL_enable p) = true ∧ s.dev.gridState ≠ 0 ∧ s.dev.gridServes = true ∧ c.hopDst = s.dev.coordOn p ∧ s.dev.accepts p c = true ∧ c.cls < 4 ∧ c.dst ≠ s.dev.fid ∧ s.dev.selfFenced = false ∧ c.hops < 7 ∧ s.dev.routable c.epoch c.cls c.dst = true) ∧ readWire { cellC 1 6 with op := 2 * 2 ^ 28 }.wire = some ({ cellC 1 6 with op := 2 * 2 ^ 28 }) := ⟨by decide +kernel, readWire_wire _ (by decide +kernel)⟩
theorem wit_bellCarriesRecordsAndCredit_0 : let p : Nat := 0; let slot : Nat := 0; let f : Nat := 0; let c : Nat := 1; let y : Nat := 1; let s : State := sBl []; p < 6 ∧ slot < 15 ∧ s.dev.aim p slot (fun _ => some (s.dev.bellSlot p slot)) = some (f, c, y) ∧ s.dev.bellLane p c = true ∧ s.dev.isZb p = false := by decide +kernel
theorem wit_bellCarriesRecordsAndCredit_2 : let p : Nat := 0; let slot : Nat := 0; let f : Nat := 0; let c : Nat := 1; let y : Nat := 1; let s : State := sBl [bl 0x30, bl 1]; let b := bl 1; p < 6 ∧ slot < 15 ∧ s.dev.aim p slot (fun _ => some (s.dev.bellSlot p slot)) = some (f, c, y) ∧ s.dev.bellLane p c = true ∧ bestBell (s.dev.bellsFor p y) = some b := by decide +kernel
theorem wit_bellCarriesRecordsAndCredit_3 : let p : Nat := 0; let slot : Nat := 0; let f : Nat := 0; let c : Nat := 1; let y : Nat := 1; let s : State := sBl []; p < 6 ∧ slot < 15 ∧ s.dev.aim p slot (fun _ => some (s.dev.bellSlot p slot)) = some (f, c, y) ∧ s.dev.bellLane p c = true ∧ s.dev.bellsFor p y = [] ∧ s.dev.mayBell p y 9 = true := by decide +kernel
theorem wit_bellCarriesRecordsAndCredit_4 : let rx : Nat := 5; let s : State := sB 9 []; let r : RxCell := bellC 9 []; (s.dev.rxCell rx = some r ∧ r.cell.cls = 4 ∧ r.cell.bellKind = 9) := by decide +kernel
theorem wit_misdeliveriesAreNoticed_0 : let id : Nat := 8; let s : State := st { net with net := { notices := [⟨8, 0, 31, 15, 15, 700, 1, zeros 16⟩] } }; let n : Notice := ⟨8, 0, 31, 15, 15, 700, 1, zeros 16⟩; s.dev.net.notices.find? (fun x => x.id == id) = some n := by decide +kernel
theorem wit_misdeliveriesAreNoticed_1 : let rx : Nat := 5; let s : State := sB 5 misC; let r : RxCell := bellC 5 misC; let pl := r.cell.payload; let p := leAt pl 4 1; let l := leAt pl 5 1; (s.dev.rxCell rx = some r ∧ r.cell.cls = 4 ∧ r.cell.bellKind = 5) ∧ p < 6 ∧ l < 32 := by decide +kernel
theorem wit_contoursCommit_0 : let n : Nat := 2; let l : Nat := 31; let t : Int := 0; let s : State := st (mk [(DR_CTRL_enable 2, 1)] net); n < 6 ∧ l < 32 ∧ s.dev.driftFitted n = true ∧ s.dev.flag (DR_CTRL_enable n) = true ∧ highest ((laneSensors l).filterMap (s.dev.driftSensor n)) = some t := by decide +kernel
theorem wit_contoursCommit_0_b : let n : Nat := 2; let l : Nat := 31; let t : Int := 1174; let s : State := st (dl 2 31 2 (fun x => { x with tPrev := some 2 }) (mk ((List.range 8).map fun j => (TM_SENS_temp 19 j, 1174)) net)); n < 6 ∧ l < 32 ∧ s.dev.driftFitted n = true ∧ s.dev.flag (DR_CTRL_enable n) = true ∧ highest ((laneSensors l).filterMap (s.dev.driftSensor n)) = some t := by decide +kernel
theorem wit_contoursCommit_2 : let n : Nat := 2; let v : Word64 := 1; let s : State := st (mk [(DR_CONTOUR_FRAME_frame 2, 128)] net); (n < 6 ∧ (s).dev.ready = true ∧ (s).dev.driftFitted n = true ∧ (s).dev.inBatch (DR_CONTOUR_CTRL n) = false) ∧ bitAt v.toNat 0 = true ∧ bitAt v.toNat 1 = false ∧ s.dev.fld (DR_CONTOUR_CTRL_state n) = 0 ∧ s.dev.frame + 128 ≤ s.dev.fld (DR_CONTOUR_FRAME_frame n) := by decide +kernel
theorem wit_contoursCommit_3 : let n : Nat := 2; let v : Word64 := 1; let s : State := st (mk [(DR_CONTOUR_FRAME_frame 2, 127)] net); (n < 6 ∧ (s).dev.ready = true ∧ (s).dev.driftFitted n = true ∧ (s).dev.inBatch (DR_CONTOUR_CTRL n) = false) ∧ bitAt v.toNat 0 = true ∧ bitAt v.toNat 1 = false ∧ s.dev.fld (DR_CONTOUR_CTRL_state n) = 0 ∧ s.dev.fld (DR_CONTOUR_FRAME_frame n) < s.dev.frame + 128 := by decide +kernel
theorem wit_contoursCommit_4 : let n : Nat := 2; let v : Word64 := 1; let s : State := st (mk [(DR_CONTOUR_CTRL_state 2, 2)] net); (n < 6 ∧ (s).dev.ready = true ∧ (s).dev.driftFitted n = true ∧ (s).dev.inBatch (DR_CONTOUR_CTRL n) = false) ∧ bitAt v.toNat 0 = true ∧ bitAt v.toNat 1 = false ∧ s.dev.fld (DR_CONTOUR_CTRL_state n) ≠ 0 := by decide +kernel
theorem wit_contoursCommit_5 : let n : Nat := 2; let v : Word64 := 2; let s : State := st (mk [(DR_CONTOUR_CTRL_state 2, 1)] (dd 2 { armedAt := 1 } (fr 128))); (n < 6 ∧ (s).dev.ready = true ∧ (s).dev.driftFitted n = true ∧ (s).dev.inBatch (DR_CONTOUR_CTRL n) = false) ∧ bitAt v.toNat 0 = false ∧ bitAt v.toNat 1 = true ∧ s.dev.fld (DR_CONTOUR_CTRL_state n) = 1 ∧ s.dev.frame < (s.dev.drift n).armedAt + 128 := by decide +kernel
theorem wit_contoursCommit_6 : let n : Nat := 2; let v : Word64 := 2; let s : State := st (mk [(DR_CONTOUR_CTRL_state 2, 1)] (dd 2 { armedAt := 1 } (fr 129))); (n < 6 ∧ (s).dev.ready = true ∧ (s).dev.driftFitted n = true ∧ (s).dev.inBatch (DR_CONTOUR_CTRL n) = false) ∧ bitAt v.toNat 0 = false ∧ bitAt v.toNat 1 = true ∧ s.dev.fld (DR_CONTOUR_CTRL_state n) = 1 ∧ (s.dev.drift n).armedAt + 128 ≤ s.dev.frame := by decide +kernel
theorem wit_contoursCommit_7 : let n : Nat := 2; let s : State := st (mk [(DR_CONTOUR_CTRL_state 2, 1), (DR_CONTOUR_FRAME_frame 2, 129)] ((fr 129).setReg (contourNext 2) 77)); n < 6 ∧ s.dev.fld (DR_CONTOUR_CTRL_state n) = 1 ∧ s.dev.fld (DR_CONTOUR_FRAME_frame n) ≤ s.dev.frame := by decide +kernel
theorem wit_contoursCommit_8 : let n : Nat := 2; let s : State := st (mk [(DR_CONTOUR_CTRL_state 2, 2), (DR_CONTOUR_FRAME_frame 2, 129)] ((fr 129).setReg (contourActive 2) 77)); n < 6 ∧ s.dev.fld (DR_CONTOUR_CTRL_state n) = 2 := by decide +kernel
theorem wit_lanesRecalibrate_0 : let n : Nat := 2; let l : Nat := 29; let s : State := st (dl 2 29 2 fun x => { x with wantRecal := true }); let x := (s.dev.drift n).lane l; n < 6 ∧ l < 32 ∧ s.dev.laneState n l = 2 ∧ x.wantRecal = true ∧ s.dev.mayRecal n l = true := by decide +kernel
theorem wit_lanesRecalibrate_1 : let n : Nat := 2; let l : Nat := 31; let s : State := st (dl 2 31 2 fun x => { x with wantRecal := true }); let x := (s.dev.drift n).lane l; n < 6 ∧ l < 32 ∧ s.dev.laneState n l = 2 ∧ (x.wantRecal = false ∨ s.dev.mayRecal n l = false) := by decide +kernel
theorem wit_lanesRecalibrate_2 : let n : Nat := 2; let l : Nat := 29; let s : State := st (dl 2 29 2 id (mk [(DR_CTRL_auto_recal 2, 1), (DR_RECAL_PERIOD_seconds 2, 1)] (fr 5000000))); let x := (s.dev.drift n).lane l; n < 6 ∧ l < 32 ∧ s.dev.laneState n l = 2 ∧ s.dev.flag (DR_CTRL_enable n) = true ∧ s.dev.flag (DR_CTRL_auto_recal n) = true ∧ recalPoints (s.dev.recalPeriod n) l x.lastRecal < recalPoints (s.dev.recalPeriod n) l s.dev.frame := by decide +kernel
theorem wit_lanesRecalibrate_5 : let n : Nat := 2; let l : Nat := 31; let w : List ColourSweep := List.replicate 15 ⟨3, 7, 8⟩ ++ [⟨-6, 7, 8⟩]; let s : State := st (dl 2 31 4); n < 6 ∧ l < 32 ∧ s.dev.laneState n l = 4 ∧ ((s.dev.drift n).lane l).returnAt = none ∧ w.length = 16 := by decide +kernel
theorem wit_lanesRecalibrate_6 : let n : Nat := 2; let l : Nat := 31; let w : List ColourSweep := List.replicate 16 ⟨-2, 7, 8⟩; let s : State := st (dl 2 31 4); n < 6 ∧ l < 32 ∧ s.dev.laneState n l = 4 ∧ ((s.dev.drift n).lane l).returnAt = none ∧ w.length = 16 ∧ (∀ x ∈ w, x.error.natAbs ≤ 2) := by decide +kernel
theorem wit_lanesRecalibrate_7 : let n : Nat := 2; let l : Nat := 31; let w : List ColourSweep := List.replicate 16 ⟨6, 7, 8⟩; let s : State := st (dl 2 31 4); n < 6 ∧ l < 32 ∧ s.dev.laneState n l = 4 ∧ ((s.dev.drift n).lane l).returnAt = none ∧ w.length = 16 ∧ (∀ x ∈ w, 5 < x.error.natAbs) := by decide +kernel
theorem wit_lanesRecalibrate_8 : let n : Nat := 2; let l : Nat := 31; let f : Nat := 128; let e : Nat := contourEntries - 1; let v : Word64 := 99; let s : State := st (dl 2 31 4 (fun x => { x with returnAt := some 128, written := [(contourEntries - 1, 99)] }) (fr 128)); n < 6 ∧ l < 32 ∧ s.dev.laneState n l = 4 ∧ ((s.dev.drift n).lane l).returnAt = some f ∧ f ≤ s.dev.frame ∧ ((s.dev.drift n).lane l).written = [(e, v)] ∧ e < contourEntries := by decide +kernel
theorem wit_portsHoldAndRelease_0 : let n : Nat := 2; let t : Int := 0; let o : Int := 5; let s : State := st (dd 2 { chip := List.replicate 25 5 }); n < 6 ∧ s.dev.driftFitted n = true ∧ highest ((List.range 8).filterMap (s.dev.driftSensor n)) = some t ∧ (s.dev.drift n).chip[24]? = some o := by decide +kernel
theorem wit_portsHoldAndRelease_1 : let n : Nat := 2; let t : Int := 0; let o : Int := -6; let s : State := st (dd 2 { chip := List.replicate 25 (-6) } (mk [(DR_THRESH_hold_slope 2, 5)] net)); n < 6 ∧ s.dev.driftFitted n = true ∧ highest ((List.range 8).filterMap (s.dev.driftSensor n)) = some t ∧ (s.dev.drift n).chip[24]? = some o ∧ s.dev.flag (DR_CTRL_enable n) = true ∧ s.dev.fld (DR_THRESH_hold_slope n) * 4 < (4 * (t - o)).natAbs ∧ (s.dev.drift n).holding = false := by decide +kernel
theorem wit_portsHoldAndRelease_2 : let n : Nat := 2; let t : Int := 0; let o : Int := -3; let s : State := st (dd 2 { chip := List.replicate 25 (-3) } (mk [(DR_THRESH_hold_slope 2, 5), (DR_THRESH_release_slope 2, 3)] net)); n < 6 ∧ s.dev.driftFitted n = true ∧ highest ((List.range 8).filterMap (s.dev.driftSensor n)) = some t ∧ (s.dev.drift n).chip[24]? = some o ∧ s.dev.flag (DR_CTRL_enable n) = true ∧ (4 * (t - o)).natAbs ≤ s.dev.fld (DR_THRESH_hold_slope n) * 4 ∧ (4 * (t - o)).natAbs ≤ s.dev.fld (DR_THRESH_release_slope n) * 4 := by decide +kernel
theorem wit_portsHoldAndRelease_3 : let n : Nat := 2; let s : State := st (dl 2 31 3 id (dd 2 { holding := true, calm := 10 })); n < 6 ∧ (s.dev.drift n).holding = true ∧ (s.dev.drift n).releasing = false ∧ 10 ≤ (s.dev.drift n).calm := by decide +kernel
theorem wit_portsHoldAndRelease_4 : let n : Nat := 2; let l : Nat := 31; let s : State := st (dl 2 31 3 fun x => { x with cold := true, okFor := 10 }); n < 6 ∧ l < 32 ∧ s.dev.laneState n l = 3 ∧ ((s.dev.drift n).lane l).cold = true ∧ 10 ≤ ((s.dev.drift n).lane l).okFor ∧ ((s.dev.drift n).holding = false ∨ 10 ≤ (s.dev.drift n).calm) := by decide +kernel
theorem wit_portsHoldAndRelease_5 : let n : Nat := 2; let l : Nat := 31; let pass : Bool := true; let s : State := st (dl 2 31 3 fun x => { x with checking := true }); n < 6 ∧ l < 32 ∧ s.dev.laneState n l = 3 ∧ ((s.dev.drift n).lane l).checking = true ∧ (s.dev.drift n).holding = false ∧ pass = true ∧ ((s.dev.drift n).lane l).discarded = false := by decide +kernel
theorem wit_portsHoldAndRelease_6 : let n : Nat := 2; let l : Nat := 29; let pass : Bool := false; let s : State := st (dl 2 29 3 fun x => { x with checking := true }); n < 6 ∧ l < 32 ∧ s.dev.laneState n l = 3 ∧ ((s.dev.drift n).lane l).checking = true ∧ (s.dev.drift n).holding = false ∧ (pass = false ∨ ((s.dev.drift n).lane l).discarded = true) ∧ s.dev.mayRecal n l = true := by decide +kernel
theorem wit_portsHoldAndRelease_7 : let n : Nat := 2; let l : Nat := 31; let pass : Bool := false; let s : State := st (dl 2 31 3 fun x => { x with checking := true }); n < 6 ∧ l < 32 ∧ s.dev.laneState n l = 3 ∧ ((s.dev.drift n).lane l).checking = true ∧ (s.dev.drift n).holding = false ∧ (pass = false ∨ ((s.dev.drift n).lane l).discarded = true) ∧ s.dev.mayRecal n l = false := by decide +kernel
theorem wit_lanesTakeTheirStates_0 : let n : Nat := 3; let v : Word64 := 1; let s : State := st host; (n < 6 ∧ (s).dev.ready = true ∧ (s).dev.driftFitted n = true ∧ (s).dev.inBatch (DR_CTRL n) = false) ∧ s.dev.flag (DR_CTRL_enable n) = false ∧ bitAt v.toNat 0 = true ∧ (s.dev.drift n).loaded = false := by decide +kernel
theorem wit_lanesTakeTheirStates_1 : let n : Nat := 3; let v : Word64 := 3; let s : State := st (dd 3 { loaded := true } (mk [(DR_LANE_CTRL_disable 3 31, 1)] host)); (n < 6 ∧ (s).dev.ready = true ∧ (s).dev.driftFitted n = true ∧ (s).dev.inBatch (DR_CTRL n) = false) ∧ s.dev.flag (DR_CTRL_enable n) = false ∧ bitAt v.toNat 0 = true ∧ (s.dev.drift n).loaded = true ∧ s.dev.keepsDark n = false := by decide +kernel
theorem wit_lanesTakeTheirStates_3 : let n : Nat := 2; let v : Word64 := 0; let s : State := st net; (n < 6 ∧ (s).dev.ready = true ∧ (s).dev.driftFitted n = true ∧ (s).dev.inBatch (DR_CTRL n) = false) ∧ s.dev.flag (DR_CTRL_enable n) = true ∧ bitAt v.toNat 0 = false := by decide +kernel
theorem wit_lanesTakeTheirStates_4 : let n : Nat := 2; let l : Nat := 31; let s : State := st (dl 2 31 1); n < 6 ∧ l < 32 ∧ s.dev.laneState n l = 1 ∧ ((s.dev.drift n).lane l).checked = none := by decide +kernel
theorem wit_lanesTakeTheirStates_5 : let n : Nat := 2; let l : Nat := 29; let s : State := st (dl 2 29 1); n < 6 ∧ l < 32 ∧ s.dev.laneState n l = 1 ∧ ((s.dev.drift n).lane l).checked = none ∧ s.dev.mayRecal n l = true := by decide +kernel
theorem wit_lanesTakeTheirStates_7 : let p : Nat := 2; let s : State := st net; p < 6 ∧ s.dev.driftFitted p = true ∧ s.dev.flag (DR_CTRL_enable p) = true ∧ p ∉ s.dev.fab.looped ∧ (∀ l < 32, s.dev.laneState p l ≠ 1 ∧ s.dev.laneState p l ≠ 3 ∧ s.dev.laneState p l ≠ 4) ∧ (∃ l < 32, s.dev.laneState p l = 2) := by decide +kernel
theorem wit_lanesTakeTheirStates_8 : let n : Nat := 2; let l : Nat := 29; let v : Word64 := 2; let s : State := st (dl 2 29 2); (n < 6 ∧ (s).dev.ready = true ∧ (s).dev.driftFitted n = true ∧ (s).dev.inBatch (DR_LANE_CTRL n l) = false) ∧ l < 32 ∧ s.dev.flag (DR_LANE_CTRL_disable n l) = false ∧ s.dev.laneState n l = 2 ∧ bitAt v.toNat 0 = false ∧ bitAt v.toNat 1 = true ∧ bitAt v.toNat 2 = false ∧ s.dev.mayRecal n l = true := by decide +kernel
theorem wit_lanesTakeTheirStates_9 : let n : Nat := 2; let l : Nat := 31; let v : Word64 := 2; let s : State := st net; (n < 6 ∧ (s).dev.ready = true ∧ (s).dev.driftFitted n = true ∧ (s).dev.inBatch (DR_LANE_CTRL n l) = false) ∧ l < 32 ∧ s.dev.flag (DR_LANE_CTRL_disable n l) = false ∧ s.dev.laneState n l = 2 ∧ bitAt v.toNat 0 = false ∧ bitAt v.toNat 1 = true ∧ bitAt v.toNat 2 = false ∧ s.dev.mayRecal n l = false := by decide +kernel
theorem wit_lanesTakeTheirStates_10 : let n : Nat := 2; let l : Nat := 29; let v : Word64 := 4; let s : State := st (dl 2 29 2); (n < 6 ∧ (s).dev.ready = true ∧ (s).dev.driftFitted n = true ∧ (s).dev.inBatch (DR_LANE_CTRL n l) = false) ∧ l < 32 ∧ s.dev.flag (DR_LANE_CTRL_disable n l) = false ∧ s.dev.laneState n l = 2 ∧ bitAt v.toNat 0 = false ∧ bitAt v.toNat 2 = true ∧ s.dev.mayRecal n l = true := by decide +kernel
theorem wit_lanesTakeTheirStates_14 : let n : Nat := 2; let l : Nat := 31; let v : Word64 := 1; let s : State := st net; (n < 6 ∧ (s).dev.ready = true ∧ (s).dev.driftFitted n = true ∧ (s).dev.inBatch (DR_LANE_CTRL n l) = false) ∧ l < 32 ∧ s.dev.flag (DR_LANE_CTRL_disable n l) = false ∧ bitAt v.toNat 0 = true ∧ s.dev.laneState n l = 2 := by decide +kernel
theorem wit_lanesTakeTheirStates_17 : let n : Nat := 2; let l : Nat := 31; let v : Word64 := 0; let s : State := st (mk [(DR_LANE_CTRL_disable 2 31, 1), (FB_LOOP_fail 2, 2 ^ 31)] net); (n < 6 ∧ (s).dev.ready = true ∧ (s).dev.driftFitted n = true ∧ (s).dev.inBatch (DR_LANE_CTRL n l) = false) ∧ l < 32 ∧ s.dev.flag (DR_LANE_CTRL_disable n l) = true ∧ bitAt v.toNat 0 = false ∧ s.dev.flag (DR_CTRL_enable n) = true ∧ s.dev.bit (FB_LOOP_fail n) l = true := by decide +kernel
theorem wit_cellsAreReceived_4 : (let p : Nat := 0; let l : Nat := 1; let slot : Nat := 15; let s : State := st net; let c := { cellC 9 6 with op := 2 * 2 ^ 28 }; p < 6 ∧ l < 32 ∧ slot < 16 ∧ s.dev.driftFitted p = true ∧ s.dev.flag (DR_CTRL_enable p) = true ∧ s.dev.gridState ≠ 0 ∧ s.dev.gridServes = true ∧ c.hopDst = s.dev.coordOn p ∧ s.dev.accepts p c = true ∧ c.cls < 4 ∧ c.dst ≠ s.dev.fid ∧ s.dev.selfFenced = false ∧ c.hops < 7 ∧ s.dev.routable c.epoch c.cls c.dst = false) ∧ readWire { cellC 9 6 with op := 2 * 2 ^ 28 }.wire = some ({ cellC 9 6 with op := 2 * 2 ^ 28 }) := ⟨by decide +kernel, readWire_wire _ (by decide +kernel)⟩
theorem wit_cellsAreReceived_5 : (let p : Nat := 0; let l : Nat := 31; let slot : Nat := 15; let s : State := st net; let c := { (bellC 0x21 [1]).cell with dst := 101 }; p < 6 ∧ l < 32 ∧ slot < 16 ∧ s.dev.driftFitted p = true ∧ s.dev.flag (DR_CTRL_enable p) = true ∧ s.dev.gridState ≠ 0 ∧ s.dev.gridServes = true ∧ c.hopDst = s.dev.coordOn p ∧ s.dev.accepts p c = true ∧ c.cls = 4 ∧ 0x20 ≤ c.bellKind ∧ c.bellKind < 0x30 ∧ c.dst ≠ s.dev.fid ∧ c.dst ≠ noFid ∧ c.hops < 6) ∧ readWire { (bellC 0x21 [1]).cell with dst := 101 }.wire = some ({ (bellC 0x21 [1]).cell with dst := 101 }) := ⟨by decide +kernel, readWire_wire _ (by decide +kernel)⟩
theorem wit_cellsAreReceived_7 : (let p : Nat := 0; let l : Nat := 31; let slot : Nat := 15; let s : State := st (gs 2); let c := rngW; p < 6 ∧ l < 32 ∧ slot < 16 ∧ s.dev.driftFitted p = true ∧ s.dev.flag (DR_CTRL_enable p) = true ∧ s.dev.gridState ≠ 0 ∧ c.hopDst = s.dev.coordOn p ∧ c.cls = 5 ∧ s.dev.gridState = 2) ∧ readWire rngW.wire = some rngW := ⟨by decide +kernel, readWire_wire _ (by decide +kernel)⟩
theorem wit_cellsAreReceived_8 : (let p : Nat := 0; let l : Nat := 31; let slot : Nat := 15; let s : State := st (gs 1); let c := rngW; p < 6 ∧ l < 32 ∧ slot < 16 ∧ s.dev.driftFitted p = true ∧ s.dev.flag (DR_CTRL_enable p) = true ∧ s.dev.gridState ≠ 0 ∧ c.hopDst = s.dev.coordOn p ∧ c.cls = 5 ∧ s.dev.gridState = 1) ∧ readWire rngW.wire = some rngW := ⟨by decide +kernel, readWire_wire _ (by decide +kernel)⟩
theorem wit_cellsAreReceived_9 : (let p : Nat := 0; let l : Nat := 31; let slot : Nat := 15; let s : State := st (gd { heard := true, heardFrame := some 9, bellRun := [(1, 15)] } (gs 1)); let c := (bellC 1 (annC 6)).cell; let o := 9; p < 6 ∧ l < 32 ∧ slot < 16 ∧ s.dev.driftFitted p = true ∧ s.dev.flag (DR_CTRL_enable p) = true ∧ s.dev.gridState ≠ 0 ∧ c.hopDst = s.dev.coordOn p ∧ c.cls = 4 ∧ l = 31 ∧ s.dev.gridState = 1 ∧ s.dev.grid.heard = true ∧ s.dev.grid.heardFrame = some o ∧ 15 ≤ cntGet s.dev.grid.bellRun (p * 16 + c.hopSrc)) ∧ readWire (bellC 1 (annC 6)).cell.wire = some ((bellC 1 (annC 6)).cell) := ⟨by decide +kernel, readWire_wire _ (by decide +kernel)⟩
theorem wit_contoursCommit_1 : let n : Nat := 2; let l : Nat := 31; let s : State := st (mk [(DR_CTRL_enable 2, 0)] net); n < 6 ∧ l < 32 ∧ s.dev.driftFitted n = true ∧ s.dev.flag (DR_CTRL_enable n) = false := by decide +kernel
theorem wit_lanesRecalibrate_3 : let n : Nat := 2; let l : Nat := 29; let s : State := st (dl 2 29 5 fun x => { x with wantRecal := true }); n < 6 ∧ l < 32 ∧ ((s.dev.drift n).lane l).wantRecal = true ∧ s.dev.mayRecal n l = true ∧ (s.dev.laneState n l = 5 ∨ (s.dev.laneState n l = 1 ∧ ((s.dev.drift n).lane l).checked = some false) ∨ (s.dev.laneState n l = 3 ∧ (s.dev.drift n).holding = false ∧ ((s.dev.drift n).lane l).cold = false)) := by decide +kernel
theorem wit_lanesRecalibrate_3_b : let n : Nat := 2; let l : Nat := 29; let s : State := st (dl 2 29 3 fun x => { x with wantRecal := true }); n < 6 ∧ l < 32 ∧ ((s.dev.drift n).lane l).wantRecal = true ∧ s.dev.mayRecal n l = true ∧ (s.dev.laneState n l = 5 ∨ (s.dev.laneState n l = 1 ∧ ((s.dev.drift n).lane l).checked = some false) ∨ (s.dev.laneState n l = 3 ∧ (s.dev.drift n).holding = false ∧ ((s.dev.drift n).lane l).cold = false)) := by decide +kernel
theorem wit_lanesRecalibrate_3_c : let n : Nat := 2; let l : Nat := 29; let s : State := st (dl 2 29 1 fun x => { x with wantRecal := true, checked := some false }); n < 6 ∧ l < 32 ∧ ((s.dev.drift n).lane l).wantRecal = true ∧ s.dev.mayRecal n l = true ∧ (s.dev.laneState n l = 5 ∨ (s.dev.laneState n l = 1 ∧ ((s.dev.drift n).lane l).checked = some false) ∨ (s.dev.laneState n l = 3 ∧ (s.dev.drift n).holding = false ∧ ((s.dev.drift n).lane l).cold = false)) := by decide +kernel
theorem wit_lanesRecalibrate_4 : let n : Nat := 2; let l : Nat := 29; let s : State := st (dl 2 29 5); s.dev.laneState n l = 5 := by decide +kernel
theorem wit_portsHoldAndRelease_8 : let n : Nat := 2; let l : Nat := 29; let s : State := st ((dl 2 29 3 fun x => { x with checking := true }).modDrift 2 fun x => { x with holding := true }); let other := ∃ j < 32, j ≠ l ∧ s.dev.laneState n j = 3 ∧ ((s.dev.drift n).lane j).cold = false ∧ ((s.dev.drift n).lane j).checking = true; n < 6 ∧ l < 32 ∧ s.dev.laneState n l = 3 ∧ ((s.dev.drift n).lane l).checking = true ∧ (s.dev.drift n).holding = true ∧ ((s.dev.drift n).releasing = false ∨ other) := by decide +kernel
theorem wit_portsHoldAndRelease_9 : let n : Nat := 2; let l : Nat := 29; let s : State := st ((dl 2 29 3 fun x => { x with checking := true }).modDrift 2 fun x => { x with holding := true, releasing := true }); let other := ∃ j < 32, j ≠ l ∧ s.dev.laneState n j = 3 ∧ ((s.dev.drift n).lane j).cold = false ∧ ((s.dev.drift n).lane j).checking = true; n < 6 ∧ l < 32 ∧ s.dev.laneState n l = 3 ∧ ((s.dev.drift n).lane l).checking = true ∧ (s.dev.drift n).holding = true ∧ (s.dev.drift n).releasing = true ∧ ¬ other := by decide +kernel
theorem wit_lanesTakeTheirStates_2 : let n : Nat := 4; let v : Word64 := 1; let s : State := st (dd 4 { loaded := true } { net with fab := { net.fab with map := some { fmap with twoD := true } } }); (n < 6 ∧ (s).dev.ready = true ∧ (s).dev.driftFitted n = true ∧ (s).dev.inBatch (DR_CTRL n) = false) ∧ s.dev.flag (DR_CTRL_enable n) = false ∧ bitAt v.toNat 0 = true ∧ (s.dev.drift n).loaded = true ∧ s.dev.keepsDark n = true := by decide +kernel
theorem wit_lanesTakeTheirStates_6 : let n : Nat := 2; let l : Nat := 31; let s : State := st (dl 2 31 1); n < 6 ∧ l < 32 ∧ s.dev.laneState n l = 1 ∧ ((s.dev.drift n).lane l).checked = none ∧ s.dev.mayRecal n l = false := by decide +kernel
theorem wit_lanesTakeTheirStates_11 : let n : Nat := 2; let l : Nat := 29; let v : Word64 := 2; let s : State := st (dl 2 29 5); (n < 6 ∧ (s).dev.ready = true ∧ (s).dev.driftFitted n = true ∧ (s).dev.inBatch (DR_LANE_CTRL n l) = false) ∧ l < 32 ∧ s.dev.laneState n l = 5 ∧ bitAt v.toNat 0 = s.dev.flag (DR_LANE_CTRL_disable n l) ∧ bitAt v.toNat 1 = true ∧ s.dev.mayRecal n l = true := by decide +kernel
theorem wit_lanesTakeTheirStates_12 : let n : Nat := 2; let l : Nat := 31; let v : Word64 := 2; let s : State := st (dl 2 31 5); (n < 6 ∧ (s).dev.ready = true ∧ (s).dev.driftFitted n = true ∧ (s).dev.inBatch (DR_LANE_CTRL n l) = false) ∧ l < 32 ∧ s.dev.laneState n l = 5 ∧ bitAt v.toNat 0 = s.dev.flag (DR_LANE_CTRL_disable n l) ∧ bitAt v.toNat 1 = true ∧ s.dev.mayRecal n l = false := by decide +kernel
theorem wit_lanesTakeTheirStates_13 : let n : Nat := 2; let l : Nat := 31; let v : Word64 := 4; let s : State := st (dl 2 31 5); (n < 6 ∧ (s).dev.ready = true ∧ (s).dev.driftFitted n = true ∧ (s).dev.inBatch (DR_LANE_CTRL n l) = false) ∧ l < 32 ∧ s.dev.laneState n l = 5 ∧ bitAt v.toNat 0 = s.dev.flag (DR_LANE_CTRL_disable n l) ∧ bitAt v.toNat 1 = false ∧ bitAt v.toNat 2 = true := by decide +kernel
theorem wit_lanesTakeTheirStates_15 : let n : Nat := 2; let l : Nat := 29; let v : Word64 := 1; let s : State := st (dl 2 29 1); (n < 6 ∧ (s).dev.ready = true ∧ (s).dev.driftFitted n = true ∧ (s).dev.inBatch (DR_LANE_CTRL n l) = false) ∧ l < 32 ∧ s.dev.flag (DR_LANE_CTRL_disable n l) = false ∧ bitAt v.toNat 0 = true ∧ s.dev.laneState n l ≠ 2 ∧ bitAt v.toNat 1 = false ∧ bitAt v.toNat 2 = false := by decide +kernel
theorem wit_lanesTakeTheirStates_16 : let n : Nat := 2; let l : Nat := 29; let v : Word64 := 0; let s : State := st (dl 2 29 6 id (mk [(DR_LANE_CTRL_disable 2 29, 1)] net)); (n < 6 ∧ (s).dev.ready = true ∧ (s).dev.driftFitted n = true ∧ (s).dev.inBatch (DR_LANE_CTRL n l) = false) ∧ l < 32 ∧ s.dev.flag (DR_LANE_CTRL_disable n l) = true ∧ bitAt v.toNat 0 = false ∧ s.dev.laneState n l = 6 ∧ s.dev.bit (FB_LOOP_fail n) l = false := by decide +kernel


/-- A Map's bytes: two devices of one row, of a generation and a master. -/
def mapB (gen master : Nat) (ex : Nat := 2) : List Byte :=
  let ents := leBytes 8 100 ++ leBytes 4 0 ++ leBytes 4 0 ++ leBytes 8 101 ++ leBytes 4 1 ++ leBytes 4 0
  leBytes 2 0x4D50 ++ leBytes 2 1 ++ leBytes 4 gen ++ leBytes 4 2 ++ leBytes 4 (1 + ex * 2 ^ 8 + 2 ^ 16 + 2 ^ 24) ++ leBytes 4 0 ++
    leBytes 4 master ++ leBytes 4 0 ++ leBytes 4 0 ++ leBytes 8 (crc64 ents).toNat ++ zeros 24 ++ ents
/-- MAP_LOAD of those bytes for a frame. -/
def mapL (b : List Byte) (f : Nat := 0) : Cmd := cmd 0x0400 [0x4000, b.length, f]
def sMap (b : List Byte) (f : Nat := 0) (d : Dev := cold) : State := sC (mapL b f) (d.hostWrite 0x4000 b)
def old0 : FabMap := mapOf (mapB 4 1)
def nofid : Dev := mk [(FB_CTRL_enable, 1), (CP_STATUS_ready, 0), (FB_ID_id, 0xFFFFF)] { host with fab := { map := some old0 } }
def fb (f : FabSt → FabSt) (d : Dev := net) : Dev := { d with fab := f d.fab }
def evc (op t : Nat) : Cmd := cmd op [t]
def fencedNet : Dev := fb (fun f => { f with live0 := [⟨1, 1⟩], survey := [(1, { reply := some (1, 101, 5) })] }) (mk [(FB_STATUS_map_gen, 5)]
  { net with canary := { heard := [(1, ⟨3, 3, 4, []⟩)] } })
def repC (serial gen : Nat) (digest : Word64 := defaultPlanDigest) : List Byte :=
  leBytes 4 1 ++ [0, 1, 0, 0] ++ leBytes 8 serial ++ leBytes 4 gen ++ leBytes 4 0 ++ leBytes 8 digest.toNat ++ leBytes 4 3
/-- The same, with the digest register written, so that no digest need be computed. -/
def netG : Dev :=
  let d := mk [(FB_STATUS_map_gen, 5)] net
  { d with regs := smSet d.regs (FB_PLAN_DIGEST 0) 77 }
def probeC : List Byte := leBytes 4 1 ++ [0, 0] ++ zeros 10 ++ (List.range 240).map fun i => BitVec.ofNat 8 ((i + 16) ^^^ 0xA5)
def rxOn (l : Nat) (pl : List Byte) (k : Nat) : RxCell := { bellC k pl with lane := l }
def sRx (r : RxCell) (d : Dev := net) : State := st { d with net := { d.net with rx := [r] } }
def planC (p : Nat) (pend : Nat) (f : Nat) (dig : Word64) : List Byte := leBytes 1 p ++ leBytes 1 pend ++ zeros 6 ++ leBytes 8 f ++ leBytes 8 dig.toNat ++ leBytes 8 77 ++ leBytes 4 1
/-- The next plan of port 0 left as it is after reset, in a state and with a switch frame. -/
def pl0 (stt f : Nat) (d : Dev := netG) : Dev := mk [(FB_PLAN_CTRL_state 0, stt), (FB_PLAN_FRAME_frame 0, f)] d
def dig0 : Word64 := netG.nextDigest 0
def ep (t state : Nat) : Epoch := ⟨1, 9, 2000, [⟨t, state⟩]⟩

theorem wit_mapsComeIntoForce_0 : let id : Nat := 21; let s : State := sC (cmd 0x0400 [0x4000, 79, 0]); let c : Cmd := cmd 0x0400 [0x4000, 79, 0]; let len := c.p 1; let l := s.dev.hostRead (c.p 0) len; let right := 80 ≤ len ∧ len ≤ 64 + 16 * 65536 ∧ len = 64 + 16 * leAt l 8 4; (s.dev.findCmd id = some c ∧ c.opcode = 0x0400 ∧ c.phase = .begun) ∧ ¬ right := by decide +kernel
theorem wit_mapsComeIntoForce_1 : let id : Nat := 21; let s : State := sMap (mapB 0 0); let c : Cmd := mapL (mapB 0 0); let len := c.p 1; let l := s.dev.hostRead (c.p 0) len; let right := 80 ≤ len ∧ len ≤ 64 + 16 * 65536 ∧ len = 64 + 16 * leAt l 8 4; (s.dev.findCmd id = some c ∧ c.opcode = 0x0400 ∧ c.phase = .begun) ∧ right ∧ mapRange l = false := by decide +kernel
theorem wit_mapsComeIntoForce_2 : let id : Nat := 21; let s : State := sMap (mapB 5 7); let c : Cmd := mapL (mapB 5 7); let len := c.p 1; let l := s.dev.hostRead (c.p 0) len; let m := mapOf l; let right := 80 ≤ len ∧ len ≤ 64 + 16 * 65536 ∧ len = 64 + 16 * leAt l 8 4; (s.dev.findCmd id = some c ∧ c.opcode = 0x0400 ∧ c.phase = .begun) ∧ right ∧ mapRange l = true ∧ s.dev.mapConsistent m = false := by decide +kernel
theorem wit_mapsComeIntoForce_7 : let s : State := st (mk [(⟨GD_FRAME, 63, 0⟩, 128)] { cold with fab := { mapNext := some ⟨128, old0⟩ } }); let x : MapLoad := ⟨128, old0⟩; s.dev.fab.mapNext = some x ∧ x.frame ≤ s.dev.frame := by decide +kernel
theorem wit_mapsComeIntoForce_8 : let s : State := st (mk [(⟨GD_FRAME, 63, 0⟩, 127)] { cold with fab := { mapNext := some ⟨128, old0⟩ } }); let x : MapLoad := ⟨128, old0⟩; s.dev.fab.mapNext = some x ∧ s.dev.frame < x.frame := by decide +kernel
theorem wit_mapsComeIntoForce_9 : let id : Nat := 21; let s : State := sC (evc 0x0401 3) net; let c : Cmd := evc 0x0401 3; let t := c.p 0 % 2 ^ 20; (s.dev.findCmd id = some c ∧ c.opcode = 0x0401 ∧ c.phase = .begun) ∧ c.id = id ∧ s.dev.inMap t = false := by decide +kernel
theorem wit_mapsComeIntoForce_10 : let id : Nat := 21; let s : State := sC (evc 0x0401 0) net; let c : Cmd := evc 0x0401 0; let t := c.p 0 % 2 ^ 20; (s.dev.findCmd id = some c ∧ c.opcode = 0x0401 ∧ c.phase = .begun) ∧ c.id = id ∧ s.dev.inMap t = true ∧ (t = s.dev.fid ∨ s.dev.fenced t = true) := by decide +kernel
theorem wit_mapsComeIntoForce_11 : let id : Nat := 21; let s : State := sC (evc 0x0401 1) net; let c : Cmd := evc 0x0401 1; let t := c.p 0 % 2 ^ 20; (s.dev.findCmd id = some c ∧ c.opcode = 0x0401 ∧ c.phase = .begun) ∧ c.id = id ∧ s.dev.inMap t = true ∧ t ≠ s.dev.fid ∧ s.dev.fenced t = false ∧ s.dev.announcedFor t 1 = none ∧ (s.dev.fid, s.dev.fab.nextEpochSeq) ∉ s.dev.fab.seen := by decide +kernel
theorem wit_mapsComeIntoForce_12 : let id : Nat := 21; let s : State := sC (evc 0x0402 1) net; let c : Cmd := evc 0x0402 1; let t := c.p 0 % 2 ^ 20; (s.dev.findCmd id = some c ∧ c.opcode = 0x0402 ∧ c.phase = .begun) ∧ c.id = id ∧ s.dev.fenced t = false := by decide +kernel
theorem wit_mapsComeIntoForce_13 : let id : Nat := 21; let s : State := sC (evc 0x0402 1) (fr 515 (fb (fun f => { f with survey := [(1, { reply := some (1, 101, 4) })] }) fencedNet)); let c : Cmd := evc 0x0402 1; let t := c.p 0 % 2 ^ 20; let m := fmap; let e := (⟨101, 1, 0, 0, false⟩ : MapEntry); let x := 1; let h := (⟨3, 3, 4, []⟩ : Heard); let a := 101; let b := 4; (s.dev.findCmd id = some c ∧ c.opcode = 0x0402 ∧ c.phase = .begun) ∧ c.id = id ∧ s.dev.fab.map = some m ∧ m.find t = some e ∧ s.dev.fenced t = true ∧ smFind s.dev.canary.heard t = some h ∧ h.state = 4 ∧ s.dev.frame ≤ h.arrived + 512 ∧ s.dev.replyOf t = some (x, a, b) ∧ t ≠ s.dev.fid ∧ (a ≠ e.serial ∨ b ≠ s.dev.fld FB_STATUS_map_gen) := by decide +kernel
theorem wit_mapsComeIntoForce_14 : let id : Nat := 21; let s : State := sC (evc 0x0402 1) (fr 515 fencedNet); let c : Cmd := evc 0x0402 1; let t := c.p 0 % 2 ^ 20; let m := fmap; let e := (⟨101, 1, 0, 0, false⟩ : MapEntry); let x := 1; let h := (⟨3, 3, 4, []⟩ : Heard); let a := 101; let b := 5; (s.dev.findCmd id = some c ∧ c.opcode = 0x0402 ∧ c.phase = .begun) ∧ c.id = id ∧ s.dev.fab.map = some m ∧ m.find t = some e ∧ s.dev.fenced t = true ∧ smFind s.dev.canary.heard t = some h ∧ h.state = 4 ∧ s.dev.frame ≤ h.arrived + 512 ∧ s.dev.replyOf t = some (x, a, b) ∧ t ≠ s.dev.fid ∧ a = e.serial ∧ b = s.dev.fld FB_STATUS_map_gen ∧ (s.dev.fid, s.dev.fab.nextEpochSeq) ∉ s.dev.fab.seen := by decide +kernel
theorem wit_mapsComeIntoForce_15 : let id : Nat := 21; let s : State := sC (evc 0x0403 1) net; let c : Cmd := evc 0x0403 1; let t := c.p 0 % 2 ^ 20; (s.dev.findCmd id = some c ∧ c.opcode = 0x0403 ∧ c.phase = .begun) ∧ fidSheet t = fidSheet s.dev.fid := by decide +kernel
theorem wit_mapsComeIntoForce_16 : let id : Nat := 21; let s : State := sC (evc 0x0403 0x10001) net; let c : Cmd := evc 0x0403 0x10001; let t := c.p 0 % 2 ^ 20; (s.dev.findCmd id = some c ∧ c.opcode = 0x0403 ∧ c.phase = .begun) ∧ fidSheet t ≠ fidSheet s.dev.fid := by decide +kernel
theorem wit_surveyPlacesPartners_0 : let v : Word64 := 1; let s : State := st host; s.dev.ready = true ∧ s.dev.cp.d3hot = false ∧ s.dev.inBatch FB_CTRL = false ∧ s.dev.flag FB_CTRL_enable = false ∧ bitAt v.toNat 0 = true ∧ bitAt v.toNat 1 = false ∧ s.dev.fab.map = none := by decide +kernel
theorem wit_surveyPlacesPartners_1 : let v : Word64 := 1; let s : State := st { host with fab := { map := some fmap } }; s.dev.ready = true ∧ s.dev.cp.d3hot = false ∧ s.dev.inBatch FB_CTRL = false ∧ s.dev.flag FB_CTRL_enable = false ∧ bitAt v.toNat 0 = true ∧ bitAt v.toNat 1 = false ∧ s.dev.fab.map ≠ none := by decide +kernel
theorem wit_surveyPlacesPartners_2 : let v : Word64 := 0; let s : State := st net; s.dev.ready = true ∧ s.dev.cp.d3hot = false ∧ s.dev.inBatch FB_CTRL = false ∧ s.dev.flag FB_CTRL_enable = true ∧ bitAt v.toNat 0 = false := by decide +kernel
theorem wit_surveyPlacesPartners_3 : let v : Word64 := 3; let s : State := st (fb fun f => { f with survey := [(1, { probeAt := some 3 })] }); s.dev.ready = true ∧ s.dev.cp.d3hot = false ∧ s.dev.inBatch FB_CTRL = false ∧ s.dev.flag FB_CTRL_enable = true ∧ bitAt v.toNat 0 = true ∧ bitAt v.toNat 1 = true := by decide +kernel
theorem wit_surveyPlacesPartners_5 : let p : Nat := 0; let c : Nat := 1; let s : State := st (fr 4096 (fb fun f => { f with looped := [0], survey := [(1, { probeAt := some 0 })] })); let y := s.dev.coordVia p c; p < 6 ∧ (1 ≤ c ∨ s.dev.isZb p = true) ∧ c < 16 ∧ s.dev.flag FB_CTRL_enable = true ∧ s.dev.gridServes = true ∧ s.dev.keepsDark p = false ∧ p ∈ s.dev.fab.looped ∧ s.dev.alignedTo p c = true ∧ s.dev.probeWaits p y = true := by decide +kernel
theorem wit_surveyPlacesPartners_6 : let p : Nat := 0; let c : Nat := 1; let s : State := st (fr 4095 (fb fun f => { f with looped := [0], survey := [(1, { probeAt := some 0 })] })); let y := s.dev.coordVia p c; p < 6 ∧ (1 ≤ c ∨ s.dev.isZb p = true) ∧ c < 16 ∧ s.dev.flag FB_CTRL_enable = true ∧ s.dev.gridServes = true ∧ s.dev.keepsDark p = false ∧ p ∈ s.dev.fab.looped ∧ s.dev.alignedTo p c = true ∧ s.dev.probeWaits p y = false := by decide +kernel
theorem wit_surveyPlacesPartners_7 : let rx : Nat := 5; let s : State := sB 2 [] host; let r : RxCell := bellC 2 []; (s.dev.rxCell rx = some r ∧ r.cell.cls = 4 ∧ r.cell.bellKind = 2) ∧ s.dev.flag FB_CTRL_enable = false := by decide +kernel
theorem wit_surveyPlacesPartners_8 : let rx : Nat := 5; let s : State := sB 2 [1, 0, 0, 0, 0, 15] net; let r : RxCell := bellC 2 [1, 0, 0, 0, 0, 15]; (s.dev.rxCell rx = some r ∧ r.cell.cls = 4 ∧ r.cell.bellKind = 2) ∧ s.dev.flag FB_CTRL_enable = true := by decide +kernel
theorem wit_surveyPlacesPartners_10 : let rx : Nat := 5; let s : State := sB 3 (repC 101 5 77) (mk [(FB_PLANE_live 0, 0)] netG); let r : RxCell := bellC 3 (repC 101 5 77); let pl := r.cell.payload; let p := r.port; let y := s.dev.coordVia p (leAt pl 5 1); let agrees := leAt pl 16 4 = s.dev.fld FB_STATUS_map_gen ∧ leAt pl 24 8 = s.dev.fld (FB_PLAN_DIGEST_digest p); let e := (⟨101, 1, 0, 0, false⟩ : MapEntry); (s.dev.rxCell rx = some r ∧ r.cell.cls = 4 ∧ r.cell.bellKind = 3) ∧ s.dev.flag FB_CTRL_enable = true ∧ r.port < 6 ∧ s.dev.expectedAt p y = some e ∧ leAt pl 8 8 = e.serial ∧ leAt pl 0 4 ≠ noFid ∧ agrees := by decide +kernel
theorem wit_surveyPlacesPartners_12 : let rx : Nat := 5; let s : State := sB 3 (repC 102 5 77) netG; let r : RxCell := bellC 3 (repC 102 5 77); let pl := r.cell.payload; let p := r.port; let y := s.dev.coordVia p (leAt pl 5 1); let e := (⟨101, 1, 0, 0, false⟩ : MapEntry); (s.dev.rxCell rx = some r ∧ r.cell.cls = 4 ∧ r.cell.bellKind = 3) ∧ s.dev.flag FB_CTRL_enable = true ∧ r.port < 6 ∧ s.dev.expectedAt p y = some e ∧ leAt pl 8 8 ≠ e.serial := by decide +kernel
theorem wit_surveyPlacesPartners_13 : let rx : Nat := 5; let s : State := sB 3 (repC 102 5 77) { netG with fab := { netG.fab with map := some { fmap with entries := [⟨100, 0, 0, 0, false⟩] } } }; let r : RxCell := bellC 3 (repC 102 5 77); let pl := r.cell.payload; let p := r.port; let y := s.dev.coordVia p (leAt pl 5 1); (s.dev.rxCell rx = some r ∧ r.cell.cls = 4 ∧ r.cell.bellKind = 3) ∧ s.dev.flag FB_CTRL_enable = true ∧ r.port < 6 ∧ s.dev.expectedAt p y = none := by decide +kernel
theorem wit_surveyPlacesPartners_14 : let rx : Nat := 5; let s : State := sRx (rxOn 0 probeC 4); let r : RxCell := rxOn 0 probeC 4; (s.dev.rxCell rx = some r ∧ r.cell.cls = 4 ∧ r.cell.bellKind = 4) ∧ r.lane < 31 ∧ leAt r.cell.payload 5 1 = r.lane ∧ r.cell.payload.drop 16 = ((List.range 240).map fun i => BitVec.ofNat 8 ((i + 16) ^^^ 0xA5)) := by decide +kernel
theorem wit_surveyPlacesPartners_15 : let p : Nat := 0; let y : Nat := 1; let f : Nat := 3; let s : State := st (fr (3 + 4194304) (fb fun f => { f with leftLoop := [(0, 3)] })); let e : MapEntry := (⟨101, 1, 0, 0, false⟩ : MapEntry); p < 6 ∧ y < 16 ∧ s.dev.expectedAt p y = some e ∧ smFind s.dev.fab.leftLoop p = some f ∧ s.dev.flag FB_CTRL_enable = true ∧ f + 4194304 ≤ s.dev.frame ∧ (s.dev.surveyed p y).reply = none ∧ s.dev.bit (FB_PLANE_absent p) y = false := by decide +kernel
theorem wit_surveyPlacesPartners_16 : let p : Nat := 5; let f : Nat := 3; let s : State := st (mk [(FB_PLANE_degraded 5, 1)] (fr 4099 (fb fun f => { f with above := [(5, 3)] }))); p < 6 ∧ smFind s.dev.fab.above p = some f ∧ s.dev.flag (FB_PLANE_degraded p) = true ∧ f + 4096 ≤ s.dev.frame := by decide +kernel
theorem wit_plansSwitch_1 : let p : Nat := 0; let v : Word64 := 1; let s : State := st ((pl0 0 127).setReg (planNext 0) 0xFF); let st := s.dev.planState p; p < 6 ∧ s.dev.ready = true ∧ s.dev.cp.d3hot = false ∧ s.dev.inBatch (FB_PLAN_CTRL p) = false ∧ bitAt v.toNat 0 = true ∧ bitAt v.toNat 1 = false ∧ st ≠ 1 ∧ st ≠ 2 ∧ s.dev.planCheck p ≠ 0 := by decide +kernel
theorem wit_plansSwitch_2 : let p : Nat := 0; let v : Word64 := 2; let s : State := st (pl0 2 65); let st := s.dev.planState p; p < 6 ∧ s.dev.ready = true ∧ s.dev.cp.d3hot = false ∧ s.dev.inBatch (FB_PLAN_CTRL p) = false ∧ bitAt v.toNat 0 = false ∧ bitAt v.toNat 1 = true ∧ (st = 1 ∨ st = 2) ∧ s.dev.frame + 64 < s.dev.fld (FB_PLAN_FRAME_frame p) := by decide +kernel
theorem wit_plansSwitch_3 : let p : Nat := 0; let v : Word64 := 2; let s : State := st (pl0 1 64); let st := s.dev.planState p; p < 6 ∧ s.dev.ready = true ∧ s.dev.cp.d3hot = false ∧ s.dev.inBatch (FB_PLAN_CTRL p) = false ∧ bitAt v.toNat 0 = false ∧ bitAt v.toNat 1 = true ∧ (st = 1 ∨ st = 2) ∧ s.dev.fld (FB_PLAN_FRAME_frame p) ≤ s.dev.frame + 64 := by decide +kernel
theorem wit_plansSwitch_4 : let p : Nat := 0; let s : State := st (pl0 1 64); p < 6 ∧ s.dev.flag FB_CTRL_enable = true ∧ s.dev.isZb p = false ∧ s.dev.planState p = 1 ∧ smFind s.dev.fab.planSent p = none := by decide +kernel
theorem wit_plansSwitch_5 : let rx : Nat := 5; let s : State := sB 6 (planC 0 1 64 5) netG; let r : RxCell := bellC 6 (planC 0 1 64 5); let pl := r.cell.payload; let p := leAt pl 0 1; (s.dev.rxCell rx = some r ∧ r.cell.cls = 4 ∧ r.cell.bellKind = 6) ∧ p < 6 := by decide +kernel
theorem wit_plansSwitch_5_b : let rx : Nat := 5; let s : State := sB 6 (planC 0 1 64 5) (fb (fun f => { f with plans := [(1, { differ := 3 })] }) netG); let r : RxCell := bellC 6 (planC 0 1 64 5); let pl := r.cell.payload; let p := leAt pl 0 1; (s.dev.rxCell rx = some r ∧ r.cell.cls = 4 ∧ r.cell.bellKind = 6) ∧ p < 6 := by decide +kernel
theorem wit_plansSwitch_7 : let rx : Nat := 5; let s : State := sB 7 (planC 0 1 65 5) (pl0 1 64); let r : RxCell := bellC 7 (planC 0 1 65 5); let pl := r.cell.payload; let p := leAt pl 0 1; (s.dev.rxCell rx = some r ∧ r.cell.cls = 4 ∧ r.cell.bellKind = 7) ∧ p < 6 ∧ (s.dev.planState p = 1 ∨ s.dev.planState p = 2) ∧ s.dev.frame < leAt pl 8 8 ∧ (leAt pl 8 8 ≠ s.dev.fld (FB_PLAN_FRAME_frame p) ∨ leAt pl 16 8 ≠ (s.dev.nextDigest p).toNat) := by decide +kernel
theorem wit_plansSwitch_10 : let p : Nat := 0; let s : State := st (pl0 1 65); let f := s.dev.fld (FB_PLAN_FRAME_frame p); p < 6 ∧ s.dev.planState p = 1 ∧ s.dev.frame + 64 < f := by decide +kernel
theorem wit_plansSwitch_11 : let p : Nat := 0; let s : State := st (fr 64 (pl0 2 64)); p < 6 ∧ s.dev.planState p = 2 ∧ s.dev.fld (FB_PLAN_FRAME_frame p) ≤ s.dev.frame := by decide +kernel
theorem wit_plansSwitch_12 : let p : Nat := 0; let s : State := st (fr 64 (fb (fun f => { f with fallback := [0] }) netG)); p < 6 ∧ p ∈ s.dev.fab.fallback ∧ s.dev.frame % 64 = 0 := by decide +kernel
theorem wit_epochsSwitch_0 : let rx : Nat := 5; let s : State := sB 8 (epochBytes (ep 2 1)) (fb fun f => { f with seen := [(1, 9)] }); let r : RxCell := bellC 8 (epochBytes (ep 2 1)); let e := epochOf r.cell.payload; (s.dev.rxCell rx = some r ∧ r.cell.cls = 4 ∧ r.cell.bellKind = 8) ∧ (e.origin, e.seq) ∈ s.dev.fab.seen := by decide +kernel
theorem wit_epochsSwitch_1 : let rx : Nat := 5; let s : State := sB 8 (epochBytes (ep 2 1)); let r : RxCell := bellC 8 (epochBytes (ep 2 1)); let e := epochOf r.cell.payload; (s.dev.rxCell rx = some r ∧ r.cell.cls = 4 ∧ r.cell.bellKind = 8) ∧ (e.origin, e.seq) ∉ s.dev.fab.seen ∧ s.dev.fab.map ≠ none ∧ (∀ c ∈ e.changes, ¬ (c.fid = s.dev.fid ∧ c.state = 1)) := by decide +kernel
theorem wit_epochsSwitch_2 : let rx : Nat := 5; let s : State := sB 8 (epochBytes (ep 0 1)); let r : RxCell := bellC 8 (epochBytes (ep 0 1)); let e := epochOf r.cell.payload; (s.dev.rxCell rx = some r ∧ r.cell.cls = 4 ∧ r.cell.bellKind = 8) ∧ (e.origin, e.seq) ∉ s.dev.fab.seen ∧ s.dev.fab.map ≠ none ∧ (∃ c ∈ e.changes, c.fid = s.dev.fid ∧ c.state = 1) ∧ s.dev.selfFenced = false := by decide +kernel
theorem wit_epochsSwitch_3 : let f : Nat := 2000; let s : State := st (fb fun f => { f with announced := [ep 2 1] }); let m : FabMap := fmap; s.dev.nextSwitch = some f ∧ s.dev.fab.map = some m ∧ s.dev.fab.built ≠ some f := by decide +kernel
theorem wit_epochsSwitch_3_b : let f : Nat := 2000; let s : State := st (fr 2000 (fb fun f => { f with announced := [ep 2 1] })); let m : FabMap := fmap; s.dev.nextSwitch = some f ∧ s.dev.fab.map = some m ∧ s.dev.fab.built ≠ some f := by decide +kernel
theorem wit_epochsSwitch_4 : let f : Nat := 2000; let s : State := st (fr 2000 (fb fun f => { f with built := some 2000, announced := [ep 2 1] })); s.dev.fab.built = some f ∧ f ≤ s.dev.frame := by decide +kernel
theorem wit_epochsSwitch_5 : let f : Nat := 2000; let s : State := st (fr 1999 (fb fun f => { f with built := some 2000, announced := [ep 2 1] })); s.dev.fab.built = some f ∧ s.dev.frame < f := by decide +kernel
theorem wit_surveyPlacesPartners_9 : let rx : Nat := 5; let s : State := sB 3 (repC 101 5 77) netG; let r : RxCell := bellC 3 (repC 101 5 77); let p := r.port; (s.dev.rxCell rx = some r ∧ r.cell.cls = 4 ∧ r.cell.bellKind = 3) ∧ s.dev.flag FB_CTRL_enable = true ∧ r.port < 6 ∧ s.dev.isZb p = false := by decide +kernel
theorem wit_surveyPlacesPartners_11 : let rx : Nat := 5; let s : State := sB 3 (repC 101 6 77) netG; let r : RxCell := bellC 3 (repC 101 6 77); let pl := r.cell.payload; let p := r.port; let y := s.dev.coordVia p (leAt pl 5 1); let agrees := leAt pl 16 4 = s.dev.fld FB_STATUS_map_gen ∧ leAt pl 24 8 = s.dev.fld (FB_PLAN_DIGEST_digest p); let e := (⟨101, 1, 0, 0, false⟩ : MapEntry); (s.dev.rxCell rx = some r ∧ r.cell.cls = 4 ∧ r.cell.bellKind = 3) ∧ s.dev.flag FB_CTRL_enable = true ∧ r.port < 6 ∧ s.dev.expectedAt p y = some e ∧ leAt pl 8 8 = e.serial ∧ leAt pl 0 4 ≠ noFid ∧ ¬ agrees := by decide +kernel
theorem wit_surveyPlacesPartners_4 : let p : Nat := 0; let c : Nat := 1; let s : State := st (fr 4096 (fb fun f => { f with looped := [0], survey := [(1, { probeAt := some 0 })] })); p < 6 ∧ (1 ≤ c ∨ s.dev.isZb p = true) ∧ c < 16 ∧ s.dev.flag FB_CTRL_enable = true ∧ s.dev.gridServes = true ∧ s.dev.keepsDark p = false ∧ p ∈ s.dev.fab.looped ∧ s.dev.alignedTo p c = true ∧ s.dev.isZb p = false := by decide +kernel


/-- A row request 3 to member 1 for access 4. -/
def rq (kind : ReqKind) (len : Nat := 600) (a : Nat := 0x1000) : RowReq :=
  ⟨3, .access 4, 1, kind, a, len, 0, 9, 0xABCD, [], 0, 5, 6, false, none, 0, 0, []⟩
def sent (r : RowReq) : RowReq := { r with sent := true, seq := 7, launched := some 5, deadline := 700 }
def sRq (l : List RowReq) (d : Dev := net) : State := st { d with row := { d.row with reqs := l } }
def qAt (n a len : Nat) (k : ReqKind) : RowReq := { sent (rq k len a) with id := n }
/-- Region 4095: page 1, all operations, to member 1. -/
def reg4 (d : Dev := net) : Dev := mk [(HF_ROW_CTRL_serve, 1), (HF_REGION_BASE_valid 4095, 1), (HF_REGION_BASE_read 4095, 1), (HF_REGION_BASE_write 4095, 1),
  (HF_REGION_BASE_atomic 4095, 1), (HF_REGION_BASE_base 4095, 1), (HF_REGION_LIMIT_limit 4095, 1), (HF_REGION_KEY_key 4095, 0xABCD),
  (HF_REGION_KEY_src_mask 4095, 2)] d
/-- A request cell of member 1 of class cls: type, kind, address, length, key. -/
def rqC (cls type kind a n key : Nat) : RxCell :=
  ⟨5, 0, 0, 3, 600, ⟨rowOp type kind 1 0, 32, 9, 0, 1, 0, cls, 0, 1, 0,
    padTo 256 (leBytes 8 a ++ leBytes 4 key ++ leBytes 2 4095 ++ leBytes 2 n ++ leBytes 8 11 ++ leBytes 8 12 ++ List.replicate 16 0xEE), 0⟩⟩
/-- An answer cell of member 1 of class cls: type, index. -/
def anC (cls type index : Nat) : RxCell :=
  ⟨5, 0, 0, 3, 600, ⟨rowOp type 0 1 index, 16, 7, 0, 1, 0, cls, 0, 1, 0, padTo 256 (leBytes 8 0x1234), 0⟩⟩
def sAn (r : RxCell) (q : RowReq) : State := st { net with net := { net.net with rx := [r] }, row := { net.row with reqs := [q] } }
/-- Core 959 waits at index 8190 for a load of 8 bytes to register s3. -/
def ldA : Access := ⟨4, 959, true, .sld, 7, 8190, BitVec.ofNat 64 (W 5 0 (3 * 2 ^ 43 + 3 * 2 ^ 36)), 0x101000, 8, [], []⟩
def ldQ : RowReq := sent (rq .read 8)
def sLd : Dev := (run 959 8190 (W 5 0 0) { net with row := { accesses := [ldA], reqs := [ldQ] } }).modCore 959 fun c => { c with loadId := 4 }
def job (kind : Nat) (a : Nat := 0x1008) : AtomJob := ⟨6, a, kind, 2 ^ 64 - 1, 0, .remote 1 9, true, 4095, none⟩
def sJob (j : AtomJob) (d : Dev := net) : State := st { d with row := { d.row with atoms := [j] } }
def nar (w : Bool) : Narrow := ⟨15, 2, .atomic 6, w, 1⟩
def sNar (x : Narrow) (t : Nat) : State := st { net with row := { atoms := [{ job 0 with granted := false }], narrow := [x], tokens := [(15, t)] } }
def msgC (src len : Nat) : Copy := ⟨11, 3, true, 7, 9, .msend 1 1023 src len, none, [], [], []⟩
def msg (dst : Nat := 1) : Msg := ⟨12, 11, dst, 1023, [], [], false, none, 0, 0⟩
def sMsg (l : List Msg) (c : Copy) (d : Dev := net) : State := st { d with row := { msgs := l, copies := [c] } }
/-- A message cell of device 1: index, last, length. -/
def mdC (i last len : Nat) : RxCell := ⟨5, 0, 0, 3, 600, ⟨msgDataOp 1023 i last false, len, 9, 0, 1, 0, 2, 0, 1, 0, padTo 256 [1, 2, 3], 0⟩⟩
/-- Mailbox 1023 of 65,536 bytes at HBM address 65,536, with prod bytes put and none taken. -/
def mbox (prod : Nat) (d : Dev := net) : Dev := mk [(HF_ROW_CTRL_serve, 1), (HF_MBOX_CTRL_enable 1023, 1), (HF_MBOX_CTRL_log2_size 1023, 16),
  (HF_MBOX_CTRL_base 1023, 1), (HF_MBOX_PROD_prod 1023, prod), (HF_MBOX_TALLY_tally_en 1023, 1), (HF_MBOX_TALLY_tally 1023, 65535), (HF_TALLY_count 65535, 2 ^ 32 - 1)] d
def mReply (type rest : Nat) : RxCell := ⟨5, 0, 0, 3, 600, ⟨type * 2 ^ 28 + 1023 * 2 ^ 18 + rest, 0, 7, 0, 1, 0, 2, 0, 1, 0, zeros 256, 0⟩⟩
def sentMsg : Msg := { msg with sent := true, launched := some 5, deadline := 700, seq := 7 }
def sMr (r : RxCell) : State := st { net with net := { net.net with rx := [r] }, row := { msgs := [sentMsg], copies := [msgC 0x1000 64] } }

theorem wit_requestsAreSent_4 : let id : Nat := 3; let a : Nat := 4; let s : State := sRq [rq .write]; let r : RowReq := rq .write; let f := s.dev.memberFid r.member; let routed := s.dev.flag FB_CTRL_enable = true ∧ s.dev.fld FB_STATUS_state ≠ 3 ∧ s.dev.inMap f = true ∧ s.dev.absent f = false; s.dev.findReq id = some r ∧ r.sent = false ∧ r.owner = .access a ∧ s.dev.reqWaits r = false ∧ r.member ≠ fidX s.dev.fid ∧ routed ∧ s.dev.fenced f = false ∧ (f = s.dev.fid ∨ s.dev.routable s.dev.version 0 f = true) := by decide +kernel
theorem wit_requestsAreSent_5 : let id : Nat := 3; let a : Nat := 4; let s : State := sRq [rq .read, qAt 9 0x9000 8 .read]; let r : RowReq := rq .read; s.dev.findReq id = some r ∧ r.sent = false ∧ r.owner = .access a ∧ s.dev.row.reqs.countP (·.sent) + s.dev.row.msgs.countP (·.sent) < 4096 := by decide +kernel
theorem wit_requestsAreSent_7 : let id : Nat := 3; let a : Nat := 4; let s : State := sRq [rq .read 32 0x1000, qAt 9 0x101F 1 .write]; let r : RowReq := rq .read 32 0x1000; let q := qAt 9 0x101F 1 .write; s.dev.findReq id = some r ∧ r.sent = false ∧ r.owner = .access a ∧ q.sent = true ∧ q.member = r.member ∧ (q.kind ≠ .read ∨ r.kind ≠ .read) ∧ q.addr / 32 ≤ (r.addr + r.len - 1) / 32 ∧ r.addr / 32 ≤ (q.addr + q.len - 1) / 32 := by decide +kernel
theorem wit_requestsAreServed_0 : let rx : Nat := 5; let t : Nat := 1; let s : State := sRx (rqC 0 1 0 0x1FF0 16 0xABCD) (mk [(HF_ROW_CTRL_serve, 0)] reg4); let r : RxCell := rqC 0 1 0 0x1FF0 16 0xABCD; let pl := r.cell.payload; let a := leAt pl 0 6; let n := leAt pl 14 2; (t = 0 ∨ t = 1) ∧ ((s.dev).rxCell rx = some r ∧ r.cell.cls = 0 ∧ bitsOf r.cell.op 31 28 = t) ∧ s.dev.held a n = false ∧ s.dev.flag HF_ROW_CTRL_serve = false := by decide +kernel
theorem wit_requestsAreServed_1 : let rx : Nat := 5; let t : Nat := 0; let s : State := sRx (rqC 0 0 0 0x1000 4096 0xABCE) reg4; let r : RxCell := rqC 0 0 0 0x1000 4096 0xABCE; let pl := r.cell.payload; let a := leAt pl 0 6; let key := leAt pl 8 4; let g := leAt pl 12 2 % 4096; let n := leAt pl 14 2; let x := fidX r.cell.src; (t = 0 ∨ t = 1) ∧ ((s.dev).rxCell rx = some r ∧ r.cell.cls = 0 ∧ bitsOf r.cell.op 31 28 = t) ∧ s.dev.held a n = false ∧ s.dev.flag HF_ROW_CTRL_serve = true ∧ (s.dev.flag (HF_REGION_BASE_valid g) = false ∨ s.dev.fld (HF_REGION_KEY_key g) ≠ key ∨ s.dev.bit (HF_REGION_KEY_src_mask g) x = false) := by decide +kernel
theorem wit_requestsAreServed_2 : let rx : Nat := 5; let t : Nat := 0; let s : State := sRx (rqC 0 0 0 0x1020 4096 0xABCD) reg4; let r : RxCell := rqC 0 0 0 0x1020 4096 0xABCD; let pl := r.cell.payload; let a := leAt pl 0 6; let key := leAt pl 8 4; let g := leAt pl 12 2 % 4096; let n := leAt pl 14 2; let x := fidX r.cell.src; (t = 0 ∨ t = 1) ∧ ((s.dev).rxCell rx = some r ∧ r.cell.cls = 0 ∧ bitsOf r.cell.op 31 28 = t) ∧ s.dev.held a n = false ∧ s.dev.flag HF_ROW_CTRL_serve = true ∧ s.dev.flag (HF_REGION_BASE_valid g) = true ∧ s.dev.fld (HF_REGION_KEY_key g) = key ∧ s.dev.bit (HF_REGION_KEY_src_mask g) x = true ∧ ¬ ((s.dev).flag (HF_REGION_BASE_valid g) = true ∧ (s.dev).fld (HF_REGION_KEY_key g) = key ∧ (s.dev).bit (HF_REGION_KEY_src_mask g) x = true ∧ (t = 0 → (s.dev).flag (HF_REGION_BASE_read g) = true) ∧ (t = 1 → (s.dev).flag (HF_REGION_BASE_write g) = true) ∧ (t = 2 → (s.dev).flag (HF_REGION_BASE_atomic g) = true) ∧ (s.dev).fld (HF_REGION_BASE_base g) * 4096 ≤ a ∧ a + n ≤ ((s.dev).fld (HF_REGION_LIMIT_limit g) + 1) * 4096 ∧ (s.dev).present a n = true) := by decide +kernel
theorem wit_requestsAreServed_3 : let rx : Nat := 5; let t : Nat := 0; let s : State := sRx (rqC 0 0 0 0x1F00 256 0xABCD) reg4; let r : RxCell := rqC 0 0 0 0x1F00 256 0xABCD; let pl := r.cell.payload; let a := leAt pl 0 6; let key := leAt pl 8 4; let g := leAt pl 12 2 % 4096; let n := leAt pl 14 2; let x := fidX r.cell.src; (t = 0 ∨ t = 1) ∧ ((s.dev).rxCell rx = some r ∧ r.cell.cls = 0 ∧ bitsOf r.cell.op 31 28 = t) ∧ s.dev.held a n = false ∧ s.dev.flag HF_ROW_CTRL_serve = true ∧ t = 0 ∧ ((s.dev).flag (HF_REGION_BASE_valid g) = true ∧ (s.dev).fld (HF_REGION_KEY_key g) = key ∧ (s.dev).bit (HF_REGION_KEY_src_mask g) x = true ∧ (0 = 0 → (s.dev).flag (HF_REGION_BASE_read g) = true) ∧ (0 = 1 → (s.dev).flag (HF_REGION_BASE_write g) = true) ∧ (0 = 2 → (s.dev).flag (HF_REGION_BASE_atomic g) = true) ∧ (s.dev).fld (HF_REGION_BASE_base g) * 4096 ≤ a ∧ a + n ≤ ((s.dev).fld (HF_REGION_LIMIT_limit g) + 1) * 4096 ∧ (s.dev).present a n = true) := by decide +kernel
theorem wit_requestsAreServed_4 : let rx : Nat := 5; let t : Nat := 1; let s : State := sRx (rqC 0 1 0 0x1FF0 16 0xABCD) reg4; let r : RxCell := rqC 0 1 0 0x1FF0 16 0xABCD; let pl := r.cell.payload; let a := leAt pl 0 6; let key := leAt pl 8 4; let g := leAt pl 12 2 % 4096; let n := leAt pl 14 2; let x := fidX r.cell.src; (t = 0 ∨ t = 1) ∧ ((s.dev).rxCell rx = some r ∧ r.cell.cls = 0 ∧ bitsOf r.cell.op 31 28 = t) ∧ s.dev.held a n = false ∧ s.dev.flag HF_ROW_CTRL_serve = true ∧ t = 1 ∧ ((s.dev).flag (HF_REGION_BASE_valid g) = true ∧ (s.dev).fld (HF_REGION_KEY_key g) = key ∧ (s.dev).bit (HF_REGION_KEY_src_mask g) x = true ∧ (1 = 0 → (s.dev).flag (HF_REGION_BASE_read g) = true) ∧ (1 = 1 → (s.dev).flag (HF_REGION_BASE_write g) = true) ∧ (1 = 2 → (s.dev).flag (HF_REGION_BASE_atomic g) = true) ∧ (s.dev).fld (HF_REGION_BASE_base g) * 4096 ≤ a ∧ a + n ≤ ((s.dev).fld (HF_REGION_LIMIT_limit g) + 1) * 4096 ∧ (s.dev).present a n = true) := by decide +kernel
theorem wit_answersEndRequests_0 : let rx : Nat := 5; let cls : Nat := 0; let t : Nat := 9; let c : Instr := .writeAck 5; let s : State := sAn (anC 0 9 0) (sent (rq .write)); let r : RxCell := anC 0 9 0; let q : RowReq := sent (rq .write); (c, cls, t) ∈ [(.readData rx, 0, 8), (.writeAck rx, 0, 9), (.atomicReply rx, 1, 0xA), (.rowRefusal rx, 0, 0xF), (.rowRefusal rx, 1, 0xF)] ∧ ((s.dev).rxCell rx = some r ∧ r.cell.cls = cls ∧ bitsOf r.cell.op 31 28 = t) ∧ q ∈ s.dev.row.reqs ∧ (q.sent = true ∧ q.seq = r.cell.seq ∧ s.dev.memberFid q.member = r.cell.src ∧ q.member ≠ fidX s.dev.fid ∧ (t = 8 → q.kind = .read) ∧ (t = 9 → q.kind = .write) ∧ (t = 0xA → ∃ k < 16, q.kind = .atomic k)) ∧ (∀ p ∈ s.dev.row.reqs, p ≠ q → p.seq ≠ q.seq) ∧ t = 9 := by decide +kernel
theorem wit_answersEndRequests_1 : let rx : Nat := 5; let cls : Nat := 1; let t : Nat := 0xA; let c : Instr := .atomicReply 5; let s : State := sAn (anC 1 0xA 0) (sent (rq (.atomic 13) 8)); let r : RxCell := anC 1 0xA 0; let q : RowReq := sent (rq (.atomic 13) 8); (c, cls, t) ∈ [(.readData rx, 0, 8), (.writeAck rx, 0, 9), (.atomicReply rx, 1, 0xA), (.rowRefusal rx, 0, 0xF), (.rowRefusal rx, 1, 0xF)] ∧ ((s.dev).rxCell rx = some r ∧ r.cell.cls = cls ∧ bitsOf r.cell.op 31 28 = t) ∧ q ∈ s.dev.row.reqs ∧ (q.sent = true ∧ q.seq = r.cell.seq ∧ s.dev.memberFid q.member = r.cell.src ∧ q.member ≠ fidX s.dev.fid ∧ (t = 8 → q.kind = .read) ∧ (t = 9 → q.kind = .write) ∧ (t = 0xA → ∃ k < 16, q.kind = .atomic k)) ∧ (∀ p ∈ s.dev.row.reqs, p ≠ q → p.seq ≠ q.seq) ∧ t = 0xA := by decide +kernel
theorem wit_answersEndRequests_2 : let rx : Nat := 5; let cls : Nat := 1; let t : Nat := 0xF; let c : Instr := .rowRefusal 5; let s : State := sAn (anC 1 0xF 0) (sent (rq (.atomic 13) 8)); let r : RxCell := anC 1 0xF 0; let q : RowReq := sent (rq (.atomic 13) 8); (c, cls, t) ∈ [(.readData rx, 0, 8), (.writeAck rx, 0, 9), (.atomicReply rx, 1, 0xA), (.rowRefusal rx, 0, 0xF), (.rowRefusal rx, 1, 0xF)] ∧ ((s.dev).rxCell rx = some r ∧ r.cell.cls = cls ∧ bitsOf r.cell.op 31 28 = t) ∧ q ∈ s.dev.row.reqs ∧ (q.sent = true ∧ q.seq = r.cell.seq ∧ s.dev.memberFid q.member = r.cell.src ∧ q.member ≠ fidX s.dev.fid ∧ (t = 8 → q.kind = .read) ∧ (t = 9 → q.kind = .write) ∧ (t = 0xA → ∃ k < 16, q.kind = .atomic k)) ∧ (∀ p ∈ s.dev.row.reqs, p ≠ q → p.seq ≠ q.seq) ∧ t = 0xF := by decide +kernel
theorem wit_answersEndRequests_3 : let rx : Nat := 5; let cls : Nat := 0; let t : Nat := 8; let c : Instr := .readData 5; let s : State := sAn (anC 0 8 0) (sent (rq .read 256)); let r : RxCell := anC 0 8 0; let q : RowReq := sent (rq .read 256); let i := bitsOf r.cell.op 7 0; let q' := { q with parts := q.parts ++ [(i, sliceB r.cell.payload 0 (min 256 (q.len - 256 * i)), bitsOf r.cell.op 23 8)] }; (c, cls, t) ∈ [(.readData rx, 0, 8), (.writeAck rx, 0, 9), (.atomicReply rx, 1, 0xA), (.rowRefusal rx, 0, 0xF), (.rowRefusal rx, 1, 0xF)] ∧ ((s.dev).rxCell rx = some r ∧ r.cell.cls = cls ∧ bitsOf r.cell.op 31 28 = t) ∧ q ∈ s.dev.row.reqs ∧ (q.sent = true ∧ q.seq = r.cell.seq ∧ s.dev.memberFid q.member = r.cell.src ∧ q.member ≠ fidX s.dev.fid ∧ (t = 8 → q.kind = .read) ∧ (t = 9 → q.kind = .write) ∧ (t = 0xA → ∃ k < 16, q.kind = .atomic k)) ∧ (∀ p ∈ s.dev.row.reqs, p ≠ q → p.seq ≠ q.seq) ∧ t = 8 ∧ (∀ p ∈ q.parts, p.1 ≠ i) ∧ 256 * i < q.len ∧ q'.parts.length = (q.len + 255) / 256 := by decide +kernel
theorem wit_answersEndRequests_4 : let rx : Nat := 5; let cls : Nat := 0; let t : Nat := 8; let c : Instr := .readData 5; let s : State := sAn (anC 0 8 2) (sent (rq .read 600)); let r : RxCell := anC 0 8 2; let q : RowReq := sent (rq .read 600); let i := bitsOf r.cell.op 7 0; let q' := { q with parts := q.parts ++ [(i, sliceB r.cell.payload 0 (min 256 (q.len - 256 * i)), bitsOf r.cell.op 23 8)] }; (c, cls, t) ∈ [(.readData rx, 0, 8), (.writeAck rx, 0, 9), (.atomicReply rx, 1, 0xA), (.rowRefusal rx, 0, 0xF), (.rowRefusal rx, 1, 0xF)] ∧ ((s.dev).rxCell rx = some r ∧ r.cell.cls = cls ∧ bitsOf r.cell.op 31 28 = t) ∧ q ∈ s.dev.row.reqs ∧ (q.sent = true ∧ q.seq = r.cell.seq ∧ s.dev.memberFid q.member = r.cell.src ∧ q.member ≠ fidX s.dev.fid ∧ (t = 8 → q.kind = .read) ∧ (t = 9 → q.kind = .write) ∧ (t = 0xA → ∃ k < 16, q.kind = .atomic k)) ∧ (∀ p ∈ s.dev.row.reqs, p ≠ q → p.seq ≠ q.seq) ∧ t = 8 ∧ (∀ p ∈ q.parts, p.1 ≠ i) ∧ 256 * i < q.len ∧ q'.parts.length ≠ (q.len + 255) / 256 := by decide +kernel
theorem wit_answersEndRequests_6 : let id : Nat := 3; let s : State := sRq [sent (rq .write)] (fr 700); let q : RowReq := sent (rq .write); s.dev.findReq id = some q ∧ q.launched ≠ none ∧ q.deadline ≤ s.dev.frame := by decide +kernel
theorem wit_answersEndRequests_7 : let id : Nat := 3; let s : State := sRq [sent (rq .write)] (fr 699); let q : RowReq := sent (rq .write); s.dev.findReq id = some q ∧ (q.launched = none ∨ s.dev.frame < q.deadline) := by decide +kernel
theorem wit_answersEndLoads_0 : let d : Dev := sLd; let q : RowReq := ldQ; let id : Nat := 4; let a : Access := ldA; let l : List Byte := [1, 2, 3, 4, 5, 6, 7, 0x88]; q.owner = .access id ∧ d.findAccess id = some a ∧ a.id = id ∧ a.kind = .sld ∧ a.live = true ∧ a.core < 960 ∧ d.coreState a.core = 1 ∧ d.pc a.core < 8191 ∧ (d.core a.core).loadId = id ∧ a.got = [] ∧ a.fails = [] ∧ a.len = q.len ∧ q.off = 0 ∧ (∀ r ∈ d.row.reqs, r.id ≠ q.id → r.owner ≠ .access id) ∧ (∀ j ∈ d.row.atoms, j.reply ≠ .access id) ∧ l.length = q.len ∧ q.len ≤ 8 := by decide +kernel
theorem wit_answersEndLoads_6 : let d : Dev := sLd; let q : RowReq := ldQ; let id : Nat := 4; let a : Access := ldA; let l : List Byte := [1, 2, 3, 4, 5, 6, 7, 0x88]; q.owner = .access id ∧ d.findAccess id = some a ∧ a.id = id ∧ a.kind = .sld ∧ a.live = true ∧ a.core < 960 ∧ d.coreState a.core = 1 ∧ d.pc a.core < 8191 ∧ (d.core a.core).loadId = id ∧ a.got = [] ∧ a.fails = [] ∧ a.len = q.len ∧ q.off = 0 ∧ (∀ r ∈ d.row.reqs, r.id ≠ q.id → r.owner ≠ .access id) ∧ (∀ j ∈ d.row.atoms, j.reply ≠ .access id) ∧ l.length = q.len ∧ q.len ≤ 8 ∧ 1 ≤ q.len := by decide +kernel
theorem wit_answersEndLoads_10 : let d : Dev := sLd; let q : RowReq := ldQ; let id : Nat := 4; let a : Access := ldA; let reason : Nat := 0x0601; q.owner = .access id ∧ d.findAccess id = some a ∧ a.id = id ∧ a.kind = .sld ∧ a.live = true ∧ a.core < 960 ∧ d.coreState a.core = 1 ∧ d.pc a.core < 8191 ∧ (d.core a.core).loadId = id ∧ a.got = [] ∧ a.fails = [] ∧ a.len = q.len ∧ q.off = 0 ∧ (∀ r ∈ d.row.reqs, r.id ≠ q.id → r.owner ≠ .access id) ∧ (∀ j ∈ d.row.atoms, j.reply ≠ .access id) ∧ reason < 65536 := by decide +kernel
theorem wit_atomicsReachTheUnit_0 : let rx : Nat := 5; let s : State := sRx (rqC 1 2 13 0x1FF8 8 0xABCD) reg4; let r : RxCell := rqC 1 2 13 0x1FF8 8 0xABCD; let pl := r.cell.payload; let a := leAt pl 0 6; let g := leAt pl 12 2 % 4096; let n := leAt pl 14 2; let kind := bitsOf r.cell.op 27 24; ((s.dev).rxCell rx = some r ∧ r.cell.cls = 1 ∧ bitsOf r.cell.op 31 28 = 2) ∧ s.dev.flag HF_ROW_CTRL_serve = true ∧ s.dev.held a n = false ∧ ((s.dev).flag (HF_REGION_BASE_valid g) = true ∧ (s.dev).fld (HF_REGION_KEY_key g) = (leAt pl 8 4) ∧ (s.dev).bit (HF_REGION_KEY_src_mask g) (fidX r.cell.src) = true ∧ (2 = 0 → (s.dev).flag (HF_REGION_BASE_read g) = true) ∧ (2 = 1 → (s.dev).flag (HF_REGION_BASE_write g) = true) ∧ (2 = 2 → (s.dev).flag (HF_REGION_BASE_atomic g) = true) ∧ (s.dev).fld (HF_REGION_BASE_base g) * 4096 ≤ a ∧ a + n ≤ ((s.dev).fld (HF_REGION_LIMIT_limit g) + 1) * 4096 ∧ (s.dev).present a n = true) ∧ kind ≤ 13 := by decide +kernel
theorem wit_atomicsReachTheUnit_1 : let rx : Nat := 5; let s : State := sRx (rqC 1 2 14 0x1FF8 8 0xABCD) reg4; let r : RxCell := rqC 1 2 14 0x1FF8 8 0xABCD; let pl := r.cell.payload; let a := leAt pl 0 6; let g := leAt pl 12 2 % 4096; let n := leAt pl 14 2; let kind := bitsOf r.cell.op 27 24; ((s.dev).rxCell rx = some r ∧ r.cell.cls = 1 ∧ bitsOf r.cell.op 31 28 = 2) ∧ s.dev.flag HF_ROW_CTRL_serve = true ∧ s.dev.held a n = false ∧ ((s.dev).flag (HF_REGION_BASE_valid g) = true ∧ (s.dev).fld (HF_REGION_KEY_key g) = (leAt pl 8 4) ∧ (s.dev).bit (HF_REGION_KEY_src_mask g) (fidX r.cell.src) = true ∧ (2 = 0 → (s.dev).flag (HF_REGION_BASE_read g) = true) ∧ (2 = 1 → (s.dev).flag (HF_REGION_BASE_write g) = true) ∧ (2 = 2 → (s.dev).flag (HF_REGION_BASE_atomic g) = true) ∧ (s.dev).fld (HF_REGION_BASE_base g) * 4096 ≤ a ∧ a + n ≤ ((s.dev).fld (HF_REGION_LIMIT_limit g) + 1) * 4096 ∧ (s.dev).present a n = true) ∧ 13 < kind := by decide +kernel
theorem wit_atomicsExecute_1 : let slot : Nat := 6; let src : Nat := 1; let seq : Nat := 9; let s : State := sJob (job 13) (pz 0x1000); let j : AtomJob := job 13; let n := if j.kind = 1 ∨ 9 ≤ j.kind ∧ j.kind ≤ 13 then 8 else 4; let t := s.dev.readWord j.addr; let read := j.old.getD (ofLe (t.bytesAt j.addr n), t.poisonAt j.addr); s.dev.row.atoms.find? (fun x => x.id == slot) = some j ∧ j.reply = .remote src seq ∧ j.granted = true ∧ ((s.dev.row.atoms.takeWhile fun x => x.id != slot).all fun x => x.addr / 32 != j.addr / 32) = true ∧ s.dev.held j.addr n = false ∧ s.dev.present j.addr n = true ∧ read.2 = true := by decide +kernel
theorem wit_narrowAccessesTakeTokens_0 : let n : Nat := 15; let s : State := sNar (nar false) 12800; let x : Narrow := nar false; n < 16 ∧ s.dev.row.narrow.find? (fun y => y.stack == n) = some x ∧ x.cost * 6400 ≤ s.dev.tokens n := by decide +kernel
theorem wit_narrowAccessesTakeTokens_1 : let n : Nat := 15; let s : State := sNar (nar false) 12799; let x : Narrow := nar false; n < 16 ∧ s.dev.row.narrow.find? (fun y => y.stack == n) = some x ∧ s.dev.tokens n < x.cost * 6400 := by decide +kernel
theorem wit_messagesAreSent_0 : let id : Nat := 12; let s : State := sMsg [{ msg with id := 13, copy := 14 }, msg] (msgC 0x1000 300); let m : Msg := msg; let c : Copy := msgC 0x1000 300; s.dev.row.msgs.find? (fun x => x.id == id) = some m ∧ s.dev.findCopy m.copy = some c ∧ m.sent = false ∧ m.dst ≠ s.dev.fid ∧ s.dev.held c.message.1 c.message.2 = false ∧ ((s.dev.row.msgs.takeWhile fun x => x.id != id).any fun x => x.dst == m.dst && x.mailbox == m.mailbox) = true := by decide +kernel
theorem wit_messagesAreSent_2 : let id : Nat := 12; let s : State := sMsg [msg 3] (msgC 0x1000 300); let m : Msg := msg 3; let c : Copy := msgC 0x1000 300; let routed := s.dev.flag FB_CTRL_enable = true ∧ s.dev.fld FB_STATUS_state ≠ 3 ∧ s.dev.inMap m.dst = true ∧ s.dev.absent m.dst = false; s.dev.row.msgs.find? (fun x => x.id == id) = some m ∧ s.dev.findCopy m.copy = some c ∧ m.sent = false ∧ m.dst ≠ s.dev.fid ∧ s.dev.held c.message.1 c.message.2 = false ∧ s.dev.copyBehind c = false ∧ ((s.dev.row.msgs.takeWhile fun x => x.id != id).any fun x => x.dst == m.dst && x.mailbox == m.mailbox) = false ∧ s.dev.row.reqs.countP (·.sent) + s.dev.row.msgs.countP (·.sent) < 4096 ∧ ¬ routed := by decide +kernel
theorem wit_messagesAreSent_6 : let id : Nat := 12; let s : State := sMsg [msg] (msgC 0x1000 300) (net.write 0x1100 (List.replicate 16 7) fun _ => true); let m : Msg := msg; let c : Copy := msgC 0x1000 300; let routed := s.dev.flag FB_CTRL_enable = true ∧ s.dev.fld FB_STATUS_state ≠ 3 ∧ s.dev.inMap m.dst = true ∧ s.dev.absent m.dst = false; s.dev.row.msgs.find? (fun x => x.id == id) = some m ∧ s.dev.findCopy m.copy = some c ∧ m.sent = false ∧ m.dst ≠ s.dev.fid ∧ s.dev.held c.message.1 c.message.2 = false ∧ s.dev.copyBehind c = false ∧ ((s.dev.row.msgs.takeWhile fun x => x.id != id).any fun x => x.dst == m.dst && x.mailbox == m.mailbox) = false ∧ s.dev.row.reqs.countP (·.sent) + s.dev.row.msgs.countP (·.sent) < 4096 ∧ routed ∧ s.dev.fenced m.dst = false ∧ s.dev.present c.message.1 c.message.2 = true ∧ s.dev.routable s.dev.version 2 m.dst = true := by decide +kernel
theorem wit_messagesAreReceived_0 : let rx : Nat := 5; let s : State := sRx (mdC 2 2 64) (mbox 0); let r : RxCell := mdC 2 2 64; let last := bitsOf r.cell.op 9 2; let i := bitsOf r.cell.op 17 10; s.dev.rxCell rx = some r ∧ r.cell.cls = 2 ∧ bitsOf r.cell.op 31 28 = 0 ∧ r.lane < 30 ∧ (∀ a ∈ s.dev.row.asm, ¬ (a.src = r.cell.src ∧ a.mailbox = bitsOf r.cell.op 27 18 ∧ a.seq = r.cell.seq)) ∧ 0 < last ∧ i ≤ last := by decide +kernel
theorem wit_messagesAreReceived_1 : let rx : Nat := 5; let s : State := sRx (mdC 0 0 64) (mk [(HF_ROW_CTRL_serve, 0)] (mbox 0)); let r : RxCell := mdC 0 0 64; let mb := bitsOf r.cell.op 27 18; let last := bitsOf r.cell.op 9 2; let i := bitsOf r.cell.op 17 10; s.dev.rxCell rx = some r ∧ r.cell.cls = 2 ∧ bitsOf r.cell.op 31 28 = 0 ∧ r.lane < 30 ∧ (∀ a ∈ s.dev.row.asm, ¬ (a.src = r.cell.src ∧ a.mailbox = bitsOf r.cell.op 27 18 ∧ a.seq = r.cell.seq)) ∧ last = 0 ∧ i = 0 ∧ s.dev.ringHeld mb = false ∧ s.dev.flag HF_ROW_CTRL_serve = false := by decide +kernel
theorem wit_messagesAreReceived_2 : let rx : Nat := 5; let s : State := sRx (mdC 0 0 64) (mk [(HF_MBOX_CTRL_enable 1023, 0)] (mbox 0)); let r : RxCell := mdC 0 0 64; let mb := bitsOf r.cell.op 27 18; let last := bitsOf r.cell.op 9 2; let i := bitsOf r.cell.op 17 10; let size := 2 ^ s.dev.fld (HF_MBOX_CTRL_log2_size mb); let there : Bool := s.dev.flag (HF_MBOX_CTRL_enable mb) && s.dev.present (s.dev.fld (HF_MBOX_CTRL_base mb) * 65536) size; s.dev.rxCell rx = some r ∧ r.cell.cls = 2 ∧ bitsOf r.cell.op 31 28 = 0 ∧ r.lane < 30 ∧ (∀ a ∈ s.dev.row.asm, ¬ (a.src = r.cell.src ∧ a.mailbox = bitsOf r.cell.op 27 18 ∧ a.seq = r.cell.seq)) ∧ last = 0 ∧ i = 0 ∧ s.dev.ringHeld mb = false ∧ s.dev.flag HF_ROW_CTRL_serve = true ∧ there = false := by decide +kernel
theorem wit_messagesAreReceived_3 : let rx : Nat := 5; let s : State := sRx (mdC 0 0 64) (mbox (65536 - 64)); let r : RxCell := mdC 0 0 64; let mb := bitsOf r.cell.op 27 18; let last := bitsOf r.cell.op 9 2; let i := bitsOf r.cell.op 17 10; let data := sliceB r.cell.payload 0 r.cell.len; let size := 2 ^ s.dev.fld (HF_MBOX_CTRL_log2_size mb); let entry := 64 + 64 * ((data.length + 63) / 64); let used := (s.dev.fld (HF_MBOX_PROD_prod mb) + 2 ^ 64 - s.dev.fld (HF_MBOX_CONS_cons mb)) % 2 ^ 64; let there : Bool := s.dev.flag (HF_MBOX_CTRL_enable mb) && s.dev.present (s.dev.fld (HF_MBOX_CTRL_base mb) * 65536) size; s.dev.rxCell rx = some r ∧ r.cell.cls = 2 ∧ bitsOf r.cell.op 31 28 = 0 ∧ r.lane < 30 ∧ (∀ a ∈ s.dev.row.asm, ¬ (a.src = r.cell.src ∧ a.mailbox = bitsOf r.cell.op 27 18 ∧ a.seq = r.cell.seq)) ∧ last = 0 ∧ i = 0 ∧ s.dev.ringHeld mb = false ∧ s.dev.flag HF_ROW_CTRL_serve = true ∧ there = true ∧ size < used + entry := by decide +kernel
theorem wit_messagesAreReceived_4 : let rx : Nat := 5; let s : State := sRx (mdC 0 0 64) (mbox (65536 - 128)); let r : RxCell := mdC 0 0 64; let mb := bitsOf r.cell.op 27 18; let last := bitsOf r.cell.op 9 2; let i := bitsOf r.cell.op 17 10; let data := sliceB r.cell.payload 0 r.cell.len; let size := 2 ^ s.dev.fld (HF_MBOX_CTRL_log2_size mb); let entry := 64 + 64 * ((data.length + 63) / 64); let used := (s.dev.fld (HF_MBOX_PROD_prod mb) + 2 ^ 64 - s.dev.fld (HF_MBOX_CONS_cons mb)) % 2 ^ 64; let there : Bool := s.dev.flag (HF_MBOX_CTRL_enable mb) && s.dev.present (s.dev.fld (HF_MBOX_CTRL_base mb) * 65536) size; s.dev.rxCell rx = some r ∧ r.cell.cls = 2 ∧ bitsOf r.cell.op 31 28 = 0 ∧ r.lane < 30 ∧ (∀ a ∈ s.dev.row.asm, ¬ (a.src = r.cell.src ∧ a.mailbox = bitsOf r.cell.op 27 18 ∧ a.seq = r.cell.seq)) ∧ last = 0 ∧ i = 0 ∧ s.dev.ringHeld mb = false ∧ s.dev.flag HF_ROW_CTRL_serve = true ∧ there = true ∧ used + entry ≤ size := by decide +kernel
theorem wit_messagesEnd_0 : let rx : Nat := 5; let t : Nat := 8; let c : Instr := .messageAccepted 5; let s : State := sMr (mReply 8 0); let r : RxCell := mReply 8 0; let m := sentMsg; (c, t) ∈ [(.messageAccepted rx, 8), (.messageRefused rx, 0xF)] ∧ s.dev.rxCell rx = some r ∧ r.cell.cls = 2 ∧ bitsOf r.cell.op 31 28 = t ∧ s.dev.msgFor r.cell = some m ∧ t = 8 := by decide +kernel
theorem wit_messagesEnd_1 : let rx : Nat := 5; let t : Nat := 0xF; let c : Instr := .messageRefused 5; let s : State := sMr (mReply 0xF (0x0302 * 4)); let r : RxCell := mReply 0xF (0x0302 * 4); let m := sentMsg; (c, t) ∈ [(.messageAccepted rx, 8), (.messageRefused rx, 0xF)] ∧ s.dev.rxCell rx = some r ∧ r.cell.cls = 2 ∧ bitsOf r.cell.op 31 28 = t ∧ s.dev.msgFor r.cell = some m ∧ t = 0xF ∧ bitsOf r.cell.op 17 2 ≠ 0 := by decide +kernel
theorem wit_messagesEnd_2 : let id : Nat := 12; let s : State := sMsg [sentMsg] (msgC 0x1000 64) (fr 700); let m : Msg := sentMsg; s.dev.row.msgs.find? (fun x => x.id == id) = some m ∧ m.launched ≠ none ∧ m.deadline ≤ s.dev.frame := by decide +kernel
theorem wit_messagesEnd_3 : let id : Nat := 12; let s : State := sMsg [sentMsg] (msgC 0x1000 64) (fr 699); let m : Msg := sentMsg; s.dev.row.msgs.find? (fun x => x.id == id) = some m ∧ (m.launched = none ∨ s.dev.frame < m.deadline) := by decide +kernel
theorem wit_requestsAreSent_0 : let id : Nat := 3; let c : Nat := 11; let s : State := st { net with row := { reqs := [{ rq .read with owner := .copyRead 11 }], copies := [msgC 0x1000 64] } }; let r : RowReq := { rq .read with owner := .copyRead 11 }; s.dev.findReq id = some r ∧ r.sent = false ∧ (r.owner = .copyRead c ∨ r.owner = .copyWrite c) ∧ s.dev.reqWaits r = false ∧ s.dev.reqHeld r = false ∧ s.dev.pathGate 0 (s.dev.memberFid r.member) = none ∧ s.dev.importFor r.member r.addr r.len = none := by decide +kernel
theorem wit_requestsAreSent_1 : let id : Nat := 3; let a : Nat := 4; let s : State := sRq [rq .write] (mk [(FB_CTRL_enable, 0)] net); let r : RowReq := rq .write; let f := s.dev.memberFid r.member; let routed := s.dev.flag FB_CTRL_enable = true ∧ s.dev.fld FB_STATUS_state ≠ 3 ∧ s.dev.inMap f = true ∧ s.dev.absent f = false; s.dev.findReq id = some r ∧ r.sent = false ∧ r.owner = .access a ∧ s.dev.reqWaits r = false ∧ r.member ≠ fidX s.dev.fid ∧ ¬ routed := by decide +kernel
theorem wit_requestsAreSent_3 : let id : Nat := 3; let a : Nat := 4; let s : State := sRq [rq .write] (net.setReg (routeBase 0) 0); let r : RowReq := rq .write; let f := s.dev.memberFid r.member; let routed := s.dev.flag FB_CTRL_enable = true ∧ s.dev.fld FB_STATUS_state ≠ 3 ∧ s.dev.inMap f = true ∧ s.dev.absent f = false; s.dev.findReq id = some r ∧ r.sent = false ∧ r.owner = .access a ∧ s.dev.reqWaits r = false ∧ r.member ≠ fidX s.dev.fid ∧ f ≠ s.dev.fid ∧ routed ∧ s.dev.fenced f = false ∧ s.dev.routable s.dev.version 0 f = false := by decide +kernel
theorem wit_answersEndRequests_5 : let rx : Nat := 5; let cls : Nat := 0; let t : Nat := 9; let c : Instr := .writeAck 5; let s : State := sAn (anC 0 9 0) (rq .write); let r : RxCell := anC 0 9 0; (c, cls, t) ∈ [(.readData rx, 0, 8), (.writeAck rx, 0, 9), (.atomicReply rx, 1, 0xA), (.rowRefusal rx, 0, 0xF), (.rowRefusal rx, 1, 0xF)] ∧ ((s.dev).rxCell rx = some r ∧ r.cell.cls = cls ∧ bitsOf r.cell.op 31 28 = t) ∧ (∀ p ∈ s.dev.row.reqs, ¬ (p.sent = true ∧ p.seq = r.cell.seq ∧ s.dev.memberFid p.member = r.cell.src ∧ p.member ≠ fidX s.dev.fid ∧ (t = 8 → p.kind = .read) ∧ (t = 9 → p.kind = .write) ∧ (t = 0xA → ∃ k < 16, p.kind = .atomic k))) := by decide +kernel
theorem wit_atomicsExecute_0 : let slot : Nat := 6; let src : Nat := 1; let seq : Nat := 9; let s : State := sJob (job 13 (2 ^ 45)); let j : AtomJob := job 13 (2 ^ 45); let n := if j.kind = 1 ∨ 9 ≤ j.kind ∧ j.kind ≤ 13 then 8 else 4; s.dev.row.atoms.find? (fun x => x.id == slot) = some j ∧ j.reply = .remote src seq ∧ j.granted = true ∧ ((s.dev.row.atoms.takeWhile fun x => x.id != slot).all fun x => x.addr / 32 != j.addr / 32) = true ∧ s.dev.held j.addr n = false ∧ s.dev.present j.addr n = false := by decide +kernel
theorem wit_messagesAreSent_1 : let id : Nat := 12; let s : State := st { net with row := { msgs := [msg], copies := [{ msgC 0x1000 300 with id := 10, kind := .dcopy 0x1000 0x2000 64 }, msgC 0x1000 300] } }; let m : Msg := msg; let c : Copy := msgC 0x1000 300; s.dev.row.msgs.find? (fun x => x.id == id) = some m ∧ s.dev.findCopy m.copy = some c ∧ m.sent = false ∧ m.dst ≠ s.dev.fid ∧ s.dev.held c.message.1 c.message.2 = false ∧ s.dev.copyBehind c = true := by decide +kernel
theorem wit_messagesAreSent_3 : let id : Nat := 12; let s : State := sMsg [msg] (msgC 0x1000 300) (fb fun f => { f with live0 := [⟨1, 1⟩] }); let m : Msg := msg; let c : Copy := msgC 0x1000 300; let routed := s.dev.flag FB_CTRL_enable = true ∧ s.dev.fld FB_STATUS_state ≠ 3 ∧ s.dev.inMap m.dst = true ∧ s.dev.absent m.dst = false; s.dev.row.msgs.find? (fun x => x.id == id) = some m ∧ s.dev.findCopy m.copy = some c ∧ m.sent = false ∧ m.dst ≠ s.dev.fid ∧ s.dev.held c.message.1 c.message.2 = false ∧ s.dev.copyBehind c = false ∧ ((s.dev.row.msgs.takeWhile fun x => x.id != id).any fun x => x.dst == m.dst && x.mailbox == m.mailbox) = false ∧ s.dev.row.reqs.countP (·.sent) + s.dev.row.msgs.countP (·.sent) < 4096 ∧ routed ∧ s.dev.fenced m.dst = true := by decide +kernel
theorem wit_messagesAreSent_4 : let id : Nat := 12; let s : State := sMsg [msg] (msgC 0x1000 300) (net.setReg (routeBase 0) 0); let m : Msg := msg; let c : Copy := msgC 0x1000 300; let routed := s.dev.flag FB_CTRL_enable = true ∧ s.dev.fld FB_STATUS_state ≠ 3 ∧ s.dev.inMap m.dst = true ∧ s.dev.absent m.dst = false; s.dev.row.msgs.find? (fun x => x.id == id) = some m ∧ s.dev.findCopy m.copy = some c ∧ m.sent = false ∧ m.dst ≠ s.dev.fid ∧ s.dev.held c.message.1 c.message.2 = false ∧ s.dev.copyBehind c = false ∧ ((s.dev.row.msgs.takeWhile fun x => x.id != id).any fun x => x.dst == m.dst && x.mailbox == m.mailbox) = false ∧ s.dev.row.reqs.countP (·.sent) + s.dev.row.msgs.countP (·.sent) < 4096 ∧ routed ∧ s.dev.fenced m.dst = false ∧ s.dev.routable s.dev.version 2 m.dst = false := by decide +kernel
theorem wit_messagesAreSent_5 : let id : Nat := 12; let s : State := sMsg [msg] (msgC (2 ^ 45) 300); let m : Msg := msg; let c : Copy := msgC (2 ^ 45) 300; let routed := s.dev.flag FB_CTRL_enable = true ∧ s.dev.fld FB_STATUS_state ≠ 3 ∧ s.dev.inMap m.dst = true ∧ s.dev.absent m.dst = false; s.dev.row.msgs.find? (fun x => x.id == id) = some m ∧ s.dev.findCopy m.copy = some c ∧ m.sent = false ∧ m.dst ≠ s.dev.fid ∧ s.dev.held c.message.1 c.message.2 = false ∧ s.dev.copyBehind c = false ∧ ((s.dev.row.msgs.takeWhile fun x => x.id != id).any fun x => x.dst == m.dst && x.mailbox == m.mailbox) = false ∧ s.dev.row.reqs.countP (·.sent) + s.dev.row.msgs.countP (·.sent) < 4096 ∧ routed ∧ s.dev.fenced m.dst = false ∧ s.dev.routable s.dev.version 2 m.dst = true ∧ s.dev.present c.message.1 c.message.2 = false := by decide +kernel
theorem wit_requestsAreSent_2 : let id : Nat := 3; let a : Nat := 4; let s : State := sRq [rq .write] (fb (fun f => { f with live0 := [⟨1, 1⟩] }) net); let r : RowReq := rq .write; let f := s.dev.memberFid r.member; let routed := s.dev.flag FB_CTRL_enable = true ∧ s.dev.fld FB_STATUS_state ≠ 3 ∧ s.dev.inMap f = true ∧ s.dev.absent f = false; s.dev.findReq id = some r ∧ r.sent = false ∧ r.owner = .access a ∧ s.dev.reqWaits r = false ∧ r.member ≠ fidX s.dev.fid ∧ routed ∧ s.dev.fenced f = true := by decide +kernel


/-- A collective's record: kind, algorithm, start frame, count, deadline, format, wire, op, flags, root, and tally 65535 if it has one. -/
def recB (kind alg start count deadline fmt wire op flags : Nat) (tally : Bool := false) (root : Nat := 0) : List Byte :=
  padTo 128 (leBytes 4 0x77 ++ leBytes 2 4095 ++ leBytes 1 kind ++ leBytes 1 alg ++ leBytes 8 start ++ leBytes 8 0x4000 ++ leBytes 8 0x8000 ++
    leBytes 8 count ++ leBytes 4 deadline ++ leBytes 1 fmt ++ leBytes 1 wire ++ leBytes 1 op ++ leBytes 1 flags ++ leBytes 2 root ++ leBytes 2 65535 ++
    leBytes 1 (b2n tally))
def ar (start : Nat := 64) (deadline : Nat := 64) (tally : Bool := false) : List Byte := recB 1 2 start 4096 deadline 0 0 0 0 tally
/-- Group 4095: coordinates 0 to 2 on X. -/
def grp (d : Dev := net) : Dev := mk [(CE_GROUP_BOX_valid 4095, 1), (CE_GROUP_BOX_x_hi 4095, 2), (CE_CTRL_enable, 1), (CE_STATUS_digest_present, 1)] d
def sRec (b : List Byte) (d : Dev := grp) : State := st (d.writeClean 0x1000 b)
def co (b : List Byte) (id : Nat := 1) : Coll := collOf b id none
def held (l : List Coll) (d : Dev := grp) : Dev := { d with coll := { d.coll with held := l } }
def begunC (c : Coll) : Coll := { c with begun := some 64, opened := true }
def sealC (n : Nat) : Coll := { co (recB 6 0 64 0 64 0 0 0 4) with begun := some 64, dataDone := true, sentDone := n, toSum := 0 }
/-- A class 3 cell of coordinate 1: type, stage, low bits of the start frame, tag, length. -/
def ccC (type stage f tag len : Nat) (id : Nat := 5) : RxCell :=
  ⟨id, 0, 0, 3, 600, ⟨type * 2 ^ 28 + 4095 * 2 ^ 16 + stage * 2 ^ 10 + f, len, 0, 0, 1, 0, 3, 0, 1, 0, padTo 256 (leBytes 4 0x3F800000), tag * 2 ^ 32⟩⟩
def doneC (stage start lag : Nat) : List Byte := leBytes 2 4095 ++ leBytes 1 stage ++ [0] ++ leBytes 4 0x77 ++ leBytes 8 start ++ leBytes 2 lag ++ leBytes 2 lag ++ leBytes 4 1
def agC : Coll := { begunC (co (recB 3 0 64 16 64 0 0 0 0)) with cells := [ccC 0 0 64 0x77 64], toWrite := 2 }
def sDones (x : CollDones) (f : Nat) : State := st (fr f { grp with coll := { dones := [x] } })
def abC (reason : Nat) : List Byte := leBytes 2 4095 ++ zeros 2 ++ leBytes 4 0x77 ++ leBytes 8 64 ++ leBytes 2 reason ++ zeros 2 ++ leBytes 4 2 ++ leBytes 8 9
def repeats (f : Nat) : State := st (fr f { grp with coll := { aborts := [⟨6, 4095, 0x77, abC 1, 100, 164⟩] } })
def digs (f a b : Nat) : List Byte := leBytes 4 0x77 ++ leBytes 4 f ++ leBytes 8 a ++ leBytes 8 b
def dg : Dev := { grp with coll := { digests := [⟨0x77, 3, [(1, 5, 6)]⟩] } }
def asking (d : Dev := dg) : Dev := { d with cp := { qps := [qpr], cmds := [{ cmd 0x0502 [4095, 0x77] with phase := .running, aux := [3, 1] }] } }
/-- 64 held collectives of group 5. -/
def others : List Coll := (List.range 64).map fun i => { co (ar (100 + i)) i with record := (ar (100 + i)).take 4 ++ leBytes 2 5 ++ (ar (100 + i)).drop 6 }
/-- An all-reduce whose source lies outside memory. -/
def far : Coll := co (ar.take 16 ++ leBytes 8 (2 ^ 47 - 128) ++ ar.drop 24)
/-- A command whose narrow accesses have been made. -/
def asked (c : Cmd) : Cmd := { c with asked := true }
/-- An all-reduce of 16 values with another source, and one with its source in the seam of die 0, which is being initialised. -/
def from_ (a : Nat) : Coll := let b := recB 1 2 64 16 64 0 0 0 0; co (b.take 16 ++ leBytes 8 a ++ b.drop 24)
def inits (d : Dev := grp) : Dev := { d with ram := { d.ram with seamInit := [0] } }
/-- Collectives of 64 partial sums each, and an all-reduce that waits for a cell; 64 such fill the accumulation memory. -/
def sums (c : Coll) : Coll := { c with slots := (List.range 64).map fun i => ⟨0, 1, i, none, [], [], []⟩ }
def fullC : Coll := sums { begunC (co ar) with cells := [ccC 0 0 64 0x77 256] }
def fullS : State := st (held (fullC :: (others.take 63).map fun c => sums { c with id := c.id + 100 }))

theorem wit_recordsAreSubmitted_1 : let v : Word64 := 2 ^ 47; let s : State := st grp; let a := wget v 47 6 * 64; s.dev.ready = true ∧ s.dev.cp.d3hot = false ∧ s.dev.inBatch CE_SUBMIT = false ∧ s.dev.held a 128 = false ∧ s.dev.present a 128 = false := by decide +kernel
theorem wit_recordsAreSubmitted_2 : let v : Word64 := 0x1000; let s : State := st ((grp.write 0x1000 (ar) fun w => w == 0x107)); let a := wget v 47 6 * 64; let t := s.dev.scrub a 128; s.dev.ready = true ∧ s.dev.cp.d3hot = false ∧ s.dev.inBatch CE_SUBMIT = false ∧ s.dev.held a 128 = false ∧ s.dev.present a 128 = true ∧ t.poisoned a 128 = true := by decide +kernel
theorem wit_recordsAreSubmitted_3 : let v : Word64 := 0x1000; let s : State := sRec ar; let a := wget v 47 6 * 64; let t := s.dev.scrub a 128; let c := collOf (t.bytesAt a 128) t.nextId none; let r := t.checkRecord c; s.dev.ready = true ∧ s.dev.cp.d3hot = false ∧ s.dev.inBatch CE_SUBMIT = false ∧ s.dev.held a 128 = false ∧ s.dev.present a 128 = true ∧ t.poisoned a 128 = false ∧ r = 0 := by decide +kernel
theorem wit_recordsAreSubmitted_4 : let v : Word64 := 0x1000; let s : State := sRec (ar 63); let a := wget v 47 6 * 64; let t := s.dev.scrub a 128; let c := collOf (t.bytesAt a 128) t.nextId none; let r := t.checkRecord c; s.dev.ready = true ∧ s.dev.cp.d3hot = false ∧ s.dev.inBatch CE_SUBMIT = false ∧ s.dev.held a 128 = false ∧ s.dev.present a 128 = true ∧ t.poisoned a 128 = false ∧ r ≠ 0 ∧ c.tally = none := by decide +kernel
theorem wit_recordsAreSubmitted_5 : let v : Word64 := 0x1000; let s : State := sRec (ar 63 64 true); let a := wget v 47 6 * 64; let t := s.dev.scrub a 128; let c := collOf (t.bytesAt a 128) t.nextId none; let r := t.checkRecord c; let x := 65535; s.dev.ready = true ∧ s.dev.cp.d3hot = false ∧ s.dev.inBatch CE_SUBMIT = false ∧ s.dev.held a 128 = false ∧ s.dev.present a 128 = true ∧ t.poisoned a 128 = false ∧ r ≠ 0 ∧ r < 65536 ∧ c.tally = some x := by decide +kernel
theorem wit_recordsAreSubmitted_8 : let id : Nat := 21; let s : State := sC (asked (cmd 0x0500 [2 ^ 47])); let c : Cmd := asked (cmd 0x0500 [2 ^ 47]); let a := c.p 0; let n := narrowAsked s.dev c (if a % 64 = 0 ∧ s.dev.present a 128 = true then [(a, 128)] else []); (s.dev.findCmd id = some c ∧ c.opcode = 0x0500 ∧ c.phase = .begun) ∧ c.id = id ∧ s.dev.held a 128 = false ∧ n.narrowBusy (.command id) = false ∧ s.dev.present a 128 = false := by decide +kernel
theorem wit_recordsAreSubmitted_9 : let id : Nat := 21; let s : State := sC (asked (cmd 0x0500 [0x1000])) (grp.writeClean 0x1000 ar); let c : Cmd := asked (cmd 0x0500 [0x1000]); let a := c.p 0; let n := narrowAsked s.dev c (if a % 64 = 0 ∧ s.dev.present a 128 = true then [(a, 128)] else []); let t := n.scrub a 128; let x := collOf (t.bytesAt a 128) t.nextId (some id); let r := if a % 64 ≠ 0 then 0x0103 else t.checkRecord x; (s.dev.findCmd id = some c ∧ c.opcode = 0x0500 ∧ c.phase = .begun) ∧ c.id = id ∧ s.dev.held a 128 = false ∧ n.narrowBusy (.command id) = false ∧ s.dev.present a 128 = true ∧ t.poisoned a 128 = false ∧ r = 0 := by decide +kernel
theorem wit_recordsAreSubmitted_10 : let id : Nat := 21; let s : State := sC (asked (cmd 0x0500 [0x1000])) (grp.writeClean 0x1000 (ar 64 (2 ^ 24 + 1))); let c : Cmd := asked (cmd 0x0500 [0x1000]); let a := c.p 0; let n := narrowAsked s.dev c (if a % 64 = 0 ∧ s.dev.present a 128 = true then [(a, 128)] else []); let t := n.scrub a 128; let x := collOf (t.bytesAt a 128) t.nextId (some id); let r := if a % 64 ≠ 0 then 0x0103 else t.checkRecord x; (s.dev.findCmd id = some c ∧ c.opcode = 0x0500 ∧ c.phase = .begun) ∧ c.id = id ∧ s.dev.held a 128 = false ∧ n.narrowBusy (.command id) = false ∧ s.dev.present a 128 = true ∧ t.poisoned a 128 = false ∧ r ≠ 0 ∧ x.tally = none := by decide +kernel
theorem wit_recordsAreSubmitted_10_b : let id : Nat := 21; let s : State := sC (asked (cmd 0x0500 [0x1001])) (grp.writeClean 0x1001 ar); let c : Cmd := asked (cmd 0x0500 [0x1001]); let a := c.p 0; let n := narrowAsked s.dev c (if a % 64 = 0 ∧ s.dev.present a 128 = true then [(a, 128)] else []); let t := n.scrub a 128; let x := collOf (t.bytesAt a 128) t.nextId (some id); let r := if a % 64 ≠ 0 then 0x0103 else t.checkRecord x; (s.dev.findCmd id = some c ∧ c.opcode = 0x0500 ∧ c.phase = .begun) ∧ c.id = id ∧ s.dev.held a 128 = false ∧ n.narrowBusy (.command id) = false ∧ s.dev.present a 128 = true ∧ t.poisoned a 128 = false ∧ r ≠ 0 ∧ x.tally = none := by decide +kernel
theorem wit_recordsAreCheckedInOrder_0 : let c : Coll := co (recB 9 0 64 1 64 0 0 0 0); (c.kind = 0 ∨ 8 < c.kind ∨ 4096 ≤ c.group ∨ 3 < c.alg ∨ 2 < c.wire ∨ 2 < c.op) := by decide +kernel
theorem wit_recordsAreCheckedInOrder_0_b : let c : Coll := co (recB 1 4 64 1 64 0 0 0 0); (c.kind = 0 ∨ 8 < c.kind ∨ 4096 ≤ c.group ∨ 3 < c.alg ∨ 2 < c.wire ∨ 2 < c.op) := by decide +kernel
theorem wit_recordsAreCheckedInOrder_0_c : let c : Coll := co (recB 1 0 64 1 64 0 3 0 0); (c.kind = 0 ∨ 8 < c.kind ∨ 4096 ≤ c.group ∨ 3 < c.alg ∨ 2 < c.wire ∨ 2 < c.op) := by decide +kernel
theorem wit_recordsAreCheckedInOrder_1 : let d : Dev := mk [(CE_GROUP_BOX_valid 4095, 0)] grp; let c : Coll := co ar; d.recordClean c = true ∧ (d.flag (CE_GROUP_BOX_valid c.group) = false ∨ c.rowOk = false ∨ d.directOk c = false) := by decide +kernel
theorem wit_recordsAreCheckedInOrder_1_b : let d : Dev := grp; let c : Coll := co (recB 1 0 64 1 64 3 0 0 0); d.recordClean c = true ∧ (d.flag (CE_GROUP_BOX_valid c.group) = false ∨ c.rowOk = false ∨ d.directOk c = false) := by decide +kernel
theorem wit_recordsAreCheckedInOrder_2 : let d : Dev := mk [(CE_STATUS_apply_present, 0)] grp; let c : Coll := co ((recB 8 0 64 1 64 0 0 0 0).take 114 ++ [1] ++ zeros 13); let units := (c.kind = 7 ∨ c.kind = 8) → d.flag CE_STATUS_apply_present = true; d.recordClean c = true ∧ d.flag (CE_GROUP_BOX_valid c.group) = true ∧ c.rowOk = true ∧ d.directOk c = true ∧ ¬ units := by decide +kernel
theorem wit_recordsAreCheckedInOrder_3 : let d : Dev := grp; let c : Coll := co (ar 63); let box := d.boxOf c.group; let units := (c.kind = 7 ∨ c.kind = 8) → d.flag CE_STATUS_apply_present = true; d.recordClean c = true ∧ d.flag (CE_GROUP_BOX_valid c.group) = true ∧ c.rowOk = true ∧ d.directOk c = true ∧ units ∧ (c.start < d.frame + 64 ∨ d.frame + 2 ^ 28 < c.start ∨ c.deadline < 64 ∨ 2 ^ 24 < c.deadline ∨ (c.kind ≠ 6 ∧ (c.count = 0 ∨ 2 ^ 38 < c.count)) ∨ (c.kind = 4 ∧ boxSize box ≤ c.root)) := by decide +kernel
theorem wit_recordsAreCheckedInOrder_3_b : let d : Dev := grp; let c : Coll := co (ar (2 ^ 28 + 1)); let box := d.boxOf c.group; let units := (c.kind = 7 ∨ c.kind = 8) → d.flag CE_STATUS_apply_present = true; d.recordClean c = true ∧ d.flag (CE_GROUP_BOX_valid c.group) = true ∧ c.rowOk = true ∧ d.directOk c = true ∧ units ∧ (c.start < d.frame + 64 ∨ d.frame + 2 ^ 28 < c.start ∨ c.deadline < 64 ∨ 2 ^ 24 < c.deadline ∨ (c.kind ≠ 6 ∧ (c.count = 0 ∨ 2 ^ 38 < c.count)) ∨ (c.kind = 4 ∧ boxSize box ≤ c.root)) := by decide +kernel
theorem wit_recordsAreCheckedInOrder_3_c : let d : Dev := grp; let c : Coll := co (ar 64 63); let box := d.boxOf c.group; let units := (c.kind = 7 ∨ c.kind = 8) → d.flag CE_STATUS_apply_present = true; d.recordClean c = true ∧ d.flag (CE_GROUP_BOX_valid c.group) = true ∧ c.rowOk = true ∧ d.directOk c = true ∧ units ∧ (c.start < d.frame + 64 ∨ d.frame + 2 ^ 28 < c.start ∨ c.deadline < 64 ∨ 2 ^ 24 < c.deadline ∨ (c.kind ≠ 6 ∧ (c.count = 0 ∨ 2 ^ 38 < c.count)) ∨ (c.kind = 4 ∧ boxSize box ≤ c.root)) := by decide +kernel
theorem wit_recordsAreCheckedInOrder_3_d : let d : Dev := grp; let c : Coll := co (recB 1 0 64 (2 ^ 38 + 1) 64 0 0 0 0); let box := d.boxOf c.group; let units := (c.kind = 7 ∨ c.kind = 8) → d.flag CE_STATUS_apply_present = true; d.recordClean c = true ∧ d.flag (CE_GROUP_BOX_valid c.group) = true ∧ c.rowOk = true ∧ d.directOk c = true ∧ units ∧ (c.start < d.frame + 64 ∨ d.frame + 2 ^ 28 < c.start ∨ c.deadline < 64 ∨ 2 ^ 24 < c.deadline ∨ (c.kind ≠ 6 ∧ (c.count = 0 ∨ 2 ^ 38 < c.count)) ∨ (c.kind = 4 ∧ boxSize box ≤ c.root)) := by decide +kernel
theorem wit_recordsAreCheckedInOrder_4 : let d : Dev := held [co (ar 65)]; let c : Coll := co (ar 64) 2; let units := (c.kind = 7 ∨ c.kind = 8) → d.flag CE_STATUS_apply_present = true; let twin := ∃ x ∈ d.coll.held, x.group = c.group ∧ (x.start = c.start ∨ x.tag = c.tag); d.recordClean c = true ∧ d.flag (CE_GROUP_BOX_valid c.group) = true ∧ c.rowOk = true ∧ d.directOk c = true ∧ units ∧ d.countsOk c = true ∧ twin := by decide +kernel
theorem wit_recordsAreCheckedInOrder_5 : let d : Dev := { grp with fab := { grp.fab with live0 := [⟨2, 1⟩] } }; let c : Coll := co ar; let box := d.boxOf c.group; let units := (c.kind = 7 ∨ c.kind = 8) → d.flag CE_STATUS_apply_present = true; let twin := ∃ x ∈ d.coll.held, x.group = c.group ∧ (x.start = c.start ∨ x.tag = c.tag); d.recordClean c = true ∧ d.flag (CE_GROUP_BOX_valid c.group) = true ∧ c.rowOk = true ∧ d.directOk c = true ∧ units ∧ d.countsOk c = true ∧ ¬ twin ∧ d.rollbackLate c = false ∧ (∃ f ∈ members box, d.fenced f = true) := by decide +kernel
theorem wit_recordsAreCheckedInOrder_6 : let d : Dev := { grp with fab := { grp.fab with live0 := [⟨2, 2⟩] } }; let c : Coll := co ar; let box := d.boxOf c.group; let units := (c.kind = 7 ∨ c.kind = 8) → d.flag CE_STATUS_apply_present = true; let twin := ∃ x ∈ d.coll.held, x.group = c.group ∧ (x.start = c.start ∨ x.tag = c.tag); d.recordClean c = true ∧ d.flag (CE_GROUP_BOX_valid c.group) = true ∧ c.rowOk = true ∧ d.directOk c = true ∧ units ∧ d.countsOk c = true ∧ ¬ twin ∧ d.rollbackLate c = false ∧ (∀ f ∈ members box, d.fenced f = false) ∧ (∃ f ∈ members box, d.absent f = true ∨ d.inMap f = false) := by decide +kernel
theorem wit_recordsAreCheckedInOrder_7 : let d : Dev := grp; let c : Coll := co (recB 1 3 (2 ^ 28) (2 ^ 38) (2 ^ 24) 0 1 2 7); let box := d.boxOf c.group; let units := (c.kind = 7 ∨ c.kind = 8) → d.flag CE_STATUS_apply_present = true; let twin := ∃ x ∈ d.coll.held, x.group = c.group ∧ (x.start = c.start ∨ x.tag = c.tag); d.recordClean c = true ∧ d.flag (CE_GROUP_BOX_valid c.group) = true ∧ c.rowOk = true ∧ d.directOk c = true ∧ units ∧ d.countsOk c = true ∧ ¬ twin ∧ d.rollbackLate c = false ∧ (∀ f ∈ members box, d.fenced f = false ∧ d.absent f = false ∧ d.inMap f = true) := by decide +kernel
theorem wit_recordsAreCheckedInOrder_7_b : let d : Dev := mk [(CE_CTRL_enable, 0)] grp; let c : Coll := co ar; let box := d.boxOf c.group; let units := (c.kind = 7 ∨ c.kind = 8) → d.flag CE_STATUS_apply_present = true; let twin := ∃ x ∈ d.coll.held, x.group = c.group ∧ (x.start = c.start ∨ x.tag = c.tag); d.recordClean c = true ∧ d.flag (CE_GROUP_BOX_valid c.group) = true ∧ c.rowOk = true ∧ d.directOk c = true ∧ units ∧ d.countsOk c = true ∧ ¬ twin ∧ d.rollbackLate c = false ∧ (∀ f ∈ members box, d.fenced f = false ∧ d.absent f = false ∧ d.inMap f = true) := by decide +kernel
theorem wit_groupsAreDescribed_0 : let g : Nat := 4095; let v : Word64 := 2 ^ 63 + 2 ^ 28; let s : State := st (held [co ar] (grp)); let old := s.dev.reg (CE_GROUP_BOX g); let moves := wget v 55 24 ≠ wget old 55 24; let busy := (∃ c ∈ s.dev.coll.held, c.group = g) ∨ (wget old 63 63 = 1 ∧ moves) ∨ (s.dev.flag CE_CTRL_enable = true ∧ (moves ∨ wget v 63 63 ≠ wget old 63 63)); g < 4096 ∧ s.dev.ready = true ∧ s.dev.cp.d3hot = false ∧ s.dev.inBatch (CE_GROUP_BOX g) = false ∧ busy := by decide +kernel
theorem wit_groupsAreDescribed_1 : let g : Nat := 4095; let v : Word64 := 2 ^ 63 + 3 * 2 ^ 28 + 2 ^ 36 + 2 ^ 44; let s : State := st net; let old := s.dev.reg (CE_GROUP_BOX g); let moves := wget v 55 24 ≠ wget old 55 24; let busy := (∃ c ∈ s.dev.coll.held, c.group = g) ∨ (wget old 63 63 = 1 ∧ moves) ∨ (s.dev.flag CE_CTRL_enable = true ∧ (moves ∨ wget v 63 63 ≠ wget old 63 63)); g < 4096 ∧ s.dev.ready = true ∧ s.dev.cp.d3hot = false ∧ s.dev.inBatch (CE_GROUP_BOX g) = false ∧ ¬ busy := by decide +kernel
theorem wit_groupsAreDescribed_1_b : let g : Nat := 4095; let v : Word64 := 2 ^ 63 + 4 * 2 ^ 28; let s : State := st net; let old := s.dev.reg (CE_GROUP_BOX g); let moves := wget v 55 24 ≠ wget old 55 24; let busy := (∃ c ∈ s.dev.coll.held, c.group = g) ∨ (wget old 63 63 = 1 ∧ moves) ∨ (s.dev.flag CE_CTRL_enable = true ∧ (moves ∨ wget v 63 63 ≠ wget old 63 63)); g < 4096 ∧ s.dev.ready = true ∧ s.dev.cp.d3hot = false ∧ s.dev.inBatch (CE_GROUP_BOX g) = false ∧ ¬ busy := by decide +kernel
theorem wit_collectivesBegin_1 : let id : Nat := 1; let s : State := st (held [co ar] (fr 63 grp)); let c : Coll := co ar; s.dev.findColl id = some c ∧ c.id = id ∧ c.begun = none ∧ (s.dev.flag CE_CTRL_enable = false ∨ s.dev.frame < c.start ∨ (∃ x ∈ s.dev.coll.held, x.id ≠ id ∧ x.group = c.group ∧ (x.begun ≠ none ∨ x.start < c.start))) := by decide +kernel
theorem wit_collectivesBegin_1_b : let id : Nat := 1; let s : State := st (held [co ar, { begunC (co (ar 70) 2) with record := (ar 70) }] (fr 64 grp)); let c : Coll := co ar; s.dev.findColl id = some c ∧ c.id = id ∧ c.begun = none ∧ (s.dev.flag CE_CTRL_enable = false ∨ s.dev.frame < c.start ∨ (∃ x ∈ s.dev.coll.held, x.id ≠ id ∧ x.group = c.group ∧ (x.begun ≠ none ∨ x.start < c.start))) := by decide +kernel
theorem wit_collectivesBegin_2 : let id : Nat := 1; let s : State := st (held [far] (fr 64 grp)); let c : Coll := far; let ranges := (s.dev.view c).ranges; let mayOpen := c.opened = false ∧ (c.begun ≠ none ∨ s.dev.mayBegin c = true); s.dev.findColl id = some c ∧ c.id = id ∧ mayOpen ∧ (∃ r ∈ ranges, s.dev.present r.1 r.2 = false) := by decide +kernel
theorem wit_collectivesBegin_6 : let id : Nat := 1; let s : State := st (held [co (recB 6 0 64 0 64 0 0 0 0 true)] (fr 64 grp)); let c : Coll := co (recB 6 0 64 0 64 0 0 0 0 true); let t := 65535; s.dev.findColl id = some c ∧ c.id = id ∧ c.opened = false ∧ s.dev.mayBegin c = true ∧ c.kind = 6 ∧ c.group < 4096 ∧ c.dataDone = false ∧ c.completed = false ∧ c.seal = false ∧ c.tally = some t := by decide +kernel
theorem wit_collectivesBegin_7 : let id : Nat := 1; let s : State := st (held [co (recB 6 0 64 0 64 0 0 0 4)] (fr 64 grp)); let c : Coll := co (recB 6 0 64 0 64 0 0 0 4); let a := 0; let rest := ([] : List Nat); s.dev.findColl id = some c ∧ c.id = id ∧ c.opened = false ∧ s.dev.mayBegin c = true ∧ c.kind = 6 ∧ c.group < 4096 ∧ c.dataDone = false ∧ c.completed = false ∧ c.seal = true ∧ c.heard = [] ∧ c.sentDone = 0 ∧ boxAxes (s.dev.boxOf c.group) = a :: rest := by decide +kernel
theorem wit_collectiveCellsAreMatched_0 : let rx : Nat := 5; let s : State := sRx (ccC 0 0 64 0x77 64) (held [co ar]); let r : RxCell := ccC 0 0 64 0x77 64; let g := bitsOf r.cell.op 27 16; let f := bitsOf r.cell.op 9 0; let tag := bitsOf r.cell.acct 63 32; let x := co ar; s.dev.rxCell rx = some r ∧ r.cell.cls = 3 ∧ s.dev.collNamed g tag = some x ∧ s.dev.findColl x.id = some x ∧ x.start % 1024 = f := by decide +kernel
theorem wit_collectiveCellsAreMatched_1 : let rx : Nat := 5; let s : State := sRx (ccC 0 0 65 0x77 64) (held [co ar]); let r : RxCell := ccC 0 0 65 0x77 64; let g := bitsOf r.cell.op 27 16; let f := bitsOf r.cell.op 9 0; let tag := bitsOf r.cell.acct 63 32; let x := co ar; s.dev.rxCell rx = some r ∧ r.cell.cls = 3 ∧ s.dev.collNamed g tag = some x ∧ s.dev.findColl x.id = some x ∧ x.start % 1024 ≠ f := by decide +kernel
theorem wit_collectiveCellsAreMatched_2 : let rx : Nat := 5; let s : State := sRx (ccC 0 0 64 0x78 64) { grp with coll := { ended := [(4095, 0x78)] } }; let r : RxCell := ccC 0 0 64 0x78 64; let g := bitsOf r.cell.op 27 16; let tag := bitsOf r.cell.acct 63 32; s.dev.rxCell rx = some r ∧ r.cell.cls = 3 ∧ s.dev.collNamed g tag = none ∧ (g, tag) ∈ s.dev.coll.ended := by decide +kernel
theorem wit_collectiveCellsAreMatched_3 : let rx : Nat := 5; let s : State := sRx (ccC 0 0 64 0x78 64) grp; let r : RxCell := ccC 0 0 64 0x78 64; let g := bitsOf r.cell.op 27 16; let tag := bitsOf r.cell.acct 63 32; s.dev.rxCell rx = some r ∧ r.cell.cls = 3 ∧ s.dev.collNamed g tag = none ∧ (g, tag) ∉ s.dev.coll.ended := by decide +kernel
theorem wit_collectiveCellsAreTaken_0 : let rx : Nat := 5; let s : State := st (held [{ co ar with cells := [ccC 0 0 64 0x77 64] }]); let c : Coll := { co ar with cells := [ccC 0 0 64 0x77 64] }; let r : RxCell := ccC 0 0 64 0x77 64; s.dev.coll.held.find? (fun x => x.cells.any (·.id == rx)) = some c ∧ s.dev.findColl c.id = some c ∧ c.cells.find? (fun x => x.id == rx) = some r ∧ c.opened = false := by decide +kernel
theorem wit_collectiveCellsAreTaken_3 : let rx : Nat := 5; let s : State := st (held [{ begunC (co ar) with cells := [ccC 0 9 64 0x77 64] }]); let c : Coll := { begunC (co ar) with cells := [ccC 0 9 64 0x77 64] }; let r : RxCell := ccC 0 9 64 0x77 64; let v := s.dev.view c; s.dev.coll.held.find? (fun x => x.cells.any (·.id == rx)) = some c ∧ s.dev.findColl c.id = some c ∧ c.cells.find? (fun x => x.id == rx) = some r ∧ c.opened = true ∧ (∀ r ∈ v.ranges, s.dev.present r.1 r.2 = true) ∧ (∀ r ∈ v.ranges, s.dev.held r.1 r.2 = false) ∧ v.placeOf r.cell = none := by decide +kernel
theorem wit_collectiveCellsAreTaken_5 : let rx : Nat := 5; let s : State := st (held [{ begunC (co ar) with cells := [ccC 0 0 64 0x77 256] }]); let c : Coll := { begunC (co ar) with cells := [ccC 0 0 64 0x77 256] }; let r : RxCell := ccC 0 0 64 0x77 256; let v := s.dev.view c; let p := r.cell.collPart; let si := r.cell.collStage; let st := (⟨.reduce, 0, 0⟩ : Stage); let q := 0; let pos := 0; let old := c.slot p si q; s.dev.coll.held.find? (fun x => x.cells.any (·.id == rx)) = some c ∧ s.dev.findColl c.id = some c ∧ c.cells.find? (fun x => x.id == rx) = some r ∧ c.opened = true ∧ (∀ r ∈ v.ranges, s.dev.present r.1 r.2 = true) ∧ (∀ r ∈ v.ranges, s.dev.held r.1 r.2 = false) ∧ v.placeOf r.cell = some (st, q, pos) ∧ s.dev.roomFor v p st si q = true ∧ (st.mode = .reduce ∨ st.mode = .whole) ∧ r.cell.collType ≠ 2 ∧ old.own = none := by decide +kernel
theorem wit_collectiveCellsAreTaken_6 : let rx : Nat := 5; let s : State := st (held [agC]); let c : Coll := agC; let r : RxCell := ccC 0 0 64 0x77 64; let v := s.dev.view c; let data := r.cell.payload.take r.cell.len; let p := r.cell.collPart; let si := r.cell.collStage; let st := (⟨.gather, 0, 0⟩ : Stage); let q := 1; let pos := 0; let e := 4; s.dev.coll.held.find? (fun x => x.cells.any (·.id == rx)) = some c ∧ s.dev.findColl c.id = some c ∧ c.cells.find? (fun x => x.id == rx) = some r ∧ c.opened = true ∧ (∀ r ∈ v.ranges, s.dev.present r.1 r.2 = true) ∧ (∀ r ∈ v.ranges, s.dev.held r.1 r.2 = false) ∧ v.placeOf r.cell = some (st, q, pos) ∧ s.dev.roomFor v p st si q = true ∧ c.kind = 3 ∧ c.fmt.bits = 8 * e ∧ 0 < c.count ∧ c.count * e ≤ 256 ∧ data.length = c.count * e ∧ r.cell.collType ≠ 2 ∧ (v.stages 0).length = si + 1 ∧ p = 0 ∧ (c.slot 0 si q).cells = [] ∧ 2 ≤ c.toWrite ∧ c.completed = false := by decide +kernel
theorem wit_collectivesAreSealed_0 : let rx : Nat := 5; let s : State := sB 0x21 (doneC 0 65 3) (held [sealC 1]); let r : RxCell := bellC 0x21 (doneC 0 65 3); let c : Coll := sealC 1; let pl := r.cell.payload; let stage := leAt pl 2 1; let repeated := ∃ h ∈ c.heard, h.1 = stage ∧ h.2.1 = r.cell.src; (s.dev.rxCell rx = some r ∧ r.cell.cls = 4 ∧ r.cell.bellKind = 0x21) ∧ s.dev.collNamed (leAt pl 0 2) (leAt pl 4 4) = some c ∧ s.dev.findColl c.id = some c ∧ (c.start ≠ leAt pl 8 8 ∨ repeated) := by decide +kernel
theorem wit_collectivesAreSealed_1 : let rx : Nat := 5; let s : State := sB 0x21 (doneC 0 64 3) (held [begunC (co ar)]); let r : RxCell := bellC 0x21 (doneC 0 64 3); let c : Coll := begunC (co ar); let pl := r.cell.payload; let stage := leAt pl 2 1; let repeated := ∃ h ∈ c.heard, h.1 = stage ∧ h.2.1 = r.cell.src; (s.dev.rxCell rx = some r ∧ r.cell.cls = 4 ∧ r.cell.bellKind = 0x21) ∧ s.dev.collNamed (leAt pl 0 2) (leAt pl 4 4) = some c ∧ s.dev.findColl c.id = some c ∧ c.start = leAt pl 8 8 ∧ ¬ repeated ∧ c.dataDone = false := by decide +kernel
theorem wit_collectivesAreSealed_2 : let rx : Nat := 5; let s : State := sB 0x21 (doneC 0 64 3) (held [{ sealC 1 with heard := [(0, 2, 5)] }]); let r : RxCell := bellC 0x21 (doneC 0 64 3); let c : Coll := { sealC 1 with heard := [(0, 2, 5)] }; let pl := r.cell.payload; let stage := leAt pl 2 1; let axes := boxAxes (s.dev.boxOf c.group); let repeated := ∃ h ∈ c.heard, h.1 = stage ∧ h.2.1 = r.cell.src; (s.dev.rxCell rx = some r ∧ r.cell.cls = 4 ∧ r.cell.bellKind = 0x21) ∧ s.dev.collNamed (leAt pl 0 2) (leAt pl 4 4) = some c ∧ s.dev.findColl c.id = some c ∧ c.start = leAt pl 8 8 ∧ ¬ repeated ∧ c.dataDone = true ∧ c.completed = false ∧ c.toSum = 0 ∧ c.group < 4096 ∧ c.sentDone = axes.length ∧ (∀ a, axes.getLast? = some a → ∀ f ∈ axisPartners (s.dev.boxOf c.group) s.dev.fid a, (stage + 1 = axes.length ∧ f = r.cell.src) ∨ ∃ h ∈ c.heard, h.1 + 1 = axes.length ∧ h.2.1 = f) := by decide +kernel
theorem wit_collectivesAreSealed_3 : let id : Nat := 1; let s : State := sDones ⟨1, 4095, [(0, 2008, doneC 0 64 3)], some 1000⟩ 2025; let x : CollDones := ⟨1, 4095, [(0, 2008, doneC 0 64 3)], some 1000⟩; let f := 1000; s.dev.coll.dones.find? (fun y => y.coll == id) = some x ∧ x.sealedAt = some f ∧ f + 1024 < s.dev.frame := by decide +kernel
theorem wit_collectivesAreSealed_4 : let id : Nat := 1; let s : State := sDones ⟨1, 4095, [(0, 2008, doneC 0 64 3)], some 1000⟩ 2024; let x : CollDones := ⟨1, 4095, [(0, 2008, doneC 0 64 3)], some 1000⟩; s.dev.coll.dones.find? (fun y => y.coll == id) = some x ∧ (∀ f, x.sealedAt = some f → s.dev.frame ≤ f + 1024) := by decide +kernel
theorem wit_collectivesAreAborted_0 : let rx : Nat := 5; let s : State := sB 0x20 (abC 0x0602) (held [co ar]); let r : RxCell := bellC 0x20 (abC 0x0602); (s.dev.rxCell rx = some r ∧ r.cell.cls = 4 ∧ r.cell.bellKind = 0x20) := by decide +kernel
theorem wit_collectivesAreAborted_1 : let id : Nat := 1; let s : State := st (held [co ar] (fr 128 grp)); let c : Coll := co ar; s.dev.findColl id = some c ∧ c.dataDone = false ∧ c.start + c.deadline ≤ s.dev.frame := by decide +kernel
theorem wit_collectivesAreAborted_2 : let id : Nat := 1; let s : State := st (held [co ar] (fr 127 grp)); let c : Coll := co ar; s.dev.findColl id = some c ∧ (c.dataDone = true ∨ s.dev.frame < c.start + c.deadline) := by decide +kernel
theorem wit_collectivesAreAborted_3 : let id : Nat := 21; let s : State := sC (cmd 0x0501 [4095, 0x77]) (held [co ar]); let c : Cmd := cmd 0x0501 [4095, 0x77]; let g := c.p 0 % 4096; let tag := c.p 1 % 2 ^ 32; let x := co ar; (s.dev.findCmd id = some c ∧ c.opcode = 0x0501 ∧ c.phase = .begun) ∧ s.dev.collNamed g tag = some x := by decide +kernel
theorem wit_collectivesAreAborted_5 : let id : Nat := 21; let s : State := sC (cmd 0x0501 [4095, 0x77]) grp; let c : Cmd := cmd 0x0501 [4095, 0x77]; let g := c.p 0 % 4096; let tag := c.p 1 % 2 ^ 32; (s.dev.findCmd id = some c ∧ c.opcode = 0x0501 ∧ c.phase = .begun) ∧ s.dev.collNamed g tag = none := by decide +kernel
theorem wit_collectivesAreAborted_6 : let id : Nat := 6; let s : State := repeats 1124; let a : CollAbort := ⟨6, 4095, 0x77, abC 1, 100, 164⟩; s.dev.coll.aborts.find? (fun x => x.id == id) = some a ∧ a.next ≤ s.dev.frame ∧ s.dev.frame ≤ a.since + 1024 := by decide +kernel
theorem wit_collectivesAreAborted_7 : let id : Nat := 6; let s : State := repeats 1125; let a : CollAbort := ⟨6, 4095, 0x77, abC 1, 100, 164⟩; s.dev.coll.aborts.find? (fun x => x.id == id) = some a ∧ (s.dev.frame < a.next ∨ a.since + 1024 < s.dev.frame) := by decide +kernel
theorem wit_collectivesAreAborted_7_b : let id : Nat := 6; let s : State := repeats 163; let a : CollAbort := ⟨6, 4095, 0x77, abC 1, 100, 164⟩; s.dev.coll.aborts.find? (fun x => x.id == id) = some a ∧ (s.dev.frame < a.next ∨ a.since + 1024 < s.dev.frame) := by decide +kernel
theorem wit_collectivesAreAborted_8 : let v : Word64 := 1; let s : State := st grp; s.dev.ready = true ∧ s.dev.cp.d3hot = false ∧ s.dev.inBatch CE_CTRL = false ∧ bitAt v.toNat 0 = true := by decide +kernel
theorem wit_collectivesAreAborted_9 : let v : Word64 := 0; let s : State := st (held [co ar, co (ar 70) 2]); s.dev.ready = true ∧ s.dev.cp.d3hot = false ∧ s.dev.inBatch CE_CTRL = false ∧ bitAt v.toNat 0 = false ∧ s.dev.flag CE_CTRL_enable = true := by decide +kernel
theorem wit_collectivesAreAborted_10 : let v : Word64 := 0; let s : State := st (mk [(CE_CTRL_enable, 0)] grp); s.dev.ready = true ∧ s.dev.cp.d3hot = false ∧ s.dev.inBatch CE_CTRL = false ∧ bitAt v.toNat 0 = false ∧ s.dev.flag CE_CTRL_enable = false := by decide +kernel
theorem wit_digestsAreCompared_0 : let rx : Nat := 5; let s : State := sB 0x22 (digs 1 0 0) dg; let r : RxCell := bellC 0x22 (digs 1 0 0); let f := leAt r.cell.payload 4 4; (s.dev.rxCell rx = some r ∧ r.cell.cls = 4 ∧ r.cell.bellKind = 0x22) ∧ ((s.dev).pathsTo f ≠ [] ∨ (s.dev).nextHop (s.dev).version 4 f ≠ none) := by decide +kernel
theorem wit_digestsAreCompared_1 : let rx : Nat := 5; let s : State := sB 0x22 (digs 0 0 0) dg; let r : RxCell := bellC 0x22 (digs 0 0 0); let f := leAt r.cell.payload 4 4; (s.dev.rxCell rx = some r ∧ r.cell.cls = 4 ∧ r.cell.bellKind = 0x22) ∧ ¬ ((s.dev).pathsTo f ≠ [] ∨ (s.dev).nextHop (s.dev).version 4 f ≠ none) := by decide +kernel
theorem wit_digestsAreCompared_2 : let rx : Nat := 5; let s : State := sB 0x23 (digs 1 6 5) dg; let r : RxCell := bellC 0x23 (digs 1 6 5); let pl := r.cell.payload; let tag := leAt pl 0 4; let f := leAt pl 4 4; let x := s.dev.digestsFor tag f; let asked := s.dev.cp.cmds.filter fun c => c.opcode == 0x0502 && c.phase == .running && c.p 1 % 2 ^ 32 == tag; (s.dev.rxCell rx = some r ∧ r.cell.cls = 4 ∧ r.cell.bellKind = 0x23) ∧ leAt pl 8 8 = x.2.toNat ∧ leAt pl 16 8 = x.1.toNat ∧ asked = [] := by decide +kernel
theorem wit_digestsAreCompared_3 : let rx : Nat := 5; let s : State := sB 0x23 (digs 1 6 5) asking; let r : RxCell := bellC 0x23 (digs 1 6 5); let pl := r.cell.payload; let tag := leAt pl 0 4; let f := leAt pl 4 4; let x := s.dev.digestsFor tag f; let asked := s.dev.cp.cmds.filter fun c => c.opcode == 0x0502 && c.phase == .running && c.p 1 % 2 ^ 32 == tag; let c := { cmd 0x0502 [4095, 0x77] with phase := .running, aux := [3, 1] }; let n := 3; (s.dev.rxCell rx = some r ∧ r.cell.cls = 4 ∧ r.cell.bellKind = 0x23) ∧ leAt pl 8 8 = x.2.toNat ∧ leAt pl 16 8 = x.1.toNat ∧ asked = [c] ∧ c.aux = [n, f] := by decide +kernel
theorem wit_digestsAreCompared_4 : let rx : Nat := 5; let s : State := sB 0x23 (digs 1 7 5) dg; let r : RxCell := bellC 0x23 (digs 1 7 5); let pl := r.cell.payload; let tag := leAt pl 0 4; let f := leAt pl 4 4; let x := s.dev.digestsFor tag f; let asked := s.dev.cp.cmds.filter fun c => c.opcode == 0x0502 && c.phase == .running && c.p 1 % 2 ^ 32 == tag; (s.dev.rxCell rx = some r ∧ r.cell.cls = 4 ∧ r.cell.bellKind = 0x23) ∧ leAt pl 8 8 ≠ x.2.toNat ∧ leAt pl 16 8 = x.1.toNat ∧ asked = [] := by decide +kernel
theorem wit_digestsAreCompared_5 : let id : Nat := 21; let s : State := sC (cmd 0x0502 [4095, 0x77]) net; let c : Cmd := cmd 0x0502 [4095, 0x77]; (s.dev.findCmd id = some c ∧ c.opcode = 0x0502 ∧ c.phase = .begun) ∧ c.id = id ∧ s.dev.flag CE_STATUS_digest_present = false := by decide +kernel
theorem wit_digestsAreCompared_6 : let id : Nat := 21; let s : State := sC (cmd 0x0502 [4094, 0x77]) grp; let c : Cmd := cmd 0x0502 [4094, 0x77]; let partners := s.dev.groupPartners (c.p 0 % 4096); (s.dev.findCmd id = some c ∧ c.opcode = 0x0502 ∧ c.phase = .begun) ∧ c.id = id ∧ s.dev.flag CE_STATUS_digest_present = true ∧ partners = [] := by decide +kernel
theorem wit_digestsAreCompared_7 : let id : Nat := 21; let s : State := sC (cmd 0x0502 [4095, 0x77]) grp; let c : Cmd := cmd 0x0502 [4095, 0x77]; let partners := s.dev.groupPartners (c.p 0 % 4096); (s.dev.findCmd id = some c ∧ c.opcode = 0x0502 ∧ c.phase = .begun) ∧ c.id = id ∧ s.dev.flag CE_STATUS_digest_present = true ∧ partners ≠ [] := by decide +kernel
theorem wit_recordsAreSubmitted_0 : let v : Word64 := BitVec.ofNat 64 (seamBase + 0x1000); let s : State := st inits; let a := wget v 47 6 * 64; s.dev.ready = true ∧ s.dev.cp.d3hot = false ∧ s.dev.inBatch CE_SUBMIT = false ∧ s.dev.held a 128 = true := by decide +kernel
theorem wit_recordsAreSubmitted_6 : let id : Nat := 21; let s : State := sC (cmd 0x0500 [seamBase + 0x1000]) inits; let c : Cmd := cmd 0x0500 [seamBase + 0x1000]; let a := c.p 0; (s.dev.findCmd id = some c ∧ c.opcode = 0x0500 ∧ c.phase = .begun) ∧ c.id = id ∧ s.dev.held a 128 = true := by decide +kernel
theorem wit_recordsAreSubmitted_7 : let id : Nat := 21; let s : State := sC (cmd 0x0500 [0x1000]) grp; let c : Cmd := cmd 0x0500 [0x1000]; let a := c.p 0; let n := narrowAsked s.dev c (if a % 64 = 0 ∧ s.dev.present a 128 = true then [(a, 128)] else []); (s.dev.findCmd id = some c ∧ c.opcode = 0x0500 ∧ c.phase = .begun) ∧ c.id = id ∧ s.dev.held a 128 = false ∧ n.narrowBusy (.command id) = true := by decide +kernel
theorem wit_recordsAreSubmitted_11 : let id : Nat := 21; let s : State := sC (asked (cmd 0x0500 [0x1000])) (grp.writeClean 0x1000 (ar 63 64 true)); let c : Cmd := asked (cmd 0x0500 [0x1000]); let a := c.p 0; let n := narrowAsked s.dev c (if a % 64 = 0 ∧ s.dev.present a 128 = true then [(a, 128)] else []); let t := n.scrub a 128; let x := collOf (t.bytesAt a 128) t.nextId (some id); let r := if a % 64 ≠ 0 then 0x0103 else t.checkRecord x; let w := 65535; (s.dev.findCmd id = some c ∧ c.opcode = 0x0500 ∧ c.phase = .begun) ∧ c.id = id ∧ s.dev.held a 128 = false ∧ n.narrowBusy (.command id) = false ∧ s.dev.present a 128 = true ∧ t.poisoned a 128 = false ∧ r ≠ 0 ∧ x.tally = some w := by decide +kernel
theorem wit_collectivesBegin_0 : let id : Nat := 1; let s : State := st (held [begunC (co ar)] (fr 64 grp)); let c : Coll := begunC (co ar); s.dev.findColl id = some c ∧ c.id = id ∧ c.opened = true := by decide +kernel
theorem wit_collectivesBegin_3 : let id : Nat := 1; let s : State := st (held [from_ seamBase] (fr 64 inits)); let c : Coll := from_ seamBase; let ranges := (s.dev.view c).ranges; s.dev.findColl id = some c ∧ c.id = id ∧ (∀ r ∈ ranges, s.dev.present r.1 r.2 = true) ∧ c.opened = false ∧ s.dev.mayBegin c = true ∧ (∃ r ∈ ranges, s.dev.held r.1 r.2 = true) := by decide +kernel
theorem wit_collectivesBegin_4 : let id : Nat := 1; let s : State := st (held [{ from_ seamBase with begun := some 64 }] (fr 64 inits)); let c : Coll := { from_ seamBase with begun := some 64 }; let ranges := (s.dev.view c).ranges; s.dev.findColl id = some c ∧ c.id = id ∧ (∀ r ∈ ranges, s.dev.present r.1 r.2 = true) ∧ c.opened = false ∧ c.begun ≠ none ∧ ((∃ r ∈ ranges, s.dev.held r.1 r.2 = true) ∨ s.dev.narrowBusy (.tables id) = true) := by decide +kernel
theorem wit_collectivesBegin_5 : let id : Nat := 1; let s : State := st (held [{ from_ 0x4000 with begun := some 64 }] (fr 64 (grp.write 0x4000 (List.replicate 16 7) fun _ => true))); let c : Coll := { from_ 0x4000 with begun := some 64 }; let ranges := (s.dev.view c).ranges; let reads := s.dev.collReads (s.dev.view c); let t := (reads ++ (s.dev.view c).scales).foldl (fun d r => d.scrub r.1 r.2) s.dev; s.dev.findColl id = some c ∧ c.id = id ∧ (∀ r ∈ ranges, s.dev.present r.1 r.2 = true) ∧ c.opened = false ∧ c.begun ≠ none ∧ (∀ r ∈ ranges, s.dev.held r.1 r.2 = false) ∧ s.dev.narrowBusy (.tables id) = false ∧ s.dev.collNamed c.group c.tag = some c ∧ (∃ r ∈ reads, t.poisoned r.1 r.2 = true) := by decide +kernel
theorem wit_collectiveCellsAreTaken_1 : let rx : Nat := 5; let s : State := st (held [{ begunC far with cells := [ccC 0 0 64 0x77 64] }]); let c : Coll := { begunC far with cells := [ccC 0 0 64 0x77 64] }; let r : RxCell := ccC 0 0 64 0x77 64; let v := s.dev.view c; s.dev.coll.held.find? (fun x => x.cells.any (·.id == rx)) = some c ∧ s.dev.findColl c.id = some c ∧ c.cells.find? (fun x => x.id == rx) = some r ∧ c.opened = true ∧ (∃ r ∈ v.ranges, s.dev.present r.1 r.2 = false) := by decide +kernel
theorem wit_collectiveCellsAreTaken_2 : let rx : Nat := 5; let s : State := st (held [{ begunC (from_ seamBase) with cells := [ccC 0 0 64 0x77 64] }] inits); let c : Coll := { begunC (from_ seamBase) with cells := [ccC 0 0 64 0x77 64] }; let r : RxCell := ccC 0 0 64 0x77 64; let v := s.dev.view c; s.dev.coll.held.find? (fun x => x.cells.any (·.id == rx)) = some c ∧ s.dev.findColl c.id = some c ∧ c.cells.find? (fun x => x.id == rx) = some r ∧ c.opened = true ∧ (∀ r ∈ v.ranges, s.dev.present r.1 r.2 = true) ∧ (∃ r ∈ v.ranges, s.dev.held r.1 r.2 = true) := by decide +kernel
theorem wit_collectiveCellsAreTaken_4 : let rx : Nat := 5; let s : State := fullS; let c : Coll := fullC; let r : RxCell := ccC 0 0 64 0x77 256; let v := s.dev.view c; let p := r.cell.collPart; let si := r.cell.collStage; let st := (⟨.reduce, 0, 0⟩ : Stage); let q := 0; let pos := 0; s.dev.coll.held.find? (fun x => x.cells.any (·.id == rx)) = some c ∧ s.dev.findColl c.id = some c ∧ c.cells.find? (fun x => x.id == rx) = some r ∧ c.opened = true ∧ (∀ r ∈ v.ranges, s.dev.present r.1 r.2 = true) ∧ (∀ r ∈ v.ranges, s.dev.held r.1 r.2 = false) ∧ v.placeOf r.cell = some (st, q, pos) ∧ s.dev.roomFor v p st si q = false := by decide +kernel


/-- A HEARTBEAT of device f: flags, hops, frame, target. -/
def hb (f flags hops sent tgt : Nat) : List Byte := leBytes 4 f ++ [0, 0] ++ leBytes 1 flags ++ leBytes 1 hops ++ leBytes 8 sent ++ zeros 8 ++ leBytes 4 tgt
def sHb (pl : List Byte) (d : Dev := net) : State := sB 0x10 pl d
def cnr (f : CanarySt → CanarySt) (d : Dev := net) : Dev := { d with canary := f d.canary }
def can (d : Dev := net) : Dev := mk [(FT_CANARY_CTRL_enable, 1)] d
/-- The same row seen from coordinate 1. -/
def net1 : Dev := can (mk [(FB_ID_id, 1)] net)
/-- Device 0 suspects 1, which 2 votes dead too, since frame 100; and device 1 suspects 2, which 0 votes dead. -/
def vrd (fr_ : Nat) : Dev := cnr (fun c => { c with suspects := [(1, 50)], votes := [⟨1, 2, 820⟩], quorum := [(1, 100)] }) (can (fr fr_))
def vrd1 (fr_ : Nat) : Dev := cnr (fun c => { c with suspects := [(2, 50)], votes := [⟨2, 0, 820⟩], quorum := [(2, 100)] }) (fr fr_ net1)
def late (f : Nat) : Dev := cnr (fun c => { c with verdicts := [(1, 800)] }) (can (fr f))
def mino (f : Nat) : Dev := cnr (fun c => { c with minorityAt := some 0 }) (can (fr f))
def zn (z : Nat) (x : Zone) (d : Dev := host) : Dev := { d with tm := { d.tm with zones := [(z, x)] } }
/-- Sensors of zone 0 read t sixteenths. -/
def hot (t : Nat) (d : Dev) : Dev := mk [(TM_SENS_temp 0 0, t), (TM_SENS_temp 0 23, t)] d
def poi (a : Nat) : Dev := net.write a (List.replicate 16 7) fun _ => true
def asmC : Assembly := ⟨6, 1, 1023, 9, 1, 100, 11900, [(0, [1], false)], [(0, 1, false), (0, 1, false)]⟩
def sAsm (f : Nat) : State := st { fr f with row := { asm := [asmC] } }
def lr (r : RxCell) : State := st { net with net := { net.net with rx := [r] }, row := { reqs := [{ sent (rq .read) with seq := 6 }], msgs := [{ sentMsg with seq := 6 }] } }
def ltm (f : ThermalSt → ThermalSt) (d : Dev := host) : Dev := { d with tm := f d.tm }
def logs (n : Nat) : Dev := { cold with ft := { log := List.replicate n (zeros 32), lost := 5 } }

theorem wit_eventsAreClassified_0 : let s : State := st { net with faults := [] }; s.dev.faults = [] := by decide +kernel
theorem wit_eventsAreClassified_1 : let s : State := st { net with faults := [⟨0xFF, 1, 2, 3⟩] }; let e : FaultEv := ⟨0xFF, 1, 2, 3⟩; let t : List FaultEv := ([] : List FaultEv); let was := s.dev.struck; was.faults = e :: t ∧ was.srcFits e.src = false := by decide +kernel
theorem wit_eventsAreClassified_2 : let s : State := st { net with faults := [⟨9, 1, 2, 3⟩] }; let e : FaultEv := ⟨9, 1, 2, 3⟩; let t : List FaultEv := ([] : List FaultEv); let was := s.dev.struck; let i := e.src; let closed := ∃ f ∈ (smFind was.ft.opened i).toList, f + was.fld (FT_SRC_CFG_window i) ≤ was.frame; let thr := was.fld (FT_SRC_CFG_threshold i); let esc := ∃ j < 256, was.fld (FT_SRC_STAT_pending j) = 1 ∧ 1 ≤ was.fld (FT_SRC_STAT_level j) ∧ was.fld (FT_SRC_CFG_class j) = was.fld (FT_SRC_CFG_class i); let n := 1; let hit := 0; let up := 0; was.faults = e :: t ∧ was.srcFits e.src = true ∧ n = min 4095 ((if closed then 0 else was.fld (FT_SRC_STAT_count i)) + 1) ∧ (hit = 1 ↔ thr ≠ 0 ∧ thr ≤ n) ∧ (up = 1 ↔ esc) ∧ hit ≤ 1 ∧ up ≤ 1 := by decide +kernel
theorem wit_eventsAreClassified_2_b : let s : State := st { mk [(FT_SRC_STAT_count 9, 63), (FT_SRC_STAT_pending 255, 1), (FT_SRC_STAT_level 255, 1), (FT_SRC_CFG_class 255, 3), (FT_SRC_CFG_class 9, 3)] with faults := [⟨9, 1, 2, 3⟩] }; let e : FaultEv := ⟨9, 1, 2, 3⟩; let t : List FaultEv := ([] : List FaultEv); let was := s.dev.struck; let i := e.src; let closed := ∃ f ∈ (smFind was.ft.opened i).toList, f + was.fld (FT_SRC_CFG_window i) ≤ was.frame; let thr := was.fld (FT_SRC_CFG_threshold i); let esc := ∃ j < 256, was.fld (FT_SRC_STAT_pending j) = 1 ∧ 1 ≤ was.fld (FT_SRC_STAT_level j) ∧ was.fld (FT_SRC_CFG_class j) = was.fld (FT_SRC_CFG_class i); let n := 64; let hit := 1; let up := 1; was.faults = e :: t ∧ was.srcFits e.src = true ∧ n = min 4095 ((if closed then 0 else was.fld (FT_SRC_STAT_count i)) + 1) ∧ (hit = 1 ↔ thr ≠ 0 ∧ thr ≤ n) ∧ (up = 1 ↔ esc) ∧ hit ≤ 1 ∧ up ≤ 1 := by decide +kernel
theorem wit_faultsAreClearedAndRead_2 : let id : Nat := 21; let s : State := sC (cmd 0x0602 [0x9000, 16, 4]); let c : Cmd := cmd 0x0602 [0x9000, 16, 4]; let set := c.p 2 % 256; (s.dev.findCmd id = some c ∧ c.opcode = 0x0602 ∧ c.phase = .begun) ∧ 3 < set := by decide +kernel
theorem wit_faultsAreClearedAndRead_3 : let id : Nat := 21; let s : State := sC (cmd 0x0602 [0x9000, 23, 3]) { cold with ft := { margins := [(3 * 4096, (1, 1))] } }; let c : Cmd := cmd 0x0602 [0x9000, 23, 3]; let set := c.p 2 % 256; let es := s.dev.marginEntries set; (s.dev.findCmd id = some c ∧ c.opcode = 0x0602 ∧ c.phase = .begun) ∧ set ≤ 3 ∧ c.p 1 < 16 + 8 * es.length := by decide +kernel
theorem wit_faultsAreClearedAndRead_4 : let id : Nat := 21; let s : State := sC (cmd 0x0602 [0x9000, 24, 3]) { cold with ft := { margins := [(3 * 4096, (1, 1))] } }; let c : Cmd := cmd 0x0602 [0x9000, 24, 3]; let set := c.p 2 % 256; let es := s.dev.marginEntries set; (s.dev.findCmd id = some c ∧ c.opcode = 0x0602 ∧ c.phase = .begun) ∧ set ≤ 3 ∧ 16 + 8 * es.length ≤ c.p 1 := by decide +kernel
theorem wit_marginsAreSampled_0 : let s : State := st (fr 1023); (s.dev.frame % 1024 ≠ 0 ∨ s.dev.ft.sampledAt = s.dev.frame) := by decide +kernel
theorem wit_marginsAreSampled_0_b : let s : State := st { fr 1024 with ft := { sampledAt := 1024 } }; (s.dev.frame % 1024 ≠ 0 ∨ s.dev.ft.sampledAt = s.dev.frame) := by decide +kernel
theorem wit_marginsAreSampled_1 : let v : List Int := List.replicate 12 24; let t : List Int := List.replicate 96 20; let s : State := st (fr 1024); s.dev.frame % 1024 = 0 ∧ s.dev.ft.sampledAt ≠ s.dev.frame ∧ v.length = 12 ∧ t.length = 96 := by decide +kernel
theorem wit_heartbeatsAreSentAndJudged_0 : let s : State := st (fr 63); (s.dev.flag FB_CTRL_enable = false ∨ s.dev.frame % 64 ≠ 0 ∨ s.dev.canary.beatAt = some s.dev.frame) := by decide +kernel
theorem wit_heartbeatsAreSentAndJudged_0_b : let s : State := st (cnr (fun c => { c with beatAt := some 64 }) (fr 64)); (s.dev.flag FB_CTRL_enable = false ∨ s.dev.frame % 64 ≠ 0 ∨ s.dev.canary.beatAt = some s.dev.frame) := by decide +kernel
theorem wit_heartbeatsAreSentAndJudged_1 : let s : State := st (fr 64); s.dev.flag FB_CTRL_enable = true ∧ s.dev.frame % 64 = 0 ∧ s.dev.fid ≠ noFid ∧ s.dev.canary.beatAt ≠ some s.dev.frame := by decide +kernel
theorem wit_heartbeatsAreSentAndJudged_2 : let rx : Nat := 5; let s : State := sHb (hb 1 0 0 64 0); let r : RxCell := bellC 0x10 (hb 1 0 0 64 0); let pl := r.cell.payload; (s.dev.rxCell rx = some r ∧ r.cell.cls = 4 ∧ r.cell.bellKind = 0x10) ∧ bitAt (leAt pl 6 1) 1 = false ∧ bitAt (leAt pl 6 1) 0 = false := by decide +kernel
theorem wit_heartbeatsAreSentAndJudged_2_b : let rx : Nat := 5; let s : State := sHb (hb 1 0 0 64 0) (cnr fun c => { c with suspects := [(1, 63)] }); let r : RxCell := bellC 0x10 (hb 1 0 0 64 0); let pl := r.cell.payload; (s.dev.rxCell rx = some r ∧ r.cell.cls = 4 ∧ r.cell.bellKind = 0x10) ∧ bitAt (leAt pl 6 1) 1 = false ∧ bitAt (leAt pl 6 1) 0 = false := by decide +kernel
theorem wit_heartbeatsAreSentAndJudged_3 : let rx : Nat := 5; let s : State := sHb (hb 1 1 0 64 0); let r : RxCell := bellC 0x10 (hb 1 1 0 64 0); let pl := r.cell.payload; (s.dev.rxCell rx = some r ∧ r.cell.cls = 4 ∧ r.cell.bellKind = 0x10) ∧ bitAt (leAt pl 6 1) 1 = false ∧ bitAt (leAt pl 6 1) 0 = true ∧ s.dev.flag FB_CTRL_enable = true ∧ s.dev.selfFenced = false := by decide +kernel
theorem wit_heartbeatsAreSentAndJudged_4 : let rx : Nat := 5; let s : State := sHb (hb 2 2 6 64 1); let r : RxCell := bellC 0x10 (hb 2 2 6 64 1); let pl := r.cell.payload; (s.dev.rxCell rx = some r ∧ r.cell.cls = 4 ∧ r.cell.bellKind = 0x10) ∧ bitAt (leAt pl 6 1) 1 = true ∧ leAt pl 24 4 ≠ s.dev.fid ∧ (s.dev.selfFenced = true ∨ 6 ≤ leAt pl 7 1) := by decide +kernel
theorem wit_heartbeatsAreSentAndJudged_5 : let rx : Nat := 5; let s : State := sHb (hb 2 2 5 64 1); let r : RxCell := bellC 0x10 (hb 2 2 5 64 1); let pl := r.cell.payload; let p := 0; let y := 1; (s.dev.rxCell rx = some r ∧ r.cell.cls = 4 ∧ r.cell.bellKind = 0x10) ∧ bitAt (leAt pl 6 1) 1 = true ∧ leAt pl 24 4 ≠ s.dev.fid ∧ s.dev.selfFenced = false ∧ leAt pl 7 1 < 6 ∧ s.dev.nextHop s.dev.version 4 (leAt pl 24 4) = some (p, y) := by decide +kernel
theorem wit_heartbeatsAreSentAndJudged_6 : let x : Nat := 1; let f : Nat := 1; let s : State := st (fr 7); let due := (s.dev.frame - 8) / 64 * 64; s.dev.partnerX x = some f ∧ x < 16 ∧ (s.dev.flag FB_CTRL_enable = false ∨ s.dev.frame < 8 ∨ smFind s.dev.canary.checked x = some due) := by decide +kernel
theorem wit_heartbeatsAreSentAndJudged_7 : let x : Nat := 1; let f : Nat := 1; let s : State := st (cnr (fun c => { c with heard := [(1, ⟨64, 72, 0, [64]⟩)] }) (fr 72)); let due := (s.dev.frame - 8) / 64 * 64; let came := ∃ h ∈ (smFind s.dev.canary.heard f).toList, due ∈ h.inTime; s.dev.partnerX x = some f ∧ x < 16 ∧ s.dev.flag FB_CTRL_enable = true ∧ 8 ≤ s.dev.frame ∧ smFind s.dev.canary.checked x = none ∧ came := by decide +kernel
theorem wit_heartbeatsAreSentAndJudged_8 : let x : Nat := 1; let f : Nat := 1; let s : State := st (cnr (fun c => { c with heard := [(1, ⟨64, 73, 0, []⟩)] }) (mk [(FT_CANARY_PEER_missed 1, 7)] (fr 80))); let due := (s.dev.frame - 8) / 64 * 64; let came := ∃ h ∈ (smFind s.dev.canary.heard f).toList, due ∈ h.inTime; let n := s.dev.fld (FT_CANARY_PEER_missed x) + 1; s.dev.partnerX x = some f ∧ x < 16 ∧ s.dev.flag FB_CTRL_enable = true ∧ 8 ≤ s.dev.frame ∧ smFind s.dev.canary.checked x = none ∧ ¬ came ∧ liveState (s.dev.liveSet s.dev.version) f = 0 ∧ s.dev.suspects x = false ∧ s.dev.rowLive x = true ∧ s.dev.fld FT_CANARY_TIMING_missed ≤ n := by decide +kernel
theorem wit_heartbeatsAreSentAndJudged_9 : let x : Nat := 1; let f : Nat := 1; let s : State := st (mk [(FT_CANARY_PEER_missed 1, 6)] (fr 80)); let due := (s.dev.frame - 8) / 64 * 64; let came := ∃ h ∈ (smFind s.dev.canary.heard f).toList, due ∈ h.inTime; let n := s.dev.fld (FT_CANARY_PEER_missed x) + 1; s.dev.partnerX x = some f ∧ x < 16 ∧ s.dev.flag FB_CTRL_enable = true ∧ 8 ≤ s.dev.frame ∧ smFind s.dev.canary.checked x = none ∧ ¬ came ∧ liveState (s.dev.liveSet s.dev.version) f = 0 ∧ s.dev.suspects x = false ∧ s.dev.rowLive x = true ∧ n < s.dev.fld FT_CANARY_TIMING_missed := by decide +kernel
theorem wit_suspicionsAreVotedOn_0 : let x : Nat := 1; let b : Nat := 10; let s : State := st (cnr (fun c => { c with suspects := [(1, 10)] }) (can (fr 10))); let due := (smFind s.dev.canary.voted x = none ∧ b < s.dev.frame) ∨ ∃ f ∈ (smFind s.dev.canary.voted x).toList, f + 16 ≤ s.dev.frame; smFind s.dev.canary.suspects x = some b ∧ ¬ (s.dev.flag FT_CANARY_CTRL_enable = true ∧ due) := by decide +kernel
theorem wit_suspicionsAreVotedOn_1 : let x : Nat := 1; let b : Nat := 10; let s : State := st (cnr (fun c => { c with suspects := [(1, 10)] }) (can (fr 11))); let due := (smFind s.dev.canary.voted x = none ∧ b < s.dev.frame) ∨ ∃ f ∈ (smFind s.dev.canary.voted x).toList, f + 16 ≤ s.dev.frame; smFind s.dev.canary.suspects x = some b ∧ s.dev.flag FT_CANARY_CTRL_enable = true ∧ due := by decide +kernel
theorem wit_suspicionsAreVotedOn_1_b : let x : Nat := 1; let b : Nat := 10; let s : State := st (cnr (fun c => { c with suspects := [(1, 10)], voted := [(1, 11)] }) (can (fr 27))); let due := (smFind s.dev.canary.voted x = none ∧ b < s.dev.frame) ∨ ∃ f ∈ (smFind s.dev.canary.voted x).toList, f + 16 ≤ s.dev.frame; smFind s.dev.canary.suspects x = some b ∧ s.dev.flag FT_CANARY_CTRL_enable = true ∧ due := by decide +kernel
theorem wit_suspicionsAreVotedOn_2 : let rx : Nat := 5; let v : Nat := 1; let t : Nat := 2; let c : Instr := .suspect 5; let s : State := sB 0x11 (leBytes 4 1 ++ leBytes 4 2); let r : RxCell := bellC 0x11 (leBytes 4 1 ++ leBytes 4 2); s.dev.rowX (leAt r.cell.payload 0 4) = some v ∧ s.dev.rowX (leAt r.cell.payload 4 4) = some t ∧ c = .suspect rx ∧ (s.dev.rxCell rx = some r ∧ r.cell.cls = 4 ∧ r.cell.bellKind = 0x11) ∧ v ≠ fidX s.dev.fid ∧ s.dev.rowLive t = true := by decide +kernel
theorem wit_suspicionsAreVotedOn_3 : let rx : Nat := 5; let v : Nat := 0; let t : Nat := 2; let c : Instr := .suspect 5; let s : State := sB 0x11 (leBytes 4 0 ++ leBytes 4 2); let r : RxCell := bellC 0x11 (leBytes 4 0 ++ leBytes 4 2); s.dev.rowX (leAt r.cell.payload 0 4) = some v ∧ s.dev.rowX (leAt r.cell.payload 4 4) = some t ∧ c = .suspect rx ∧ (s.dev.rxCell rx = some r ∧ r.cell.cls = 4 ∧ r.cell.bellKind = 0x11) ∧ (v = fidX s.dev.fid ∨ s.dev.rowLive t = false) := by decide +kernel
theorem wit_suspicionsAreVotedOn_4 : let rx : Nat := 5; let v : Nat := 1; let t : Nat := 2; let c : Instr := .retract 5; let s : State := sB 0x12 (leBytes 4 1 ++ leBytes 4 2) (cnr fun c => { c with votes := [⟨2, 1, 200⟩] }); let r : RxCell := bellC 0x12 (leBytes 4 1 ++ leBytes 4 2); s.dev.rowX (leAt r.cell.payload 0 4) = some v ∧ s.dev.rowX (leAt r.cell.payload 4 4) = some t ∧ c = .retract rx ∧ (s.dev.rxCell rx = some r ∧ r.cell.cls = 4 ∧ r.cell.bellKind = 0x12) := by decide +kernel
theorem wit_suspicionsAreVotedOn_5 : let t : Nat := 2; let v : Nat := 1; let s : State := st (cnr (fun c => { c with votes := [⟨2, 1, 10⟩] }) (fr 74)); (∃ w ∈ s.dev.canary.votes, w.suspect = t ∧ w.voter = v ∧ w.at_ + 64 ≤ s.dev.frame) := by decide +kernel
theorem wit_suspicionsAreVotedOn_6 : let t : Nat := 2; let v : Nat := 1; let s : State := st (cnr (fun c => { c with votes := [⟨2, 1, 10⟩] }) (fr 73)); (∀ w ∈ s.dev.canary.votes, w.suspect = t → w.voter = v → s.dev.frame < w.at_ + 64) := by decide +kernel
theorem wit_verdictsFence_0 : let x : Nat := 1; let s : State := st (vrd 868); let f := 100; x < 16 ∧ x ≠ fidX s.dev.fid ∧ s.dev.memberFid x ≠ s.dev.fid ∧ s.dev.fab.map ≠ none ∧ s.dev.selfFenced = false ∧ (s.dev.fid, s.dev.fab.nextEpochSeq) ∉ s.dev.fab.seen ∧ smFind s.dev.canary.quorum x = some f ∧ s.dev.flag FT_CANARY_CTRL_enable = true ∧ s.dev.hasQuorum x = true ∧ x ∉ s.dev.canary.reached ∧ f + s.dev.fld FT_CANARY_TIMING_confirm ≤ s.dev.frame ∧ s.dev.suspects x = true ∧ (s.dev.voters x).head? = some (fidX s.dev.fid) ∧ s.dev.fenceKnown (s.dev.memberFid x) = false := by decide +kernel
theorem wit_verdictsFence_1 : let x : Nat := 2; let s : State := st (vrd1 868); let f := 100; x < 16 ∧ x ≠ fidX s.dev.fid ∧ s.dev.memberFid x ≠ s.dev.fid ∧ s.dev.fab.map ≠ none ∧ s.dev.selfFenced = false ∧ (s.dev.fid, s.dev.fab.nextEpochSeq) ∉ s.dev.fab.seen ∧ smFind s.dev.canary.quorum x = some f ∧ s.dev.flag FT_CANARY_CTRL_enable = true ∧ s.dev.hasQuorum x = true ∧ x ∉ s.dev.canary.reached ∧ f + s.dev.fld FT_CANARY_TIMING_confirm ≤ s.dev.frame ∧ s.dev.suspects x = true ∧ (s.dev.voters x).head? ≠ some (fidX s.dev.fid) := by decide +kernel
theorem wit_verdictsFence_2 : let x : Nat := 1; let s : State := st (vrd 867); let f := 100; x < 16 ∧ x ≠ fidX s.dev.fid ∧ s.dev.memberFid x ≠ s.dev.fid ∧ s.dev.fab.map ≠ none ∧ s.dev.selfFenced = false ∧ (s.dev.fid, s.dev.fab.nextEpochSeq) ∉ s.dev.fab.seen ∧ smFind s.dev.canary.quorum x = some f ∧ s.dev.flag FT_CANARY_CTRL_enable = true ∧ s.dev.hasQuorum x = true ∧ x ∉ s.dev.canary.reached ∧ s.dev.frame < f + s.dev.fld FT_CANARY_TIMING_confirm := by decide +kernel
theorem wit_verdictsFence_3 : let x : Nat := 1; let s : State := st (late 864); let f := 800; x < 16 ∧ x ≠ fidX s.dev.fid ∧ s.dev.memberFid x ≠ s.dev.fid ∧ s.dev.fab.map ≠ none ∧ s.dev.selfFenced = false ∧ (s.dev.fid, s.dev.fab.nextEpochSeq) ∉ s.dev.fab.seen ∧ smFind s.dev.canary.verdicts x = some f ∧ s.dev.flag FT_CANARY_CTRL_enable = true ∧ f + 64 ≤ s.dev.frame := by decide +kernel
theorem wit_verdictsFence_4 : let x : Nat := 1; let s : State := st (late 863); let f := 800; x < 16 ∧ x ≠ fidX s.dev.fid ∧ s.dev.memberFid x ≠ s.dev.fid ∧ s.dev.fab.map ≠ none ∧ s.dev.selfFenced = false ∧ (s.dev.fid, s.dev.fab.nextEpochSeq) ∉ s.dev.fab.seen ∧ smFind s.dev.canary.verdicts x = some f ∧ (s.dev.flag FT_CANARY_CTRL_enable = false ∨ s.dev.frame < f + 64) := by decide +kernel
theorem wit_verdictsFence_5 : let x : Nat := 1; let s : State := sB 0x13 (leBytes 4 1) can; let rx := 5; let r := bellC 0x13 (leBytes 4 1); let first := (List.range 16).find? fun y => y != x && s.dev.rowLive y; x < 16 ∧ x ≠ fidX s.dev.fid ∧ s.dev.memberFid x ≠ s.dev.fid ∧ s.dev.fab.map ≠ none ∧ s.dev.selfFenced = false ∧ (s.dev.fid, s.dev.fab.nextEpochSeq) ∉ s.dev.fab.seen ∧ (s.dev.rxCell rx = some r ∧ r.cell.cls = 4 ∧ r.cell.bellKind = 0x13) ∧ s.dev.rowX (leAt r.cell.payload 0 4) = some x ∧ s.dev.flag FT_CANARY_CTRL_enable = true ∧ s.dev.rowLive x = true ∧ x ∉ s.dev.canary.reached ∧ s.dev.fenceKnown (s.dev.memberFid x) = false ∧ first = some (fidX s.dev.fid) := by decide +kernel
theorem wit_verdictsFence_6 : let x : Nat := 2; let s : State := sB 0x13 (leBytes 4 2) net1; let rx := 5; let r := bellC 0x13 (leBytes 4 2); let first := (List.range 16).find? fun y => y != x && s.dev.rowLive y; x < 16 ∧ x ≠ fidX s.dev.fid ∧ s.dev.memberFid x ≠ s.dev.fid ∧ s.dev.fab.map ≠ none ∧ s.dev.selfFenced = false ∧ (s.dev.fid, s.dev.fab.nextEpochSeq) ∉ s.dev.fab.seen ∧ (s.dev.rxCell rx = some r ∧ r.cell.cls = 4 ∧ r.cell.bellKind = 0x13) ∧ s.dev.rowX (leAt r.cell.payload 0 4) = some x ∧ s.dev.flag FT_CANARY_CTRL_enable = true ∧ s.dev.rowLive x = true ∧ x ∉ s.dev.canary.reached ∧ s.dev.fenceKnown (s.dev.memberFid x) = false ∧ first ≠ some (fidX s.dev.fid) := by decide +kernel
theorem wit_verdictsFence_7 : let x : Nat := 1; let s : State := sB 0x13 (leBytes 4 1); let rx := 5; let r := bellC 0x13 (leBytes 4 1); x < 16 ∧ x ≠ fidX s.dev.fid ∧ s.dev.memberFid x ≠ s.dev.fid ∧ s.dev.fab.map ≠ none ∧ s.dev.selfFenced = false ∧ (s.dev.fid, s.dev.fab.nextEpochSeq) ∉ s.dev.fab.seen ∧ (s.dev.rxCell rx = some r ∧ r.cell.cls = 4 ∧ r.cell.bellKind = 0x13) ∧ s.dev.rowX (leAt r.cell.payload 0 4) = some x ∧ s.dev.flag FT_CANARY_CTRL_enable = false := by decide +kernel
theorem wit_canaryStates_0 : let f : Nat := 0; let s : State := st (mino 768); s.dev.canary.minorityAt = some f ∧ s.dev.flag FT_CANARY_CTRL_enable = true ∧ s.dev.inMinority = true ∧ s.dev.selfFenced = false ∧ f + s.dev.fld FT_CANARY_TIMING_confirm ≤ s.dev.frame := by decide +kernel
theorem wit_canaryStates_1 : let f : Nat := 0; let s : State := st (mino 767); s.dev.canary.minorityAt = some f ∧ (s.dev.flag FT_CANARY_CTRL_enable = false ∨ s.dev.inMinority = false ∨ s.dev.frame < f + s.dev.fld FT_CANARY_TIMING_confirm) := by decide +kernel
theorem wit_canaryStates_2 : let v : Word64 := 1; let s : State := st host; s.dev.ready = true ∧ s.dev.cp.d3hot = false ∧ s.dev.inBatch FT_CANARY_CTRL = false ∧ bitAt v.toNat 1 = false ∧ bitAt v.toNat 0 = true ∧ s.dev.flag FT_CANARY_CTRL_enable = false ∧ s.dev.flag FB_CTRL_enable = false := by decide +kernel
theorem wit_canaryStates_3 : let v : Word64 := 1; let s : State := st net; s.dev.ready = true ∧ s.dev.cp.d3hot = false ∧ s.dev.inBatch FT_CANARY_CTRL = false ∧ bitAt v.toNat 1 = false ∧ bitAt v.toNat 0 = true ∧ s.dev.flag FB_CTRL_enable = true := by decide +kernel
theorem wit_canaryStates_3_b : let v : Word64 := 1; let s : State := st (mk [(FT_CANARY_STATUS_state, 3)] net); s.dev.ready = true ∧ s.dev.cp.d3hot = false ∧ s.dev.inBatch FT_CANARY_CTRL = false ∧ bitAt v.toNat 1 = false ∧ bitAt v.toNat 0 = true ∧ s.dev.flag FB_CTRL_enable = true := by decide +kernel
theorem wit_canaryStates_4 : let v : Word64 := 0; let s : State := st (mk [(FT_CANARY_STATUS_state, 2)] net); s.dev.ready = true ∧ s.dev.cp.d3hot = false ∧ s.dev.inBatch FT_CANARY_CTRL = false ∧ bitAt v.toNat 1 = false ∧ bitAt v.toNat 0 = false := by decide +kernel
theorem wit_canaryStates_5 : let v : Word64 := 2; let s : State := st (mk [(FT_CANARY_STATUS_state, 1)] net); let st := s.dev.fld FT_CANARY_STATUS_state; s.dev.ready = true ∧ s.dev.cp.d3hot = false ∧ s.dev.inBatch FT_CANARY_CTRL = false ∧ bitAt v.toNat 1 = true ∧ (bitAt v.toNat 0 = false ∨ s.dev.flag FB_CTRL_enable = true) ∧ (st ≠ 3 ∨ ∃ i < 256, (i < 0x0B ∨ 0x0D < i) ∧ s.dev.fld (FT_SRC_STAT_pending i) = 1 ∧ 2 ≤ s.dev.fld (FT_SRC_STAT_level i)) := by decide +kernel
theorem wit_canaryStates_5_b : let v : Word64 := 2; let s : State := st (mk [(FT_CANARY_STATUS_state, 3), (FT_SRC_STAT_pending 10, 1), (FT_SRC_STAT_level 10, 2)] net); let st := s.dev.fld FT_CANARY_STATUS_state; s.dev.ready = true ∧ s.dev.cp.d3hot = false ∧ s.dev.inBatch FT_CANARY_CTRL = false ∧ bitAt v.toNat 1 = true ∧ (bitAt v.toNat 0 = false ∨ s.dev.flag FB_CTRL_enable = true) ∧ (st ≠ 3 ∨ ∃ i < 256, (i < 0x0B ∨ 0x0D < i) ∧ s.dev.fld (FT_SRC_STAT_pending i) = 1 ∧ 2 ≤ s.dev.fld (FT_SRC_STAT_level i)) := by decide +kernel
theorem wit_canaryStates_6 : let v : Word64 := 2; let s : State := st (mk [(FT_CANARY_STATUS_state, 3), (FT_SRC_STAT_pending 11, 1), (FT_SRC_STAT_level 11, 3), (FT_SRC_STAT_pending 14, 1), (FT_SRC_STAT_level 14, 1)] net); let st := s.dev.fld FT_CANARY_STATUS_state; s.dev.ready = true ∧ s.dev.cp.d3hot = false ∧ s.dev.inBatch FT_CANARY_CTRL = false ∧ bitAt v.toNat 1 = true ∧ (bitAt v.toNat 0 = false ∨ s.dev.flag FB_CTRL_enable = true) ∧ st = 3 ∧ (∀ i < 256, (i < 0x0B ∨ 0x0D < i) → s.dev.fld (FT_SRC_STAT_pending i) = 1 → s.dev.fld (FT_SRC_STAT_level i) < 2) := by decide +kernel
theorem wit_samplesJudgeZones_0 : let s : State := st { host with pw := { host.pw with phase := .off } }; s.dev.pw.phase ≠ .on := by decide +kernel
theorem wit_samplesJudgeZones_1 : let s : State := st host; s.dev.pw.phase = .on := by decide +kernel
theorem wit_samplesJudgeZones_2 : let r : SensorReading := ⟨0, 23, 5, -640⟩; let s : State := st host; s.dev.pw.phase = .on ∧ r.zone < 24 ∧ r.sensor < zoneSensors r.zone ∧ s.dev.zoneFitted r.zone = true ∧ s.dev.flag (TM_SENS_invalid r.zone r.sensor) = false ∧ -640 ≤ r.temp ∧ r.temp ≤ 2400 ∧ 0 < r.count ∧ smFind s.dev.tm.runs (r.zone * 32 + r.sensor) = none := by decide +kernel
theorem wit_samplesJudgeZones_2_b : let r : SensorReading := ⟨23, 3, 65535, 2400⟩; let s : State := st host; s.dev.pw.phase = .on ∧ r.zone < 24 ∧ r.sensor < zoneSensors r.zone ∧ s.dev.zoneFitted r.zone = true ∧ s.dev.flag (TM_SENS_invalid r.zone r.sensor) = false ∧ -640 ≤ r.temp ∧ r.temp ≤ 2400 ∧ 0 < r.count ∧ smFind s.dev.tm.runs (r.zone * 32 + r.sensor) = none := by decide +kernel
theorem wit_samplesJudgeZones_3 : let r : SensorReading := ⟨0, 23, 5, -641⟩; let s : State := st host; s.dev.pw.phase = .on ∧ r.zone < 24 ∧ r.sensor < zoneSensors r.zone ∧ s.dev.zoneFitted r.zone = true ∧ s.dev.flag (TM_SENS_invalid r.zone r.sensor) = false ∧ (r.temp < -640 ∨ 2400 < r.temp ∨ r.count = 0 ∨ ∃ n ∈ (smFind s.dev.tm.runs (r.zone * 32 + r.sensor)).toList, n.1 = r.count ∧ 1023 ≤ n.2) := by decide +kernel
theorem wit_samplesJudgeZones_3_b : let r : SensorReading := ⟨0, 23, 5, 2401⟩; let s : State := st host; s.dev.pw.phase = .on ∧ r.zone < 24 ∧ r.sensor < zoneSensors r.zone ∧ s.dev.zoneFitted r.zone = true ∧ s.dev.flag (TM_SENS_invalid r.zone r.sensor) = false ∧ (r.temp < -640 ∨ 2400 < r.temp ∨ r.count = 0 ∨ ∃ n ∈ (smFind s.dev.tm.runs (r.zone * 32 + r.sensor)).toList, n.1 = r.count ∧ 1023 ≤ n.2) := by decide +kernel
theorem wit_samplesJudgeZones_3_c : let r : SensorReading := ⟨0, 23, 0, 100⟩; let s : State := st host; s.dev.pw.phase = .on ∧ r.zone < 24 ∧ r.sensor < zoneSensors r.zone ∧ s.dev.zoneFitted r.zone = true ∧ s.dev.flag (TM_SENS_invalid r.zone r.sensor) = false ∧ (r.temp < -640 ∨ 2400 < r.temp ∨ r.count = 0 ∨ ∃ n ∈ (smFind s.dev.tm.runs (r.zone * 32 + r.sensor)).toList, n.1 = r.count ∧ 1023 ≤ n.2) := by decide +kernel
theorem wit_samplesJudgeZones_4 : let z : Nat := 0; let p : Int := 1760; let s : State := st (hot 1760 (zn 0 { prev := some 1760 })); let x := s.dev.zone z; let t := (s.dev.zoneTemp z).1; let crit : Int := 16 * criticalC z; s.dev.pw.phase = .on ∧ z < 40 ∧ s.dev.zoneFitted z = true ∧ (s.dev.zone z).prev = some p ∧ x.crit = false ∧ crit ≤ t ∧ crit ≤ p := by decide +kernel
theorem wit_samplesJudgeZones_5 : let z : Nat := 0; let p : Int := 1520; let s : State := st (hot 1520 (zn 0 { prev := some 1520 })); let x := s.dev.zone z; let t := (s.dev.zoneTemp z).1; let adv : Int := 16 * s.dev.fld (TM_ZONE_CFG_advisory z); s.dev.pw.phase = .on ∧ z < 40 ∧ s.dev.zoneFitted z = true ∧ (s.dev.zone z).prev = some p ∧ x.adv = false ∧ x.rejudge = false ∧ x.enf = false ∧ s.dev.flag TM_CTRL_enable = true ∧ adv ≤ t ∧ adv ≤ p := by decide +kernel
theorem wit_samplesJudgeZones_6 : let z : Nat := 0; let p : Int := 1520; let s : State := st (hot 1519 (zn 0 { prev := some 1520 })); let x := s.dev.zone z; let t := (s.dev.zoneTemp z).1; let adv : Int := 16 * s.dev.fld (TM_ZONE_CFG_advisory z); s.dev.pw.phase = .on ∧ z < 40 ∧ s.dev.zoneFitted z = true ∧ (s.dev.zone z).prev = some p ∧ x.adv = false ∧ x.rejudge = false ∧ (t < adv ∨ p < adv) := by decide +kernel
theorem wit_samplesJudgeZones_7 : let z : Nat := 0; let p : Int := 1520; let s : State := st (hot 1471 (zn 0 { prev := some 1520, adv := true })); let x := s.dev.zone z; let t := (s.dev.zoneTemp z).1; let adv : Int := 16 * s.dev.fld (TM_ZONE_CFG_advisory z); s.dev.pw.phase = .on ∧ z < 40 ∧ s.dev.zoneFitted z = true ∧ (s.dev.zone z).prev = some p ∧ x.adv = true ∧ x.rejudge = false ∧ t < adv - 16 * s.dev.fld (TM_ZONE_CFG_hysteresis z) := by decide +kernel
theorem wit_samplesJudgeZones_8 : let z : Nat := 0; let p : Int := 1920; let s : State := st (hot 1920 (zn 0 { prev := some 1920 })); let t := (s.dev.zoneTemp z).1; let crit : Int := 16 * criticalC z; s.dev.pw.phase = .on ∧ z < 40 ∧ s.dev.zoneFitted z = true ∧ (s.dev.zone z).prev = some p ∧ crit + 160 ≤ t ∧ crit + 160 ≤ p := by decide +kernel
theorem wit_zonesThrottle_0 : let z : Nat := 0; let f : Nat := 10; let s : State := st (fr 9 (zn 0 { grace := some 10, adv := true })); (s.dev.zone z).grace = some f ∧ (s.dev.frame < f ∨ s.dev.flag TM_CTRL_enable = false ∨ (s.dev.zone z).adv = false) := by decide +kernel
theorem wit_zonesThrottle_1 : let z : Nat := 0; let f : Nat := 10; let s : State := st (fr 10 (mk [(TM_ZONE_temp 0, 1520)] (zn 0 { grace := some 10, adv := true }))); (s.dev.zone z).grace = some f ∧ f ≤ s.dev.frame ∧ s.dev.flag TM_CTRL_enable = true ∧ (s.dev.zone z).adv = true ∧ (16 * ((s.dev).fld (TM_ZONE_CFG_advisory z) : Int) ≤ (s.dev).sfld (TM_ZONE_temp z)) := by decide +kernel
theorem wit_zonesThrottle_1_b : let z : Nat := 23; let f : Nat := 10; let s : State := st (fr 10 (mk [(TM_ZONE_temp 23, 1120)] (zn 23 { grace := some 10, adv := true }))); (s.dev.zone z).grace = some f ∧ f ≤ s.dev.frame ∧ s.dev.flag TM_CTRL_enable = true ∧ (s.dev.zone z).adv = true ∧ (16 * ((s.dev).fld (TM_ZONE_CFG_advisory z) : Int) ≤ (s.dev).sfld (TM_ZONE_temp z)) := by decide +kernel
theorem wit_zonesThrottle_2 : let z : Nat := 0; let s : State := st host; let x := s.dev.zone z; let due := s.dev.flag TM_CTRL_enable = true ∧ x.adv = true ∧ x.forced = true ∧ x.stepAt + 500 ≤ s.dev.tm.tick ∧ (16 * ((s.dev).fld (TM_ZONE_CFG_advisory z) : Int) ≤ (s.dev).sfld (TM_ZONE_temp z)); ¬ due := by decide +kernel
theorem wit_zonesThrottle_3 : let z : Nat := 39; let s : State := st (mk [(TM_ZONE_temp 39, 1520)] (ltm (fun t => { t with tick := 500, ceil := [(10, 1050)] }) (zn 39 { adv := true, forced := true }))); let x := s.dev.zone z; let due := s.dev.flag TM_CTRL_enable = true ∧ x.adv = true ∧ x.forced = true ∧ x.stepAt + 500 ≤ s.dev.tm.tick ∧ (16 * ((s.dev).fld (TM_ZONE_CFG_advisory z) : Int) ≤ (s.dev).sfld (TM_ZONE_temp z)); due := by decide +kernel
theorem wit_zonesThrottle_4 : let z : Nat := 0; let t : Nat := 0; let s : State := st (ltm (fun t => { t with tick := 4999 }) (zn 0 { relAt := some 0 })); (s.dev.zone z).relAt = some t ∧ s.dev.tm.tick < t + 5000 := by decide +kernel
theorem wit_zonesThrottle_5 : let z : Nat := 0; let t : Nat := 0; let s : State := st (ltm (fun t => { t with tick := 5000, ceil := [(0, 2150)] }) (zn 0 { relAt := some 0, enf := true })); (s.dev.zone z).relAt = some t ∧ t + 5000 ≤ s.dev.tm.tick := by decide +kernel
theorem wit_zonesThrottle_6 : let z : Nat := 0; let s : State := st (zn 0 { crit := true, calm := 499 }); smWf (fun _ => ({} : Zone)) s.dev.tm.zones = true ∧ ((s.dev.zone z).crit = false ∨ (s.dev.zone z).calm < 500) := by decide +kernel
theorem wit_zonesThrottle_7 : let z : Nat := 0; let s : State := st (zn 0 { crit := true, calm := 500 }); smWf (fun _ => ({} : Zone)) s.dev.tm.zones = true ∧ (s.dev.zone z).crit = true ∧ 500 ≤ (s.dev.zone z).calm := by decide +kernel
theorem wit_zonesThrottle_8 : let v : Word64 := 1; let s : State := st host; s.dev.ready = true ∧ s.dev.cp.d3hot = false ∧ s.dev.inBatch TM_CTRL = false ∧ bitAt v.toNat 0 = true := by decide +kernel
theorem wit_zonesThrottle_9 : let v : Word64 := 0; let s : State := st (ltm (fun t => { t with ceil := [(0, 2100)] })); s.dev.ready = true ∧ s.dev.cp.d3hot = false ∧ s.dev.inBatch TM_CTRL = false ∧ bitAt v.toNat 0 = false := by decide +kernel
theorem wit_powerIsLimited_0 : let s : State := st { host with pw := { host.pw with phase := .off } }; s.dev.pw.phase ≠ .on := by decide +kernel
theorem wit_powerIsLimited_1 : let mv : Nat := 40000; let aux : Nat := 11400; let stby : Nat := 3135; let s : State := st host; s.dev.pw.phase = .on ∧ 40000 ≤ mv ∧ mv ≤ 60000 ∧ 11400 ≤ aux ∧ aux ≤ 12600 ∧ 3135 ≤ stby ∧ stby ≤ 3465 := by decide +kernel
theorem wit_powerIsLimited_1_b : let mv : Nat := 60000; let aux : Nat := 12600; let stby : Nat := 3465; let s : State := st (ltm fun t => { t with nOver := 1 }); s.dev.pw.phase = .on ∧ 40000 ≤ mv ∧ mv ≤ 60000 ∧ 11400 ≤ aux ∧ aux ≤ 12600 ∧ 3135 ≤ stby ∧ stby ≤ 3465 := by decide +kernel
theorem wit_powerIsLimited_2 : let mv : Nat := 35999; let s : State := st (ltm fun t => { t with mainLow := 24 }); s.dev.pw.phase = .on ∧ mv < 36000 ∧ 24 ≤ s.dev.tm.mainLow := by decide +kernel
theorem wit_powerIsLimited_3 : let s : State := st (ltm fun t => { t with bucket := 8000000000000, ptick := 49 }); let due := s.dev.pw.phase = .on ∧ 8000000000000 ≤ s.dev.tm.bucket ∧ s.dev.tm.pStepAt + 50 ≤ s.dev.tm.ptick ∧ s.dev.fld TM_THROTTLE_floor < s.dev.tm.power; ¬ due := by decide +kernel
theorem wit_powerIsLimited_4 : let s : State := st (ltm fun t => { t with bucket := 8000000000000, ptick := 50 }); let due := s.dev.pw.phase = .on ∧ 8000000000000 ≤ s.dev.tm.bucket ∧ s.dev.tm.pStepAt + 50 ≤ s.dev.tm.ptick ∧ s.dev.fld TM_THROTTLE_floor < s.dev.tm.power; due := by decide +kernel
theorem wit_powerIsLimited_5 : let s : State := st (ltm fun t => { t with power := 2100, ptick := 4999 }); let due := s.dev.pw.phase = .on ∧ s.dev.tm.power < 2200 ∧ s.dev.tm.bucket < 4000000000000 ∧ s.dev.tm.pStepAt + 5000 ≤ s.dev.tm.ptick ∧ s.dev.tm.watts + 100000000 ≤ s.dev.sustained s.dev.pw.mainMv; ¬ due := by decide +kernel
theorem wit_powerIsLimited_6 : let s : State := st (ltm fun t => { t with power := 2150, ptick := 5000, watts := 4700000000 }); let due := s.dev.pw.phase = .on ∧ s.dev.tm.power < 2200 ∧ s.dev.tm.bucket < 4000000000000 ∧ s.dev.tm.pStepAt + 5000 ≤ s.dev.tm.ptick ∧ s.dev.tm.watts + 100000000 ≤ s.dev.sustained s.dev.pw.mainMv; due := by decide +kernel
theorem wit_powerIsLimited_7 : let s : State := st (ltm (fun t => { t with nUnder := 500 }) (mk [(TM_CLOCK_stretch_power, 1)] host)); s.dev.flag TM_CLOCK_stretch_power = true ∧ 500 ≤ s.dev.tm.nUnder := by decide +kernel
theorem wit_powerIsLimited_8 : let s : State := st (ltm (fun t => { t with nUnder := 499 }) (mk [(TM_CLOCK_stretch_power, 1)] host)); (s.dev.flag TM_CLOCK_stretch_power = false ∨ s.dev.tm.nUnder < 500) := by decide +kernel
theorem wit_thermalCommands_0 : let id : Nat := 21; let s : State := sC (cmd 0x0901 [999]); let c : Cmd := cmd 0x0901 [999]; let v := c.p 0 % 2 ^ 16; (s.dev.findCmd id = some c ∧ c.opcode = 0x0901 ∧ c.phase = .begun) ∧ v ≠ 0 ∧ (v < s.dev.fld TM_THROTTLE_floor ∨ 2200 < v) := by decide +kernel
theorem wit_thermalCommands_0_b : let id : Nat := 21; let s : State := sC (cmd 0x0901 [2201]); let c : Cmd := cmd 0x0901 [2201]; let v := c.p 0 % 2 ^ 16; (s.dev.findCmd id = some c ∧ c.opcode = 0x0901 ∧ c.phase = .begun) ∧ v ≠ 0 ∧ (v < s.dev.fld TM_THROTTLE_floor ∨ 2200 < v) := by decide +kernel
theorem wit_thermalCommands_1 : let id : Nat := 21; let s : State := sC (cmd 0x0901 [0]); let c : Cmd := cmd 0x0901 [0]; let v := c.p 0 % 2 ^ 16; (s.dev.findCmd id = some c ∧ c.opcode = 0x0901 ∧ c.phase = .begun) ∧ (v = 0 ∨ s.dev.fld TM_THROTTLE_floor ≤ v ∧ v ≤ 2200) := by decide +kernel
theorem wit_thermalCommands_1_b : let id : Nat := 21; let s : State := sC (cmd 0x0901 [2200]) (ltm fun t => { t with power := 1000 }); let c : Cmd := cmd 0x0901 [2200]; let v := c.p 0 % 2 ^ 16; (s.dev.findCmd id = some c ∧ c.opcode = 0x0901 ∧ c.phase = .begun) ∧ (v = 0 ∨ s.dev.fld TM_THROTTLE_floor ≤ v ∧ v ≤ 2200) := by decide +kernel
theorem wit_thermalCommands_2 : let id : Nat := 21; let s : State := sC (cmd 0x0900 [0x9000, 343]); let c : Cmd := cmd 0x0900 [0x9000, 343]; (s.dev.findCmd id = some c ∧ c.opcode = 0x0900 ∧ c.phase = .begun) ∧ c.p 1 < 344 := by decide +kernel
theorem wit_thermalCommands_3 : let id : Nat := 21; let s : State := sC (cmd 0x0900 [0x9000, 344]); let c : Cmd := cmd 0x0900 [0x9000, 344]; (s.dev.findCmd id = some c ∧ c.opcode = 0x0900 ∧ c.phase = .begun) ∧ 344 ≤ c.p 1 := by decide +kernel
theorem wit_AtomicsOnPoisonedWordsLeaveMemory_0 : let slot : Nat := 6; let s : State := sJob (job 0) (poi 0x1000); let j : AtomJob := job 0; let n := if j.kind = 1 ∨ 9 ≤ j.kind ∧ j.kind ≤ 13 then 8 else 4; let t := s.dev.readWord j.addr; let read := j.old.getD (ofLe (t.bytesAt j.addr n), t.poisonAt j.addr); s.dev.row.atoms.find? (fun x => x.id == slot) = some j ∧ j.granted = true ∧ ((s.dev.row.atoms.takeWhile fun x => x.id != slot).all fun x => x.addr / 32 != j.addr / 32) = true ∧ s.dev.held j.addr n = false ∧ s.dev.present j.addr n = true ∧ read.2 = true := by decide +kernel
theorem wit_LateRepliesAreDiscardedAndCounted_0 : let rx : Nat := 5; let cls : Nat := 0; let t : Nat := 8; let c : Instr := .readData 5; let s : State := lr (anC 0 8 0); let r : RxCell := anC 0 8 0; (c, cls, t) ∈ [(.readData rx, 0, 8), (.writeAck rx, 0, 9), (.atomicReply rx, 1, 0xA), (.rowRefusal rx, 0, 0xF), (.rowRefusal rx, 1, 0xF)] ∧ ((s.dev).rxCell rx = some r ∧ r.cell.cls = cls ∧ bitsOf r.cell.op 31 28 = t) ∧ (∀ q ∈ s.dev.row.reqs, ¬ (q.sent = true ∧ q.seq = r.cell.seq ∧ s.dev.memberFid q.member = r.cell.src)) := by decide +kernel
theorem wit_LateRepliesAreDiscardedAndCounted_0_b : let rx : Nat := 5; let cls : Nat := 0; let t : Nat := 9; let c : Instr := .writeAck 5; let s : State := lr (anC 0 9 0); let r : RxCell := anC 0 9 0; (c, cls, t) ∈ [(.readData rx, 0, 8), (.writeAck rx, 0, 9), (.atomicReply rx, 1, 0xA), (.rowRefusal rx, 0, 0xF), (.rowRefusal rx, 1, 0xF)] ∧ ((s.dev).rxCell rx = some r ∧ r.cell.cls = cls ∧ bitsOf r.cell.op 31 28 = t) ∧ (∀ q ∈ s.dev.row.reqs, ¬ (q.sent = true ∧ q.seq = r.cell.seq ∧ s.dev.memberFid q.member = r.cell.src)) := by decide +kernel
theorem wit_LateRepliesAreDiscardedAndCounted_0_c : let rx : Nat := 5; let cls : Nat := 1; let t : Nat := 0xA; let c : Instr := .atomicReply 5; let s : State := lr (anC 1 0xA 0); let r : RxCell := anC 1 0xA 0; (c, cls, t) ∈ [(.readData rx, 0, 8), (.writeAck rx, 0, 9), (.atomicReply rx, 1, 0xA), (.rowRefusal rx, 0, 0xF), (.rowRefusal rx, 1, 0xF)] ∧ ((s.dev).rxCell rx = some r ∧ r.cell.cls = cls ∧ bitsOf r.cell.op 31 28 = t) ∧ (∀ q ∈ s.dev.row.reqs, ¬ (q.sent = true ∧ q.seq = r.cell.seq ∧ s.dev.memberFid q.member = r.cell.src)) := by decide +kernel
theorem wit_LateRepliesAreDiscardedAndCounted_0_d : let rx : Nat := 5; let cls : Nat := 0; let t : Nat := 0xF; let c : Instr := .rowRefusal 5; let s : State := lr (anC 0 0xF 0); let r : RxCell := anC 0 0xF 0; (c, cls, t) ∈ [(.readData rx, 0, 8), (.writeAck rx, 0, 9), (.atomicReply rx, 1, 0xA), (.rowRefusal rx, 0, 0xF), (.rowRefusal rx, 1, 0xF)] ∧ ((s.dev).rxCell rx = some r ∧ r.cell.cls = cls ∧ bitsOf r.cell.op 31 28 = t) ∧ (∀ q ∈ s.dev.row.reqs, ¬ (q.sent = true ∧ q.seq = r.cell.seq ∧ s.dev.memberFid q.member = r.cell.src)) := by decide +kernel
theorem wit_LateRepliesAreDiscardedAndCounted_0_e : let rx : Nat := 5; let cls : Nat := 1; let t : Nat := 0xF; let c : Instr := .rowRefusal 5; let s : State := lr (anC 1 0xF 0); let r : RxCell := anC 1 0xF 0; (c, cls, t) ∈ [(.readData rx, 0, 8), (.writeAck rx, 0, 9), (.atomicReply rx, 1, 0xA), (.rowRefusal rx, 0, 0xF), (.rowRefusal rx, 1, 0xF)] ∧ ((s.dev).rxCell rx = some r ∧ r.cell.cls = cls ∧ bitsOf r.cell.op 31 28 = t) ∧ (∀ q ∈ s.dev.row.reqs, ¬ (q.sent = true ∧ q.seq = r.cell.seq ∧ s.dev.memberFid q.member = r.cell.src)) := by decide +kernel
theorem wit_LateRepliesAreDiscardedAndCounted_1 : let rx : Nat := 5; let t : Nat := 8; let c : Instr := .messageAccepted 5; let s : State := lr (mReply 8 0); let r : RxCell := mReply 8 0; (c, t) ∈ [(.messageAccepted rx, 8), (.messageRefused rx, 0xF)] ∧ ((s.dev).rxCell rx = some r ∧ r.cell.cls = 2 ∧ bitsOf r.cell.op 31 28 = t) ∧ (∀ m ∈ s.dev.row.msgs, ¬ (m.sent = true ∧ m.seq = r.cell.seq ∧ m.dst = r.cell.src ∧ m.mailbox = bitsOf r.cell.op 27 18)) := by decide +kernel
theorem wit_LateRepliesAreDiscardedAndCounted_1_b : let rx : Nat := 5; let t : Nat := 0xF; let c : Instr := .messageRefused 5; let s : State := lr (mReply 0xF 0); let r : RxCell := mReply 0xF 0; (c, t) ∈ [(.messageAccepted rx, 8), (.messageRefused rx, 0xF)] ∧ ((s.dev).rxCell rx = some r ∧ r.cell.cls = 2 ∧ bitsOf r.cell.op 31 28 = t) ∧ (∀ m ∈ s.dev.row.msgs, ¬ (m.sent = true ∧ m.seq = r.cell.seq ∧ m.dst = r.cell.src ∧ m.mailbox = bitsOf r.cell.op 27 18)) := by decide +kernel
theorem wit_IncompleteMessagesAreDiscarded_1 : let id : Nat := 6; let s : State := sAsm 12000; let a : Assembly := asmC; s.dev.row.asm.find? (fun x => x.id == id) = some a ∧ a.first + a.limit ≤ s.dev.frame := by decide +kernel
theorem wit_IncompleteMessagesAreDiscarded_2 : let id : Nat := 6; let s : State := sAsm 100; let a : Assembly := asmC; s.dev.row.asm.find? (fun x => x.id == id) = some a ∧ s.dev.frame < a.first + a.limit := by decide +kernel
theorem wit_FaultLogReadsTakeTheOldestRecords_0 : let id : Nat := 21; let s : State := sC (cmd 0x0601 [0x9000, 33]); let c : Cmd := cmd 0x0601 [0x9000, 33]; let len := c.p 1; (s.dev.findCmd id = some c ∧ c.opcode = 0x0601 ∧ c.phase = .begun) ∧ (len % 32 ≠ 0 ∨ len < 32 ∨ 32768 < len) := by decide +kernel
theorem wit_FaultLogReadsTakeTheOldestRecords_0_b : let id : Nat := 21; let s : State := sC (cmd 0x0601 [0x9000, 0]); let c : Cmd := cmd 0x0601 [0x9000, 0]; let len := c.p 1; (s.dev.findCmd id = some c ∧ c.opcode = 0x0601 ∧ c.phase = .begun) ∧ (len % 32 ≠ 0 ∨ len < 32 ∨ 32768 < len) := by decide +kernel
theorem wit_FaultLogReadsTakeTheOldestRecords_0_c : let id : Nat := 21; let s : State := sC (cmd 0x0601 [0x9000, 32800]); let c : Cmd := cmd 0x0601 [0x9000, 32800]; let len := c.p 1; (s.dev.findCmd id = some c ∧ c.opcode = 0x0601 ∧ c.phase = .begun) ∧ (len % 32 ≠ 0 ∨ len < 32 ∨ 32768 < len) := by decide +kernel
theorem wit_FaultLogReadsTakeTheOldestRecords_1 : let id : Nat := 21; let s : State := sC (cmd 0x0601 [0x9000, 32]) (logs 2); let c : Cmd := cmd 0x0601 [0x9000, 32]; let len := c.p 1; (s.dev.findCmd id = some c ∧ c.opcode = 0x0601 ∧ c.phase = .begun) ∧ len % 32 = 0 ∧ 32 ≤ len ∧ len ≤ 32768 := by decide +kernel
theorem wit_FaultLogReadsTakeTheOldestRecords_1_b : let id : Nat := 21; let s : State := sC (cmd 0x0601 [0x9000, 32768]) (logs 1); let c : Cmd := cmd 0x0601 [0x9000, 32768]; let len := c.p 1; (s.dev.findCmd id = some c ∧ c.opcode = 0x0601 ∧ c.phase = .begun) ∧ len % 32 = 0 ∧ 32 ≤ len ∧ len ≤ 32768 := by decide +kernel
theorem wit_FaultLogReadsTakeTheOldestRecords_2 : let d : Dev := logs 2; d.ft.log.length < 1024 := by decide +kernel
theorem wit_FaultLogReadsTakeTheOldestRecords_4 : let d : Dev := logs 1024; 1024 ≤ d.ft.log.length := by decide +kernel
theorem wit_CellsReadBackFromTheirWireForm_0 : let c : Cell := cellC 1; c.wf = true := by decide +kernel
theorem wit_IncompleteMessagesAreDiscarded_0 : let rx : Nat := 5; let s : State := sRx (mdC 0 1 256) (mbox 0); let r : RxCell := mdC 0 1 256; let last := r.cell.msgLast; ((s.dev).rxCell rx = some r ∧ r.cell.cls = 2 ∧ bitsOf r.cell.op 31 28 = 0) ∧ 0 < last ∧ r.cell.msgIndex ≤ last ∧ (∀ a ∈ s.dev.row.asm, ¬ (a.src = r.cell.src ∧ a.mailbox = r.cell.msgMailbox ∧ a.seq = r.cell.seq)) := by decide +kernel
theorem wit_queuesTakeTurns_1 : let d : Dev := (sQ (cmd 0x0107 [])).dev; let q : Nat := 3; let x : QPair := { qpr with tail := 0 }; d.qp q = some x := by decide +kernel
/-! ### Witnesses whose hypotheses name a digest or what Config leaves open -/

theorem begun_of {d : Dev} {id op : Nat} {c : Cmd} (h : d.findCmd id = some c ∧ c.opcode = op ∧ c.phase = .begun) : begun d id op c := h

/-- A plan of zeros is clean and apart. -/
theorem zero_plan (l : List Byte) (h : ∀ b ∈ l, b = 0) : planClean l = true ∧ planApart l = true := by
  have hg (k : Nat) : l.getD k 0 = 0 := by
    rw [List.getD_eq_getElem?_getD]
    cases hk : l[k]? with
    | none => rfl
    | some b => exact h b (List.mem_of_getElem? hk)
  have hl (ls : Nat) : litAt l ls = [] := by
    rw [litAt, List.filterMap_eq_nil_iff]
    intro x _
    rw [hg]; rfl
  refine ⟨?_, ?_⟩
  · simp only [planClean, List.all_eq_true]
    intro b hb; rw [h b hb]; decide
  · simp only [planApart, List.all_eq_true, hl]
    intro x _; decide
theorem planBytes_zero (d : Dev) (base : Nat) (h : ∀ i < 960, d.reg (base + 8 * i) = 0) : ∀ b ∈ d.planBytes base, b = 0 := by
  intro b hb
  simp only [Dev.planBytes, List.mem_flatMap, List.mem_range] at hb
  obtain ⟨i, hi, hb⟩ := hb
  rw [h i hi] at hb
  revert b; decide
/-- Port 0 of a device without a Map, and its next plan all zero. -/
def sPl : State := st (pl0 3 128 (fb (fun f => { f with map := none }) netG))
theorem wit_plansSwitch_0 : sPl.dev.ready = true ∧ sPl.dev.inBatch (FB_PLAN_CTRL 0) = false ∧ sPl.dev.planState 0 = 3 ∧ sPl.dev.planCheck 0 = 0 := by
  have h := zero_plan _ (planBytes_zero sPl.dev (planNext 0) (by decide +kernel))
  have hf : sPl.dev.planeMembers 0 = [] := by decide +kernel
  refine ⟨by decide +kernel, by decide +kernel, by decide +kernel, ?_⟩
  simp only [Dev.planCheck, h.1, h.2, Dev.planFair, hf, List.all_nil]
  decide +kernel
theorem planC_digest (k p pend f : Nat) (w : Word64) : leAt (bellC k (planC p pend f w)).cell.payload 16 8 = w.toNat := by
  have h : leAt (bellC k (planC p pend f w)).cell.payload 16 8 = ofLe (leBytes 8 w.toNat) := rfl
  rw [h, ofLe_leBytes]
  exact Nat.mod_eq_of_lt w.isLt
theorem nextDigest_congr {d e : Dev} (h : e.regs = d.regs) (p : Nat) : e.nextDigest p = d.nextDigest p := by
  simp only [Dev.nextDigest, Dev.planBytes, Dev.reg, h]
/-- The hypotheses of a PLAN_CANCEL record that names a device's pending plan, whatever its digest. -/
def cancels (d : Dev) (r : RxCell) : Prop :=
  let s := sRx r d; let pl := r.cell.payload
  received s.dev 5 r 7 ∧ leAt pl 0 1 = 0 ∧ s.dev.planState 0 = 1 ∧ s.dev.frame < leAt pl 8 8 ∧ leAt pl 8 8 = s.dev.fld (FB_PLAN_FRAME_frame 0) ∧
  leAt pl 16 8 = (s.dev.nextDigest 0).toNat
theorem cancels_of (d : Dev) (r : RxCell) (h1 : d.planState 0 = 1) (h2 : d.frame < 64) (h3 : d.fld (FB_PLAN_FRAME_frame 0) = 64)
    (i : r.id = 5) (c : r.cell.cls = 4) (k : r.cell.bellKind = 7) (p : leAt r.cell.payload 0 1 = 0) (f : leAt r.cell.payload 8 8 = 64)
    (g : leAt r.cell.payload 16 8 = (d.nextDigest 0).toNat) : cancels d r := by
  have hd : (sRx r d).dev.nextDigest 0 = d.nextDigest 0 := nextDigest_congr rfl 0
  have hx : (sRx r d).dev.rxCell 5 = some r := by simp [sRx, st, Dev.rxCell, i]
  have hf : (sRx r d).dev.frame = d.frame := rfl
  have hl : (sRx r d).dev.fld (FB_PLAN_FRAME_frame 0) = d.fld (FB_PLAN_FRAME_frame 0) := rfl
  refine ⟨⟨hx, c, k⟩, p, h1, ?_, ?_, ?_⟩
  · omega
  · omega
  · rw [hd]; exact g
theorem planC_frame (k p f : Nat) (w : Word64) : leAt (bellC k (planC p 1 f w)).cell.payload 8 8 = f % 2 ^ 64 := by
  have h : leAt (bellC k (planC p 1 f w)).cell.payload 8 8 = ofLe (leBytes 8 f) := rfl
  rw [h, ofLe_leBytes]
theorem planC_port (k p f : Nat) (w : Word64) : leAt (bellC k (planC p 1 f w)).cell.payload 0 1 = p % 2 ^ 8 := by
  have h : leAt (bellC k (planC p 1 f w)).cell.payload 0 1 = ofLe (leBytes 1 p) := rfl
  rw [h, ofLe_leBytes]
theorem wit_plansSwitch_6 : ∃ w, cancels (pl0 1 64) (bellC 7 (planC 0 1 64 w)) :=
  ⟨_, cancels_of _ _ (by decide +kernel) (by decide +kernel) (by decide +kernel) rfl rfl rfl (planC_port 7 0 64 _) (planC_frame 7 0 64 _)
    (planC_digest 7 0 1 64 _)⟩
/-- A device whose partners 1 and 2 have announced its pending plan, partner 2 for a frame f. -/
def sAg (d : Dev) (f : Nat) : State :=
  st (fb (fun x => { x with plans := [(1, ⟨true, 64, (d.nextDigest 0).toNat, 0, 0⟩), (2, ⟨true, f, (d.nextDigest 0).toNat, 0, 0⟩)] }) d)
def agreesOn (s : State) (y : Nat) : Prop := ∃ x, smFind s.dev.fab.plans (0 * 16 + y) = some x ∧ x.pending = true ∧
  x.frame = s.dev.fld (FB_PLAN_FRAME_frame 0) ∧ x.digest = (s.dev.nextDigest 0).toNat
theorem agree_of (d : Dev) (h1 : d.planState 0 = 1) (h2 : d.frame < 64) (h3 : d.fld (FB_PLAN_FRAME_frame 0) = 64) (h4 : d.livePartners 0 = [1, 2]) :
    (sAg d 64).dev.planState 0 = 1 ∧ (sAg d 64).dev.frame < (sAg d 64).dev.fld (FB_PLAN_FRAME_frame 0) ∧
    (sAg d 64).dev.fld (FB_PLAN_FRAME_frame 0) ≤ (sAg d 64).dev.frame + 64 ∧ ∀ y ∈ (sAg d 64).dev.livePartners 0, agreesOn (sAg d 64) y := by
  have hf : (sAg d 64).dev.fld (FB_PLAN_FRAME_frame 0) = 64 := h3
  have hr : (sAg d 64).dev.frame = d.frame := rfl
  have hl : (sAg d 64).dev.livePartners 0 = [1, 2] := h4
  refine ⟨h1, by omega, by omega, ?_⟩
  intro y hy
  rw [hl] at hy
  simp only [List.mem_cons, List.not_mem_nil, or_false] at hy
  have hd : (sAg d 64).dev.nextDigest 0 = d.nextDigest 0 := nextDigest_congr rfl 0
  rcases hy with rfl | rfl <;> exact ⟨_, rfl, rfl, hf.symm, by rw [hd]⟩
theorem disagree_of (d : Dev) (h3 : d.fld (FB_PLAN_FRAME_frame 0) = 64) (h4 : d.livePartners 0 = [1, 2]) :
    ∃ y ∈ (sAg d 63).dev.livePartners 0, ¬ agreesOn (sAg d 63) y := by
  have hl : (sAg d 63).dev.livePartners 0 = [1, 2] := h4
  refine ⟨2, by rw [hl]; decide, ?_⟩
  rintro ⟨x, hx, -, hx2, -⟩
  have hx' : some (⟨true, 63, (d.nextDigest 0).toNat, 0, 0⟩ : PlanHeard) = some x := hx
  have hf : (sAg d 63).dev.fld (FB_PLAN_FRAME_frame 0) = 64 := h3
  rw [hf, ← Option.some.inj hx'] at hx2
  exact absurd (show (63 : Nat) = 64 from hx2) (by decide)
theorem wit_plansSwitch_8 : ∀ y ∈ (sAg (pl0 1 64) 64).dev.livePartners 0, agreesOn (sAg (pl0 1 64) 64) y := (agree_of (pl0 1 64) (by decide +kernel) (by decide +kernel) (by decide +kernel) (by decide +kernel)).2.2.2
theorem wit_plansSwitch_9 : ∃ y ∈ (sAg (pl0 1 64) 63).dev.livePartners 0, ¬ agreesOn (sAg (pl0 1 64) 63) y := disagree_of (pl0 1 64) (by decide +kernel) (by decide +kernel)

theorem mapConsistent_of (d : Dev) (m : FabMap) (h4 : d.driftFitted 4 = true) (h5 : d.driftFitted 5 = true)
    (h : (m.twoD && m.atlas) = false) (h1 : m.sheets ≤ 1) (h2 : rising (m.entries.map (·.fid)) = true)
    (h3 : (m.entries.map (·.serial)).eraseDups.length = m.entries.length) (h6 : m.has m.master = true) (h7 : m.has m.backup = true)
    (h8 : ∀ e ∈ m.entries, e.zbValid = false) : d.mapConsistent m = true := by
  have hp : d.placeOk m = true := by unfold Dev.placeOk; split <;> simp [h4, h5]
  simp only [Dev.mapConsistent, hp, h, h2, h3, h6, h7, decide_eq_true h1, Bool.not_false, Bool.true_or, Bool.and_true, Bool.true_and, beq_self_eq_true,
    List.all_eq_true]
  intro e he; simp [h8 e he]
theorem wit_mapsComeIntoForce_3 :
    let s := sMap (mapB 5 1); let c := mapL (mapB 5 1); let l := s.dev.hostRead (c.p 0) (c.p 1)
    begun s.dev 21 0x0400 c ∧ (80 ≤ c.p 1 ∧ c.p 1 ≤ 64 + 16 * 65536 ∧ c.p 1 = 64 + 16 * leAt l 8 4) ∧ mapRange l = true ∧
    s.dev.mapConsistent (mapOf l) = true ∧ s.dev.flag FB_CTRL_enable = false := by
  refine ⟨begun_of (by decide +kernel), by decide +kernel, by decide +kernel, ?_, by decide +kernel⟩
  apply mapConsistent_of <;> decide +kernel
theorem wit_mapsComeIntoForce_4 :
    let s := sMap (mapB 5 1) 127 nofid; let c := mapL (mapB 5 1) 127; let l := s.dev.hostRead (c.p 0) (c.p 1)
    begun s.dev 21 0x0400 c ∧ mapRange l = true ∧ s.dev.mapConsistent (mapOf l) = true ∧ s.dev.flag FB_CTRL_enable = true ∧
    s.dev.fab.map = some old0 ∧ c.p 2 < s.dev.frame + 128 := by
  refine ⟨begun_of (by decide +kernel), by decide +kernel, ?_, by decide +kernel, by decide +kernel, by decide +kernel⟩
  apply mapConsistent_of <;> decide +kernel
theorem wit_mapsComeIntoForce_5 :
    let s := sMap (mapB 4 1) 128 nofid; let c := mapL (mapB 4 1) 128; let l := s.dev.hostRead (c.p 0) (c.p 1)
    begun s.dev 21 0x0400 c ∧ s.dev.mapConsistent (mapOf l) = true ∧ s.dev.frame + 128 ≤ c.p 2 ∧ s.dev.mapMayReplace (mapOf l) old0 = false := by
  refine ⟨begun_of (by decide +kernel), ?_, by decide +kernel, by decide +kernel⟩
  apply mapConsistent_of <;> decide +kernel
theorem wit_mapsComeIntoForce_6 :
    let s := sMap (mapB 5 1) 128 nofid; let c := mapL (mapB 5 1) 128; let l := s.dev.hostRead (c.p 0) (c.p 1)
    begun s.dev 21 0x0400 c ∧ s.dev.mapConsistent (mapOf l) = true ∧ s.dev.frame + 128 ≤ c.p 2 ∧ s.dev.mapMayReplace (mapOf l) old0 = true := by
  refine ⟨begun_of (by decide +kernel), ?_, by decide +kernel, by decide +kernel⟩
  apply mapConsistent_of <;> decide +kernel

/-! ### Witnesses for the comparisons, quantified hypotheses and what Config leaves open -/

/-- Registers 5 and 6 of core 3 at index pc, and a branch of op between them by an offset. -/
def sBr (op pc off a b : Nat) : State := st (withS 3 [(5, a), (6, b)] (run 3 pc (W 1 op (5 * 2 ^ 43 + 6 * 2 ^ 38 + off))))
/-- Each branch taken to the last index, not taken, and taken to an index outside the store. -/
theorem wit_branchesGoToTheirTargets_0 : branchTable.map (·.2.1) = [0, 1, 2, 3, 4, 5] ∧
    ∀ x ∈ [(0, 7, 7), (1, 7, 8), (2, 2 ^ 64 - 1, 0), (3, 0, 2 ^ 64 - 1), (4, 0, 2 ^ 64 - 1), (5, 2 ^ 64 - 1, 0)],
      let s := sBr x.1 8190 1 x.2.1 x.2.2
      s.dev.issues 3 1 x.1 = true ∧ 0 ≤ branchTarget s.dev 3 ∧ branchTarget s.dev 3 ≤ 8191 := ⟨rfl, by decide +kernel⟩
theorem wit_branchesGoToTheirTargets_1 : ∀ x ∈ [(0, 7, 8), (1, 7, 7), (2, 0, 2 ^ 64 - 1), (3, 2 ^ 64 - 1, 0), (4, 2 ^ 64 - 1, 0), (5, 0, 2 ^ 64 - 1)],
      let s := sBr x.1 8190 1 x.2.1 x.2.2
      s.dev.issues 3 1 x.1 = true ∧ s.dev.pc 3 < 8191 := by decide +kernel
theorem wit_branchesGoToTheirTargets_2 : ∀ x ∈ [(0, 7, 7), (1, 7, 8), (2, 2 ^ 64 - 1, 0), (3, 0, 2 ^ 64 - 1), (4, 0, 2 ^ 64 - 1), (5, 2 ^ 64 - 1, 0)],
      let s := sBr x.1 3 0xFFFFFC x.2.1 x.2.2
      s.dev.issues 3 1 x.1 = true ∧ (branchTarget s.dev 3 < 0 ∨ 8191 < branchTarget s.dev 3) := by decide +kernel
/-- The registers of these states compare as the table says: taken, and not taken. -/
theorem wit_branchesCompare :
    let p (x : Nat × Nat × Nat) : Word64 × Word64 := (((sBr x.1 0 0 x.2.1 x.2.2).dev.core 3).sreg 5, ((sBr x.1 0 0 x.2.1 x.2.2).dev.core 3).sreg 6)
    (p (0, 7, 7)).1 = (p (0, 7, 7)).2 ∧ (p (1, 7, 8)).1 ≠ (p (1, 7, 8)).2 ∧
    (p (2, 2 ^ 64 - 1, 0)).1.toInt < (p (2, 2 ^ 64 - 1, 0)).2.toInt ∧ (p (3, 0, 2 ^ 64 - 1)).2.toInt ≤ (p (3, 0, 2 ^ 64 - 1)).1.toInt ∧
    (p (4, 0, 2 ^ 64 - 1)).1.toNat < (p (4, 0, 2 ^ 64 - 1)).2.toNat ∧ (p (5, 2 ^ 64 - 1, 0)).2.toNat ≤ (p (5, 2 ^ 64 - 1, 0)).1.toNat ∧
    ¬ (p (2, 0, 2 ^ 64 - 1)).1.toInt < (p (2, 0, 2 ^ 64 - 1)).2.toInt ∧ ¬ (p (3, 2 ^ 64 - 1, 0)).2.toInt ≤ (p (3, 2 ^ 64 - 1, 0)).1.toInt ∧
    ¬ (p (4, 2 ^ 64 - 1, 0)).1.toNat < (p (4, 2 ^ 64 - 1, 0)).2.toNat ∧ ¬ (p (5, 0, 2 ^ 64 - 1)).2.toNat ≤ (p (5, 0, 2 ^ 64 - 1)).1.toNat := by decide +kernel

/-- A gather of one row of 64 bytes. -/
def dgQ : QEntry := dm 6 2 [scratchWindow 3]
def dgD : Dev := desc 0x1000 (scratchWindow 3 + 0x1000) (scratchWindow 3 + 0x800) (64 * 2 ^ 32) 4096 (65535 + 2 ^ 16)
/-- Whether an address, if there is one, is a multiple of 32. -/
def okMod {ε : Type} (x : Except ε Nat) : Bool := match x with | .ok a => decide (a % 32 = 0) | .error _ => true
theorem mod_of_ok {ε : Type} {x : Except ε Nat} (h : okMod x = true) {a : Nat} (ha : x = .ok a) : a % 32 = 0 := by
  rw [ha] at h; exact of_decide_eq_true h
theorem wit_descriptorCopiesAndMessagesStart_1 :
    let s := sDm dgQ dgD; let e := dgQ; let k := 3; let sa := (e.val 0).toNat; let t := s.dev.scrub sa 64; let l := t.bytesAt sa 64
    let count := leAt l 24 8 % 4096 + 1; let rb := leAt l 24 8 / 2 ^ 32 % 2 ^ 13; let table := leAt l 0 8; let dst := leAt l 8 8; let index := leAt l 16 8
    let kind := CopyKind.dgather dst table (leAt l 32 8) rb count index
    let c : Copy := ⟨s.dev.nextId, k, true, e.uid, e.pc, kind, if leAt l 42 2 % 2 = 1 then some (leAt l 40 2) else none, [], [], []⟩
    let u := kind.touches.1.foldl (fun d r => d.scrub r.1 r.2) t
    s.dev.dmaHead k 6 2 = some e ∧ (scratchWindow k ≤ sa ∧ sa < scratchWindow k + 2 ^ 21 ∧ sa % 64 = 0) ∧ (t.poisonsAt sa 64).any id = false ∧
    s.dev.copiesWrite k sa 64 = false ∧ leAt l 42 2 ≤ 1 ∧ leAt l 44 20 = 0 ∧ leAt l 24 8 / 4096 % 2 ^ 20 = 0 ∧ leAt l 24 8 / 2 ^ 45 = 0 ∧
    (32 ≤ rb ∧ rb ≤ 4096) ∧ coreAddr table ≠ .bad ∧ coreAddr dst ≠ .bad ∧ coreAddr index ≠ .bad ∧ table % 32 = 0 ∧ dst % 32 = 0 ∧ index % 32 = 0 ∧
    rb % 32 = 0 ∧ (∀ r ∈ kind.touches.1, t.held r.1 r.2 = false ∧ t.copiesWrite k r.1 r.2 = false) ∧
    (∀ r ∈ kind.local, (u.startEntry k 3 e).present r.1 r.2 = true) ∧ (u.startEntry k 3 e).copyGate kind = none ∧
    (∀ x, coreAddr index = .loc x → ∀ j < count, ∀ a, u.gatherRow c table (leAt l 32 8) rb index j = .ok a → a % 32 = 0) := by
  dsimp only
  and_intros
  rotate_right 1
  · intro x _ j hj a ha
    have hc : leAt (((sDm dgQ dgD).dev.scrub (dgQ.val 0).toNat 64).bytesAt (dgQ.val 0).toNat 64) 24 8 % 4096 + 1 = 1 := by decide +kernel
    have hj0 : j = 0 := by rw [hc] at hj; omega
    subst hj0
    exact mod_of_ok (by decide +kernel) ha
  all_goals decide +kernel

theorem wit_bar2AccessesReachMemory_0 :
    let s := st bar; let off := 15 * 2 ^ 32 + 0xFFE
    let t := (bar2Runs off 3).foldl (fun d r => match d.bar2Byte r.2.1 with | some a => d.scrub a r.2.2 | none => d) s.dev
    s.dev.cp.d3hot = false ∧ s.dev.ready = true ∧ 1 ≤ 3 ∧ (∀ i < 3, ∃ a, s.dev.bar2Byte (off + i) = some a ∧ s.dev.held a 1 = false) ∧
    ∀ i < 3, (t.bar2Byte (off + i)).isSome = true := by
  refine ⟨by decide +kernel, by decide +kernel, by decide, ?_, by decide +kernel⟩
  intro i hi
  refine ⟨0xFFE + i, ?_, ?_⟩ <;> rcases (by omega : i = 0 ∨ i = 1 ∨ i = 2) with rfl | rfl | rfl <;> decide +kernel

theorem wit_unitCommands_2 :
    let c := cmd 0x0303 [0x870]; let s := sC c
    begun s.dev 21 0x0303 c ∧ c.p 0 / 2 ^ 8 % 16 ≤ 10 ∧
    ∀ k, s.dev.logicalOf (c.p 0 % 16) (c.p 0 / 2 ^ 4 % 8) (c.p 0 / 2 ^ 8 % 16) = some k → s.dev.coreState k ≠ 1 ∧ s.dev.coreState k ≠ 6 := by
  refine ⟨begun_of (by decide +kernel), by decide +kernel, ?_⟩
  intro k hk
  have h : (sC (cmd 0x0303 [0x870])).dev.logicalOf ((cmd 0x0303 [0x870]).p 0 % 16) ((cmd 0x0303 [0x870]).p 0 / 2 ^ 4 % 8)
    ((cmd 0x0303 [0x870]).p 0 / 2 ^ 8 % 16) = some 78 := by decide +kernel
  rw [h] at hk; cases hk; decide +kernel

/-- An image of the Canary with a payload of one byte, version 7, and a certificate of one byte. -/
def imgB : List Byte := [0x57, 0x46, 1, 0, 4, 0, 0, 0] ++ leBytes 4 7 ++ leBytes 4 1 ++ sha256 [0x5A] ++ leBytes 2 1
def imgS (d : Dev := warm) : State := sC (cmd 0x0800 [4, 0x4000, 4097]) ((d.hostWrite 0x4000 imgB).hostWrite 0x5000 [0x5A])
def imgL (d : Dev := warm) : List Byte := (imgS d).dev.hostRead 0x4000 4097
theorem imageGood_of (k : Nat) (l : List Byte) (h : leAt l 0 2 = 0x4657 ∧ leAt l 2 2 = 1 ∧ leAt l 4 1 = k ∧ leAt l 5 3 = 0 ∧ leAt l 12 4 = l.length - 4096 ∧
    1 ≤ leAt l 48 2 ∧ leAt l 48 2 ≤ 2048 ∧ leAt l 50 14 = 0 ∧ sliceB l (64 + leAt l 48 2) (2048 - leAt l 48 2) = zeros (2048 - leAt l 48 2) ∧
    sliceB l 2112 1600 = zeros 1600 ∧ sha256 (l.drop 4096) = sliceB l 16 32)
    (hs : Config.signed (sliceB l 0 3712) (sliceB l 64 (leAt l 48 2)) (sliceB l 3712 384) k = true) : imageGood k l = true := by
  obtain ⟨h0, h1, h2, h3, h4, h5, h6, h7, h8, h9, h10⟩ := h
  simp [imageGood, h0, h1, h2, h3, h4, h5, h6, h7, h8, h9, h10, hs]
def imgOf (h : List Host.Cell) : List Byte := (List.range 4097).map fun i => smGet zeroByte (putBytes (putBytes h 0x4000 imgB) 0x5000 [0x5A]) (0x4000 + i)
theorem imgL_eq (d : Dev) : imgL d = imgOf d.host := by
  have h : (imgS d).dev.host = putBytes (putBytes d.host 0x4000 imgB) 0x5000 [0x5A] := by
    have h1 (c : Cmd) (d : Dev) : (sC c d).dev.host = d.host := rfl
    have h2 (d : Dev) (a : Nat) (l : List Byte) : (d.hostWrite a l).host = putBytes d.host a l := rfl
    rw [imgS, h1, h2, h2]
  unfold imgL Dev.hostRead imgOf
  rw [h]
theorem imgL_host (d : Dev) (l : FlashSt) : imgL { d with flash := l } = imgL d := by
  have h := imgL_eq { d with flash := l }
  rw [h, imgL_eq d]
theorem imgL_good (hs : Config.signed (sliceB (imgL warm) 0 3712) (sliceB (imgL warm) 64 (leAt (imgL warm) 48 2)) (sliceB (imgL warm) 3712 384) 4 = true) :
    imageGood 4 (imgL warm) = true := imageGood_of _ _ (by decide +kernel) hs
/-- If its signature verifies, the image is refused: its version 7 is below 8. -/
theorem wit_imagesAreStaged_3 (hs : Config.signed (sliceB (imgL warm) 0 3712) (sliceB (imgL warm) 64 (leAt (imgL warm) 48 2)) (sliceB (imgL warm) 3712 384) 4 = true) :
    let s := imgS { warm with flash := { fuses := [(4, [8])] } }; let c := cmd 0x0800 [4, 0x4000, 4097]; let l := s.dev.hostRead (c.p 1) (c.p 2)
    begun s.dev 21 0x0800 c ∧ c.p 0 % 16 < 5 ∧ 4097 ≤ c.p 2 ∧ c.p 2 ≤ 4096 + maxPayload (c.p 0 % 16) ∧ imageGood (c.p 0 % 16) l = true ∧
    leAt l 8 4 < s.dev.leastVersion (c.p 0 % 16) := by
  have h := imgL_good hs
  rw [← imgL_host warm { fuses := [(4, [8])] }] at h
  refine ⟨begun_of (by decide +kernel), by decide, ?_, ?_, h, ?_⟩ <;> decide +kernel
/-- If its signature verifies, the image is staged: its version 7 is not below 6. -/
theorem wit_imagesAreStaged_4 (hs : Config.signed (sliceB (imgL warm) 0 3712) (sliceB (imgL warm) 64 (leAt (imgL warm) 48 2)) (sliceB (imgL warm) 3712 384) 4 = true) :
    let s := imgS { warm with flash := { fuses := [(4, [6])] } }; let c := cmd 0x0800 [4, 0x4000, 4097]; let l := s.dev.hostRead (c.p 1) (c.p 2)
    begun s.dev 21 0x0800 c ∧ c.p 0 % 16 < 5 ∧ 4097 ≤ c.p 2 ∧ c.p 2 ≤ 4096 + maxPayload (c.p 0 % 16) ∧ imageGood (c.p 0 % 16) l = true ∧
    s.dev.leastVersion (c.p 0 % 16) ≤ leAt l 8 4 ∧ s.dev.handoverOf (c.p 0 % 16) = none ∧ s.dev.gateOpen [16] = true := by
  have h := imgL_good hs
  rw [← imgL_host warm { fuses := [(4, [6])] }] at h
  refine ⟨begun_of (by decide +kernel), by decide, ?_, ?_, h, ?_, ?_, ?_⟩ <;> decide +kernel

theorem wit_identityIsRead_2 :
    let c := cmd 0x0803 [0x4000, 11]; let s := sC c; let cert (i : Nat) := Config.certificate i
    let l := leBytes 4 (cert 0).length ++ cert 0 ++ (leBytes 4 (cert 1).length ++ cert 1) ++ (leBytes 4 (cert 2).length ++ cert 2)
    begun s.dev 21 0x0803 c ∧ c.p 1 < l.length := by
  refine ⟨begun_of (by decide +kernel), ?_⟩
  have h : (cmd 0x0803 [0x4000, 11]).p 1 = 11 := by decide +kernel
  simp only [h, List.length_append]
  have h4 (n : Nat) : (leBytes 4 n).length = 4 := by simp [leBytes]
  rw [h4, h4, h4]; omega
/-- With certificates of at most 4,096 bytes. -/
theorem wit_identityIsRead_3 (hc : ∀ i < 3, (Config.certificate i).length ≤ 4096) :
    let c := cmd 0x0803 [0x4000, 12300]; let s := sC c; let cert (i : Nat) := Config.certificate i
    let l := leBytes 4 (cert 0).length ++ cert 0 ++ (leBytes 4 (cert 1).length ++ cert 1) ++ (leBytes 4 (cert 2).length ++ cert 2)
    begun s.dev 21 0x0803 c ∧ l.length ≤ c.p 1 := by
  refine ⟨begun_of (by decide +kernel), ?_⟩
  have h : (cmd 0x0803 [0x4000, 12300]).p 1 = 12300 := by decide +kernel
  have h0 := hc 0 (by omega); have h1 := hc 1 (by omega); have h2 := hc 2 (by omega)
  simp only [h, List.length_append]
  have h4 (n : Nat) : (leBytes 4 n).length = 4 := by simp [leBytes]
  rw [h4, h4, h4]; omega

/-- An authorisation for all of this module's stacks. -/
def autS (d : Dev) : State :=
  sC (cmd 0x0804 [0x4000, 4096]) ([(0, [0x41, 0x58, 1, 0, 1]), (8, [0x77]), (48, [0, 0, 0, 0x10]), (52, [1])].foldl (fun d x => d.hostWrite (0x4000 + x.1) x.2) d)
/-- It names another nonce. -/
theorem wit_authoritiesAndFusesAdvance_2 :
    let s := autS { cold with fw := { nonce := [1] } }; let c := cmd 0x0804 [0x4000, 4096]; let l := s.dev.hostRead (c.p 0) 4096
    begun s.dev 21 0x0804 c ∧ c.p 1 = 4096 ∧ leAt l 0 2 = 0x5841 ∧ leAt l 2 2 = 1 ∧ leAt l 4 4 ≤ 1 ∧ 1 ≤ leAt l 48 4 ∧ leAt l 48 4 ≤ 2 ^ 28 ∧
    s.dev.authGood l = false := by
  have h : (sliceB ((autS { cold with fw := { nonce := [1] } }).dev.hostRead ((cmd 0x0804 [0x4000, 4096]).p 0) 4096) 16 32 ==
    (autS { cold with fw := { nonce := [1] } }).dev.nonceBytes) = false := by decide +kernel
  have hg : (autS { cold with fw := { nonce := [1] } }).dev.authGood
      ((autS { cold with fw := { nonce := [1] } }).dev.hostRead ((cmd 0x0804 [0x4000, 4096]).p 0) 4096) = false := by
    simp only [Dev.authGood, h, Bool.and_false, Bool.false_and]
  refine ⟨begun_of (by decide +kernel), ?_, ?_, ?_, ?_, ?_, ?_, hg⟩ <;> decide +kernel
/-- If the serial number is 0x77 and the signature verifies. -/
theorem wit_authoritiesAndFusesAdvance_3 (hn : Config.serial = 0x77)
    (hs : Config.signed (sliceB ((autS cold).dev.hostRead 0x4000 4096) 0 3712) (sliceB ((autS cold).dev.hostRead 0x4000 4096) 64 (leAt ((autS cold).dev.hostRead 0x4000 4096) 52 2))
      (sliceB ((autS cold).dev.hostRead 0x4000 4096) 3712 384) 5 = true) :
    let s := autS cold; let c := cmd 0x0804 [0x4000, 4096]; let l := s.dev.hostRead (c.p 0) 4096
    begun s.dev 21 0x0804 c ∧ c.p 1 = 4096 ∧ leAt l 0 2 = 0x5841 ∧ leAt l 2 2 = 1 ∧ leAt l 4 4 ≤ 1 ∧ 1 ≤ leAt l 48 4 ∧ leAt l 48 4 ≤ 2 ^ 28 ∧
    s.dev.authGood l = true := by
  have hp : (cmd 0x0804 [0x4000, 4096]).p 0 = 0x4000 := by decide +kernel
  have h1 : leAt ((autS cold).dev.hostRead 0x4000 4096) 8 8 = 0x77 := by decide +kernel
  have h2 : sliceB ((autS cold).dev.hostRead 0x4000 4096) 16 32 = (autS cold).dev.nonceBytes := by decide +kernel
  have h3 : 1 ≤ leAt ((autS cold).dev.hostRead 0x4000 4096) 52 2 ∧ leAt ((autS cold).dev.hostRead 0x4000 4096) 52 2 ≤ 2048 := by decide +kernel
  have hg : (autS cold).dev.authGood ((autS cold).dev.hostRead ((cmd 0x0804 [0x4000, 4096]).p 0) 4096) = true := by
    simp only [Dev.authGood, hp, hn, h1, h2, h3, hs, beq_self_eq_true, decide_true, Bool.and_true]
    decide
  refine ⟨begun_of (by decide +kernel), ?_, ?_, ?_, ?_, ?_, ?_, hg⟩ <;> decide +kernel

/-- If a bank has a spare row. -/
theorem wit_rowsAreRepaired_1 (hb : 0 < Config.bankSpares 15 0) :
    let s := st (mk [(HF_AUTH_active, 1), (HF_AUTH_scope, 1), (MC_STATUS_state 15, 4)] (warm host)); let v : Word64 := 1
    (s.dev.ready = true ∧ s.dev.cp.d3hot = false ∧ s.dev.inBatch (MC_REPAIR_CTRL 15) = false ∧ s.dev.refusedByRun (MC_REPAIR_CTRL 15) v = false ∧
      bitAt v.toNat 0 = true ∧ bitAt v.toNat 1 = false ∧ s.dev.flag HF_AUTH_active = true ∧ bitAt (s.dev.fld HF_AUTH_scope) 0 = true ∧
      s.dev.stackState 15 = 4 ∧ s.dev.flag (MC_REPAIR_STATUS_busy 15) = false ∧ s.dev.gateOpen [24 + 15, 12 + 15 / 4] = true) ∧
    s.dev.spareLeft 15 (s.dev.repairRow 15) = true := by
  have h1 : bankOf ((st (mk [(HF_AUTH_active, 1), (HF_AUTH_scope, 1), (MC_STATUS_state 15, 4)] (warm host))).dev.repairRow 15) = 0 := by decide +kernel
  have h2 : (st (mk [(HF_AUTH_active, 1), (HF_AUTH_scope, 1), (MC_STATUS_state 15, 4)] (warm host))).dev.bankUsed 15 0 = 0 := by decide +kernel
  refine ⟨by decide +kernel, ?_⟩
  simp only [Dev.spareLeft, h1, h2, decide_eq_true_eq]; exact hb

theorem sRq_sent (n : Nat) (q : RowReq) (h : q.sent = true) :
    n ≤ (sRq (rq .read :: List.replicate n q)).dev.row.reqs.countP (·.sent) + (sRq (rq .read :: List.replicate n q)).dev.row.msgs.countP (·.sent) := by
  have hr (l : List RowReq) : (sRq l).dev.row.reqs = l := rfl
  rw [hr, List.countP_cons, List.countP_replicate, if_pos h]; omega
theorem wit_requestsAreSent_6 :
    let s := sRq (rq .read :: List.replicate 4096 (qAt 9 0x9000 8 .read))
    s.dev.findReq 3 = some (rq .read) ∧ (rq .read).sent = false ∧ (rq .read).owner = .access 4 ∧
    4096 ≤ s.dev.row.reqs.countP (·.sent) + s.dev.row.msgs.countP (·.sent) :=
  ⟨rfl, rfl, rfl, sRq_sent 4096 _ rfl⟩

/-- Each atomic, on a word of which 0 has been read. -/
theorem wit_atomicsExecute_2 : ∀ k ∈ List.range 14,
    let j : AtomJob := { job k with old := some (0, false) }; let s := sJob j; let n := if j.kind = 1 ∨ 9 ≤ j.kind ∧ j.kind ≤ 13 then 8 else 4
    let t := s.dev.readWord j.addr; let read := j.old.getD (ofLe (t.bytesAt j.addr n), t.poisonAt j.addr)
    s.dev.row.atoms.find? (fun x => x.id == 6) = some j ∧ j.reply = .remote 1 9 ∧ j.granted = true ∧
    ((s.dev.row.atoms.takeWhile fun x => x.id != 6).all fun x => x.addr / 32 != j.addr / 32) = true ∧ s.dev.held j.addr n = false ∧
    s.dev.present j.addr n = true ∧ read.2 = false := by decide +kernel

theorem wit_faultsAreClearedAndRead_0 :
    let s := sC (cmd 0x0600 [9]) (mk [(FT_SRC_STAT_active 9, 1)] cold); let t := st (mk [(FT_SRC_STAT_active 9, 1)] host)
    begun s.dev 21 0x0600 (cmd 0x0600 [9]) ∧ (cmd 0x0600 [9]).p 0 % 256 = 9 ∧ s.dev.fld (FT_SRC_STAT_active 9) = 1 ∧
    t.dev.ready = true ∧ t.dev.cp.d3hot = false ∧ t.dev.inBatch FT_CLEAR = false ∧ t.dev.fld (FT_SRC_STAT_active 9) = 1 :=
  ⟨begun_of (by decide +kernel), by decide +kernel⟩
theorem wit_faultsAreClearedAndRead_1 :
    let s := sC (cmd 0x0600 [255]); let t := st (mk [(FT_SRC_STAT_pending 255, 1)] host)
    begun s.dev 21 0x0600 (cmd 0x0600 [255]) ∧ (cmd 0x0600 [255]).p 0 % 256 = 255 ∧ s.dev.fld (FT_SRC_STAT_active 255) = 0 ∧
    t.dev.ready = true ∧ t.dev.cp.d3hot = false ∧ t.dev.inBatch FT_CLEAR = false ∧ t.dev.fld (FT_SRC_STAT_active 255) = 0 :=
  ⟨begun_of (by decide +kernel), by decide +kernel⟩

/-- Two errors of the headframe: in a check symbol, and in two data symbols. -/
theorem wit_eventsAreClassified_0_strikes : net.faults = [] ∧ ∀ es ∈ [[(33, 2)], [(0, 5)]],
    veinDecode (strikeDiff es) = .check ∨ ∃ x y, veinDecode (strikeDiff es) = .data x y := by
  refine ⟨by decide +kernel, ?_⟩
  intro es h
  simp only [List.mem_cons, List.not_mem_nil, or_false] at h
  rcases h with rfl | rfl
  · left; decide +kernel
  · right; exact ⟨0, 5, by decide +kernel⟩

theorem wit_ScalarRegisterZeroReadsZeroAndKeepsNothing_2 : ∀ row ∈ scalarTable.map (·.2.1),
    let s := sS 0 8190 row (2 ^ 38 * 6 + 2 ^ 55 + 5)
    s.dev.issues 3 0 row = true ∧ s.dev.pc 3 < 8191 ∧ wget (s.dev.instr 3) 47 43 = 0 := by decide +kernel
theorem wit_EveryStepKeepsTheCanonicalForm_0 :
    let s : State := { sS 0 8190 0 (2 ^ 43 * 5 + 2 ^ 38 * 6 + 2 ^ 55 + 0xFFFFFFF0) with pending := [.sAdd 3] }
    s.dev.Canonical ∧ (match step s with | .next t => t.dev.pc 3 == 8191 | _ => false) = true := by
  refine ⟨⟨by decide +kernel, by decide +kernel, by decide +kernel, by decide +kernel⟩, by decide +kernel⟩

/-! ### Ill-formed commands, one for each check -/

theorem test_illFormed_core_1 : ([.gridWaitResume, .instructionIssue, .sAdd, .sSub, .sMul, .sAnd, .sOr, .sXor, .sShl, .sShr, .sSra, .slt, .sltu,
    .sMin, .sMax, .li, .lih, .rdspr, .beq, .bne, .blt, .bge, .bltu, .bgeu, .jmp, .jal, .jr,
    .mrun] : List (Nat → Instr)).all (fun i => !(i 960).wf && (i 959).wf) = true := by decide +kernel
theorem test_illFormed_core_2 : ([.mcfg, .mface, .mdrain, .fadd, .fsub, .fmul, .ffma, .fmin, .fmax, .fabs, .fneg, .fcmpeq, .fcmpne, .fcmplt,
    .fcmple, .select, .frecip, .frsqrt, .fsqrt, .fexp2, .flog2, .fredadd, .fredmax, .fredmin, .rotate, .iadd, .isub,
    .imul] : List (Nat → Instr)).all (fun i => !(i 960).wf && (i 959).wf) = true := by decide +kernel
theorem test_illFormed_core_3 : ([.vAnd, .vOr, .vXor, .vShl, .vShr, .vSra, .imin, .imax, .icmpeq, .icmplt, .icmpltu, .mand, .mor, .mxor, .mnot,
    .viAdd, .viSub, .viRsub, .viMul, .viMin, .viMax, .viCmpeq, .viCmplt, .viCmple, .viAnd, .viOr, .viXor,
    .viShl] : List (Nat → Instr)).all (fun i => !(i 960).wf && (i 959).wf) = true := by decide +kernel
theorem test_illFormed_core_4 : ([.viShr, .viSra, .viMov, .cvt, .narrow, .widen, .vld, .vst, .sld, .sst, .atom, .dcopy, .ddesc, .dgather, .twait,
    .tread, .tset, .tadd, .msend, .fence, .swait, .ssig, .bar, .gwait, .gread, .trap, .halt,
    .waitLimitExpiry] : List (Nat → Instr)).all (fun i => !(i 960).wf && (i 959).wf) = true := by decide +kernel
theorem test_illFormed_units_1 : ([.railTimeout 54, .sorarnWatchdog 4, .sqTailDoorbell 64 0 0 [], .cqHeadDoorbell 64 0 0, .commandBegin 64,
    .completionPost 64, .memoryInitDone 12 0 0, .memoryInitDone 0 8 0, .memoryInitDone 0 0 11, .seamInitDone 12, .fwHandoverSwitch 5 true,
    .fwHandoverComplete 5, .cpApertureWrite 16 0, .rangingSend 6, .alignmentLoss 6 1, .alignmentLoss 0 16,
    .queuedInstructionComplete 960 .vector 0, .drainRowWrite 960 0, .drainRowWrite 0 4, .narrowAccessStart 16, .sqCtrlRun 960 0, .sqCtrlStop 960 0,
    .sqCtrlResume 960 0, .sqSrSeedWrite 960 0, .mcCtrlOffline 16 0, .stackTrainingDone 16 true, .stackChangeDone 16, .mcRepairProgram 16 0,
    .mcRepairQuery 16 0, .repairProgramDone 16, .mcInjectWrite 16 0, .cellSend 6 0 0 0, .cellSend 0 32 0 0, .cellSend 0 0 16 0,
    .cellReceive 6 0 0 (zeros 320), .cellReceive 0 32 0 (zeros 320)] : List Instr).all (fun i => !i.wf) = true := by decide +kernel
theorem test_illFormed_units_2 : ([.cellReceive 0 0 16 (zeros 320), .bellSend 6 0, .bellSend 0 15, .contourUpdate 6, .drContourArm 6 0,
    .drContourCancel 6 0, .contourCommit 6, .contourCopyDone 6, .recalStart 6 0, .recalStart 0 32, .recalSweepEnd 6 0 (List.replicate 16 ⟨0, 0,
    0⟩), .recalSweepEnd 0 32 (List.replicate 16 ⟨0, 0, 0⟩), .recalReturn 6 0, .recalReturn 0 32, .autoRecal 6 0, .autoRecal 0 32, .slopeCheck 6,
    .holdRelease 6, .laneHoldRelease 6 0, .laneHoldRelease 0 32, .colourCheckEnd 6 0 true, .colourCheckEnd 0 32 true, .drCtrlEnable 6 0,
    .laneCalDone 6 0 true, .laneCalDone 0 32 true, .loopbackStage 6 0, .drLaneRecal 6 0 0, .drLaneRecal 0 32 0, .drLaneUnquar 6 0 0,
    .drLaneUnquar 0 32 0, .drLaneDisable 6 0 0, .drLaneDisable 0 32 0, .surveyProbeSend 6 1, .surveyProbeSend 0 16, .surveyAbsentTimeout 6 0,
    .surveyAbsentTimeout 0 16] : List Instr).all (fun i => !i.wf) = true := by decide +kernel
theorem test_illFormed_units_3 : ([.portDegradedRecovery 6, .fbPlanArm 6 0, .fbPlanCancel 6 0, .planAnnounceSend 6, .planAgreementCheck 6,
    .planSwitch 6, .planFallback 6, .hfTallyWrite 65536 0, .hfMboxConsWrite 1024 0, .hfMboxCtrlWrite 1024 0, .ceGroupValid 4096 0,
    .heartbeatMiss 49, .suspectSend 16, .voteLapse 16 0, .voteLapse 0 16, .canaryVerdict 16, .verdictAnnounceFallback 16, .graceExpiry 40,
    .thermalStepDown 40, .thermalStepUp 40, .criticalStretchEnd 40,
    .coalescingTimeExpiry 64] : List Instr).all (fun i => !i.wf) = true := by decide +kernel
theorem test_illFormed_accesses : ([.bar2Read 0 0, .bar2Read (2 ^ 36) 1, .bar2Write 0 [] false, .bar2Write (2 ^ 36 - 1) [1, 2] true, .cellReceive 0 0 0 (zeros 319),
    .recalSweepEnd 0 0 [], .online 0 [1056] true, .marginSample [] (List.replicate 96 0), .marginSample (List.replicate 12 0) [], .sensorSample [⟨40, 0, 1, 0⟩],
    .sensorSample [⟨0, 32, 1, 0⟩], .bootStageEnd { rep with straps := [] }, .bootStageEnd { rep with failedCores := [1056] }] : List Instr).all (fun i => !i.wf) = true := by
  decide +kernel

/-- A strike on a word that is not there, or on no symbol of it, is none. -/
theorem test_strikesStrikeWords : ([⟨.register 960 0, [(0, 1)]⟩, ⟨.memory 0, [(36, 1)]⟩, ⟨.headframe, [(0, 0)]⟩, ⟨.headframe, [(0, 16)]⟩] :
    List Strike).all (fun x => !strikeOk x) = true := by decide +kernel

/-! ### The spec's own examples and tabled values -/

/-- A command in front of the queue runs on the queue's rest. -/
theorem test_step_takesTheFront : (step ⟨[.tmCtrlEnable 0, .railStepDone], host⟩ = exec (.tmCtrlEnable 0) ⟨[.railStepDone], host⟩) := rfl

/-- Table 3-6: 1.0, 3.1415927, 500.0 and 0.001. -/
theorem test_conversions : [0x3F800000, 0x40490FDB, 0x43FA0000, 0x3A83126F].map (fun w : Word32 =>
      [bf16F, fp16F, e4m3F, e5m2F].map fun f => encodeF f false none (fpRead w)) =
    [[0x3F80, 0x3C00, 0x38, 0x3C], [0x4049, 0x4248, 0x45, 0x42], [0x43FA, 0x5FD0, 0x7E, 0x60], [0x3A83, 0x1419, 0, 0x14]] := by decide +kernel
/-- Table 3-7, and the last entry of Table 3-6's third row. -/
theorem test_conversionBounds :
    ([0x43E60000, 0x43EB0000, 0x3C7DF3B6, 0xBC4985F0].map (fun w : Word32 => encodeF e4m3F false none (fpRead w)),
     [0x43FA0000, 0x43EB0000].map (fun w : Word32 => encodeF e4m3F true none (fpRead w)),
     [false, true].map (fun o => encodeF e5m2F o none (fpRead 0x4788B800)),
     [false, true].map (fun o => encodeInt 8 o none (fpRead 0x4348B333)), encodeInt 8 false none .nan) =
    ([0x7E, 0x7E, 0x08, 0x80], [0x7F, 0x7F], [0x7B, 0x7C], [0x7F, 0xC9], 0) := by decide +kernel
/-- Chapter 3, one FP4 block. -/
theorem test_fp4Block :
    let xs := [0x42200000, 0xC1500000, 0x40400000, 0x3F666666, 0xC0200000].map fpRead
    mxScale .fp4 false xs = 0x82 ∧ xs.map (mxElem .fp4 0x82 none) = [6, 0xB, 0, 0, 8] := by decide +kernel
/-- Chapter 4, one FP32 product. -/
theorem test_fp32Product :
    let a := bf16Split 0x3EAAAAAB; let b := bf16Split 0x40400000; let v (c : Nat) := decodeF bf16F c
    a = (0x3EAB, 0xBA2B) ∧ b = (0x4040, 0) ∧
    accAdd (accAdd (accAdd 0 (groupSum [(v a.1, v b.2)])) (groupSum [(v a.2, v b.1)])) (groupSum [(v a.1, v b.1)]) = 0x3F7FFFC0 := by decide +kernel
/-- Chapter 6, the address 0x0031_2345_6780 in both modes. -/
theorem test_hbmPlacement : host.hbmPlace 0x3123456780 = none ∧
    let d := mk ((List.range 16).map fun k => (MC_STATUS_state k, 2)) host
    d.hbmPlace 0x3123456780 = some (6, 0x048D15780) ∧ (mk [(HF_HBM_MODE_mode, 1)] d).hbmPlace 0x3123456780 = some (7, 0x312345780) := by decide +kernel
/-- Chapter 6, a word of the vein code and the correction of one symbol. -/
theorem test_veinCode : cleanCheck 3 = 0x06A5 ∧ dataCol 0 = ⟨1, 2, 0, 4⟩ ∧ syndrome (symbolDiff 5 9) = ⟨9, 0xA, 0, 3⟩ ∧
    veinDecode (symbolDiff 5 9) = .data 5 9 ∧ veinDecode poisonMark = .poisoned := by decide +kernel
/-- FIPS 180-4 gives this digest of the three letters abc. -/
theorem test_sha256 : ofLe ((sha256 [0x61, 0x62, 0x63]).reverse) = 0xBA7816BF8F01CFEA414140DE5DAE2223B00361A396177A9CB410FF61F20015AD := by decide +kernel
/-- Chapter 0, the block of drift YB. -/
theorem test_driftBlock : DR_CTRL_enable 3 = ⟨0x01300000, (DR_CTRL_enable 0).hi, (DR_CTRL_enable 0).lo⟩ := by decide +kernel
theorem wit_maskedWritesTouchSelectedLanesOnly_0 : 255 < 256 := by decide

end Sys2Proof.Tests
end

/-! ### Scalar operations on s0 -/

namespace Sys2Proof.Machine

/-- A write to s0 leaves the whole core as it was (R154). -/
@[simp] theorem Core.setS_zero (c : Core) (v : Word64) : c.setS 0 v = c := rfl

/-- A change of core k that leaves core k as it was leaves every core as it was. -/
theorem Dev.core_modCore_of_fixed (d : Dev) (k j : Nat) (f : Core → Core) (h : f (d.core k) = d.core k) :
    (d.modCore k f).core j = d.core j := by
  by_cases hj : j = k
  · rw [hj, Dev.core_modCore_same, h]
  · exact Dev.core_modCore_other d hj f

/-- Below the last index going on changes no core: a scalar result leaves the cores as the write of sd does. -/
theorem Dev.scalarResult_core (d : Dev) (k hi : Nat) (v : Word64) (hp : d.pc k < 8191) (j : Nat) :
    (d.scalarResult k hi v).core j = (d.modCore k fun c => c.setS (regField (d.instr k) hi) v).core j :=
  Dev.core_congr (Dev.goTo_cores _ k (d.pc k + 1) (by omega)) j

/-- A scalar result to s0 leaves every core as it was. -/
theorem Dev.scalarResult_s0_core (d : Dev) (k hi : Nat) (v : Word64) (hp : d.pc k < 8191)
    (h0 : regField (d.instr k) hi = 0) (j : Nat) : (d.scalarResult k hi v).core j = d.core j := by
  rw [Dev.scalarResult_core d k hi v hp, h0]
  exact Dev.core_modCore_of_fixed d k j _ (Core.setS_zero _ v)

/-- An issued scalar operation gives its function's value of sa and operand b as a scalar result to sd. -/
theorem Dev.alu_of_issues (d : Dev) (k op : Nat) (f : Word64 → Word64 → Word64) (h : d.issues k 0 op = true) :
    d.alu k op f =
      d.scalarResult k 47 (f ((d.core k).sreg (regField (d.instr k) 42)) (scalarB (d.core k) (d.instr k))) :=
  if_pos h

/-- Every command of Table 5-6 with a result is the scalar operation of its op field, by some function of two values. -/
theorem exec_scalarTable : ∀ row ∈ scalarTable, ∃ f : Word64 → Word64 → Word64, ∀ (k : Nat) (s : State),
    exec (row.1 k) s = s.act fun d => d.alu k row.2.1 f := by
  simp only [scalarTable, List.forall_mem_cons]
  exact ⟨⟨_, fun _ _ => rfl⟩, ⟨_, fun _ _ => rfl⟩, ⟨_, fun _ _ => rfl⟩, ⟨_, fun _ _ => rfl⟩, ⟨_, fun _ _ => rfl⟩,
    ⟨_, fun _ _ => rfl⟩, ⟨_, fun _ _ => rfl⟩, ⟨_, fun _ _ => rfl⟩, ⟨_, fun _ _ => rfl⟩, ⟨_, fun _ _ => rfl⟩,
    ⟨_, fun _ _ => rfl⟩, ⟨_, fun _ _ => rfl⟩, ⟨_, fun _ _ => rfl⟩, ⟨_, fun _ _ => rfl⟩, List.forall_mem_nil _⟩

/-- A scalar operation that issues below the last index with destination s0 leaves every core as it was (R154). -/
theorem scalar_operation_to_s0_keeps_cores {row : (Nat → Instr) × Nat × (Word64 → Word64 → Word64)}
    (hrow : row ∈ scalarTable) (k : Nat) (s : State) (hi : s.dev.issues k 0 row.2.1 = true)
    (hp : s.dev.pc k < 8191) (h0 : wget (s.dev.instr k) 47 43 = 0) :
    Does (row.1 k) s fun d => ∀ j, d.core j = s.dev.core j := by
  obtain ⟨f, hf⟩ := exec_scalarTable row hrow
  refine ⟨s.dev.alu k row.2.1 f, hf k s, fun j => ?_⟩
  rw [Dev.alu_of_issues s.dev k row.2.1 f hi]
  exact Dev.scalarResult_s0_core s.dev k 47 _ hp h0 j

/-- Settles O52: a write to s0 changes no core, and every scalar operation ends in a write of its destination. -/
theorem scalarRegisterZeroReadsZeroAndKeepsNothing : Obligations.ScalarRegisterZeroReadsZeroAndKeepsNothing :=
  ⟨Core.sreg_zero, fun c v i => by rw [Core.setS_zero],
    fun _ hrow k s hi hp h0 => scalar_operation_to_s0_keeps_cores hrow k s hi hp h0⟩

end Sys2Proof.Machine

/-! ### Receive buffers and received cells -/

namespace Sys2Proof.Machine

/-- Only the counts of freed receive buffers may differ. -/
def onlyFreed (d e : Dev) : Prop := e = { d with net := { d.net with freed := e.net.freed } }

theorem onlyFreed_refl (d : Dev) : onlyFreed d d := rfl

theorem onlyFreed.trans {d e f : Dev} (h : onlyFreed d e) (h' : onlyFreed e f) : onlyFreed d f := by
  unfold onlyFreed at *; rw [h', h]

theorem onlyFreed_freeBuf (d : Dev) (p y : Nat) (cage : Bool) : onlyFreed d (d.freeBuf p y cage) := rfl

theorem onlyFreed_freeRx (d : Dev) (r : RxCell) : onlyFreed d (d.freeRx r) := by
  unfold Dev.freeRx
  split
  · exact onlyFreed_freeBuf d r.port r.cell.hopSrc (r.lane == 30)
  · exact onlyFreed_refl d

/-- Freeing the buffers of an assembly changes nothing but the counts of freed buffers. -/
theorem onlyFreed_freeBufs (bufs : List (Nat × Nat × Bool)) (d : Dev) :
    onlyFreed d (bufs.foldl (fun d b => d.freeBuf b.1 b.2.1 b.2.2) d) := by
  induction bufs generalizing d with
  | nil => exact onlyFreed_refl d
  | cons b t ih => exact (onlyFreed_freeBuf d b.1 b.2.1 b.2.2).trans (ih _)

/-- Freeing a buffer raises the count of its partner and lanes by one, and no other count. -/
theorem Dev.cntGet_freeBuf (d : Dev) (p y : Nat) (cage : Bool) (k : Nat) :
    cntGet (d.freeBuf p y cage).net.freed k = cntGet d.net.freed k + if bufKey p y cage = k then 1 else 0 := by
  show smGet _ (smPut _ d.net.freed (bufKey p y cage) _) k = _
  rw [smGet_smPut]
  by_cases hk : k = bufKey p y cage
  · subst hk; rw [if_pos rfl, if_pos rfl]
  · rw [if_neg hk, if_neg (Ne.symm hk)]; rfl

/-- Freeing the buffers of an assembly raises each count by the number of its buffers there. -/
theorem cntGet_freeBufs (bufs : List (Nat × Nat × Bool)) (k : Nat) (d : Dev) :
    cntGet (bufs.foldl (fun d b => d.freeBuf b.1 b.2.1 b.2.2) d).net.freed k =
      cntGet d.net.freed k + bufs.countP fun b => bufKey b.1 b.2.1 b.2.2 == k := by
  induction bufs generalizing d with
  | nil => rfl
  | cons b t ih =>
    rw [List.foldl_cons, ih, Dev.cntGet_freeBuf, List.countP_cons]
    simp only [beq_iff_eq]
    omega

/-- A dropped cell leaves the list of received cells, and nothing else changes but the counts of freed buffers. -/
theorem Dev.dropRx_onlyFreed (d : Dev) (r : RxCell) : onlyFreed (d.takeRx r) (d.dropRx r) := by
  unfold Dev.dropRx
  split
  · exact onlyFreed_freeRx _ r
  · exact onlyFreed_refl _

@[simp] theorem Dev.dropRx_regs (d : Dev) (r : RxCell) : (d.dropRx r).regs = d.regs := by
  rw [d.dropRx_onlyFreed r]; rfl
@[simp] theorem Dev.dropRx_row (d : Dev) (r : RxCell) : (d.dropRx r).row = d.row := by
  rw [d.dropRx_onlyFreed r]; rfl
@[simp] theorem Dev.dropRx_ram (d : Dev) (r : RxCell) : (d.dropRx r).ram = d.ram := by
  rw [d.dropRx_onlyFreed r]; rfl
@[simp] theorem Dev.dropRx_cores (d : Dev) (r : RxCell) : (d.dropRx r).cores = d.cores := by
  rw [d.dropRx_onlyFreed r]; rfl
@[simp] theorem Dev.dropRx_rx (d : Dev) (r : RxCell) : (d.dropRx r).net.rx = d.net.rx.filter (·.id != r.id) := by
  rw [d.dropRx_onlyFreed r]; rfl

/-- A received cell carries the name it is found by. -/
theorem Dev.rxCell_id {d : Dev} {rx : Nat} {r : RxCell} (h : d.rxCell rx = some r) : r.id = rx := by
  simpa using List.find?_some h

/-- A dropped cell is received no more. -/
theorem Dev.rxCell_dropRx_same {d : Dev} {rx : Nat} {r : RxCell} (h : d.rxCell rx = some r) :
    (d.dropRx r).rxCell rx = none := by
  unfold Dev.rxCell
  rw [Dev.dropRx_rx, Dev.rxCell_id h]
  simp

/-- A step on a received cell that it accepts. -/
theorem Dev.onRx_of_accepted {d : Dev} {rx : Nat} {r : RxCell} {p : Cell → Bool} (f : Dev → RxCell → Dev)
    (h : d.rxCell rx = some r) (hp : p r.cell = true) : d.onRx rx p f = f d r := by
  simp [Dev.onRx, h, hp]

/-! ### Late replies (R336) -/

/-- A saturating count, read back: raised, up to the top of its field. -/
theorem Dev.fld_countSat_same (d : Dev) (f : Fld) (n : Nat) (h : f.lo ≤ f.hi) (hn : f.hi < 64) :
    (d.countSat f n).fld f = min (d.fld f + n) (2 ^ (f.hi + 1 - f.lo) - 1) := by
  have hpos : 0 < 2 ^ (f.hi + 1 - f.lo) := by positivity
  unfold Dev.countSat satAdd
  rw [Dev.fld_setFld_same d f _ h hn]
  split
  · rw [Nat.mod_eq_of_lt ‹_›]; omega
  · rw [Nat.mod_eq_of_lt (by omega)]; omega

/-- A count changes no register but its own. -/
theorem Dev.regsBut_countSat (d : Dev) (f : Fld) (n : Nat) : regsBut [f.off] d (d.countSat f n) := fun _ ho =>
  Dev.reg_setFld_other d (by simpa using ho) _

/-- What is left of a reply that comes late: the cell is gone, HF_ROW_CNT.late is raised, and nothing that the reply could have
ended has changed. -/
theorem Dev.discard_late_reply {d : Dev} {rx : Nat} {r : RxCell} (h : d.rxCell rx = some r) :
    ((d.dropRx r).countSat HF_ROW_CNT_late 1).fld HF_ROW_CNT_late = min (d.fld HF_ROW_CNT_late + 1) (2 ^ 16 - 1) ∧
    regsBut [HF_ROW_CNT] d ((d.dropRx r).countSat HF_ROW_CNT_late 1) ∧
    ((d.dropRx r).countSat HF_ROW_CNT_late 1).row = d.row ∧ ((d.dropRx r).countSat HF_ROW_CNT_late 1).ram = d.ram ∧
    ((d.dropRx r).countSat HF_ROW_CNT_late 1).cores = d.cores ∧
    ((d.dropRx r).countSat HF_ROW_CNT_late 1).rxCell rx = none := by
  refine ⟨?_, fun off ho => ?_, Dev.dropRx_row d r, Dev.dropRx_ram d r, Dev.dropRx_cores d r, Dev.rxCell_dropRx_same h⟩
  · rw [Dev.fld_countSat_same _ HF_ROW_CNT_late 1 (by decide) (by decide), Dev.fld_congr (Dev.dropRx_regs d r)]
    rfl
  · rw [Dev.regsBut_countSat _ HF_ROW_CNT_late 1 off ho, Dev.reg_congr (Dev.dropRx_regs d r)]

/-- Every reply to a row request accepts the cells of its class and type, and answers the request that they are for. -/
theorem exec_rowReply {rx cls t : Nat} {c : Instr}
    (h : (c, cls, t) ∈ [(.readData rx, 0, 8), (.writeAck rx, 0, 9), (.atomicReply rx, 1, 0xA), (.rowRefusal rx, 0, 0xF),
      (.rowRefusal rx, 1, 0xF)]) :
    ∃ p kind f, (∀ x : Cell, x.cls = cls → x.rowType = t → p x = true) ∧
      ∀ s, exec c s = s.act fun d => d.onReply rx p kind f := by
  simp only [List.mem_cons, List.not_mem_nil, or_false, Prod.mk.injEq] at h
  rcases h with ⟨rfl, rfl, rfl⟩ | ⟨rfl, rfl, rfl⟩ | ⟨rfl, rfl, rfl⟩ | ⟨rfl, rfl, rfl⟩ | ⟨rfl, rfl, rfl⟩ <;>
    exact ⟨_, _, _, fun x hc ht => by simp [isRow, hc, ht], fun _ => rfl⟩

/-- A reply for which no request is outstanding is late. -/
theorem Dev.onReply_of_late {d : Dev} {rx : Nat} {r : RxCell} {p : Cell → Bool} (kind : ReqKind → Bool)
    (f : Dev → RowReq → Cell → Dev) (h : d.rxCell rx = some r) (hp : p r.cell = true)
    (hn : ∀ q ∈ d.row.reqs, ¬ (q.sent = true ∧ q.seq = r.cell.seq ∧ d.memberFid q.member = r.cell.src)) :
    d.onReply rx p kind f = (d.dropRx r).countSat HF_ROW_CNT_late 1 := by
  have hm : ∀ x, (d.dropRx r).memberFid x = d.memberFid x := fun x => by
    unfold Dev.memberFid Dev.fid; rw [Dev.fld_congr (Dev.dropRx_regs d r)]
  have hf : (d.dropRx r).reqFor r.cell kind = none := by
    unfold Dev.reqFor
    rw [Dev.dropRx_row, List.find?_eq_none]
    intro q hq hit
    simp only [Bool.and_eq_true, beq_iff_eq, hm] at hit
    obtain ⟨⟨⟨⟨hs, hseq⟩, hsrc⟩, -⟩, -⟩ := hit
    exact hn q hq ⟨hs, hseq, hsrc⟩
  unfold Dev.onReply
  rw [Dev.onRx_of_accepted _ h hp]
  simp only [hf]

/-- Every reply to a message ends the message that its cell is for. -/
theorem exec_messageReply {rx t : Nat} {c : Instr} (h : (c, t) ∈ [(.messageAccepted rx, 8), (.messageRefused rx, 0xF)]) :
    ∃ reason, ∀ s, exec c s = s.act fun d => d.onMsgReply rx t reason := by
  simp only [List.mem_cons, List.not_mem_nil, or_false, Prod.mk.injEq] at h
  rcases h with ⟨rfl, rfl⟩ | ⟨rfl, rfl⟩ <;> exact ⟨_, fun _ => rfl⟩

/-- A reply for which no message is outstanding is late. -/
theorem Dev.onMsgReply_of_late {d : Dev} {rx t : Nat} {r : RxCell} (reason : Cell → Nat) (h : requested d rx r 2 t)
    (hn : ∀ m ∈ d.row.msgs, ¬ (m.sent = true ∧ m.seq = r.cell.seq ∧ m.dst = r.cell.src ∧ m.mailbox = r.cell.msgMailbox)) :
    d.onMsgReply rx t reason = (d.dropRx r).countSat HF_ROW_CNT_late 1 := by
  obtain ⟨hrx, hcls, ht⟩ := h
  have hp : isMsg t r.cell = true := by simp [isMsg, Cell.msgType, hcls, ht]
  have hf : (d.dropRx r).msgFor r.cell = none := by
    unfold Dev.msgFor
    rw [Dev.dropRx_row, List.find?_eq_none]
    intro m hm hit
    simp only [Bool.and_eq_true, beq_iff_eq] at hit
    obtain ⟨⟨⟨hs, hseq⟩, hdst⟩, hmb⟩ := hit
    exact hn m hm ⟨hs, hseq, hdst, hmb⟩
  unfold Dev.onMsgReply
  rw [Dev.onRx_of_accepted _ hrx hp]
  simp only [hf]

/-- Settles O54: with nothing outstanding that it answers, each reply only drops its cell and is counted. -/
theorem lateRepliesAreDiscardedAndCounted : Obligations.LateRepliesAreDiscardedAndCounted := by
  refine ⟨fun rx cls t c s r hc hreq hn => ?_, fun rx t c s r hc hreq hn => ?_⟩
  · obtain ⟨p, kind, f, hp, hexec⟩ := exec_rowReply hc
    obtain ⟨hrx, hcls, ht⟩ := hreq
    refine ⟨_, ?_, Dev.discard_late_reply hrx⟩
    rw [hexec, act_eq, Dev.onReply_of_late kind f hrx (hp _ hcls ht) hn]
  · obtain ⟨reason, hexec⟩ := exec_messageReply hc
    refine ⟨_, ?_, Dev.discard_late_reply hreq.1⟩
    rw [hexec, act_eq, Dev.onMsgReply_of_late reason hreq hn]

/-! ### Messages being received (R332) -/

/-- The assembly that the first cell of a message starts: it keeps the frame in which the cell arrived, the time limit in force
now, and the cell's part and buffer. -/
def Dev.firstAssembly (d : Dev) (r : RxCell) : Assembly :=
  { id := d.nextId, src := r.cell.src, mailbox := r.cell.msgMailbox, seq := r.cell.seq, last := r.cell.msgLast,
    first := r.frame, limit := d.fld HF_ROW_TIMEOUT_msg,
    parts := [(r.cell.msgIndex, sliceB r.cell.payload 0 r.cell.len, r.cell.msgPoison)],
    bufs := [(r.port, r.cell.hopSrc, r.lane == 30)] }

/-- The first cell of a message of several cells starts an assembly. -/
theorem exec_messageData_of_first {rx : Nat} {s : State} {r : RxCell} (h : requested s.dev rx r 2 0)
    (hlast : 0 < r.cell.msgLast) (hi : r.cell.msgIndex ≤ r.cell.msgLast)
    (hn : ∀ a ∈ s.dev.row.asm, ¬ (a.src = r.cell.src ∧ a.mailbox = r.cell.msgMailbox ∧ a.seq = r.cell.seq)) :
    exec (.messageData rx) s = .next { s with dev := { (s.dev.takeRx r).bump with row := { s.dev.row with
      asm := s.dev.row.asm.filter (·.id != s.dev.nextId) ++ [s.dev.firstAssembly r] } } } := by
  obtain ⟨hrx, hcls, ht⟩ := h
  have hp : isMsg 0 r.cell = true := by simp [isMsg, Cell.msgType, hcls, ht]
  have hold : (s.dev.row.asm.find? fun a =>
      a.src == r.cell.src && a.mailbox == r.cell.msgMailbox && a.seq == r.cell.seq) = none := by
    rw [List.find?_eq_none]
    intro a ha hit
    simp only [Bool.and_eq_true, beq_iff_eq] at hit
    exact hn a ha ⟨hit.1.1, hit.1.2, hit.2⟩
  show execMessageData rx s = _
  unfold execMessageData
  rw [act_eq, Dev.onRx_of_accepted _ hrx hp]
  have hopen : ¬ ([] ++ [(r.cell.msgIndex, sliceB r.cell.payload 0 r.cell.len, r.cell.msgPoison)]).length =
      r.cell.msgLast + 1 := by simp; omega
  simp only [hold]
  rw [if_neg (by simpa using hi), if_neg hopen]
  rfl

/-- An assembly that is dropped is gone, and nothing else changes but the counts of freed buffers. -/
theorem Dev.dropAsm_onlyFreed (d : Dev) (a : Assembly) :
    onlyFreed { d with row := { d.row with asm := d.row.asm.filter (·.id != a.id) } } (d.dropAsm a) :=
  onlyFreed_freeBufs a.bufs _

/-- Dropping an assembly frees each of its buffers once. -/
theorem Dev.cntGet_dropAsm (d : Dev) (a : Assembly) (k : Nat) :
    cntGet (d.dropAsm a).net.freed k = cntGet d.net.freed k + a.bufs.countP fun b => bufKey b.1 b.2.1 b.2.2 == k :=
  cntGet_freeBufs a.bufs k _

/-- The timeout of an assembly drops it when its time has passed, and does nothing before. -/
theorem exec_messageAssemblyTimeout {id : Nat} {s : State} {a : Assembly}
    (h : s.dev.row.asm.find? (fun x => x.id == id) = some a) :
    exec (.messageAssemblyTimeout id) s =
      .next { s with dev := if a.first + a.limit ≤ s.dev.frame then s.dev.dropAsm a else s.dev } := by
  show execMessageAssemblyTimeout id s = _
  unfold execMessageAssemblyTimeout
  rw [act_eq, h]

/-- Settles O55: the first cell starts the assembly with its frame of arrival and the limit, and the timeout drops it. -/
theorem incompleteMessagesAreDiscarded : Obligations.IncompleteMessagesAreDiscarded := by
  refine ⟨fun rx s r h hlast hi hn => ?_, fun id s a ha => ⟨fun hdue => ?_, fun hwait => ?_⟩⟩
  · exact ⟨_, exec_messageData_of_first h hlast hi hn, s.dev.firstAssembly r,
      List.mem_append_right _ (List.mem_singleton_self _), rfl, rfl, rfl, rfl⟩
  · have hid : a.id = id := by simpa using List.find?_some ha
    refine ⟨s.dev.dropAsm a, by rw [exec_messageAssemblyTimeout ha, if_pos hdue], ?_, ?_, ?_, ?_, ?_, fun p y cage =>
      s.dev.cntGet_dropAsm a _⟩ <;> rw [s.dev.dropAsm_onlyFreed a]
    · intro x hx
      have := (List.mem_filter.mp hx).2
      simpa [hid] using this
    all_goals rfl
  · show exec _ s = _
    rw [exec_messageAssemblyTimeout ha, if_neg (by omega)]

/-! ### Reading a word leaves the rows, the queues of cells and the low registers (R212, R214, R215) -/

/-- The device with another state of row memory.  Reading a word neither reads nor changes it: the lemmas below push it
outward, and are stated as rewrites, not as definitional equations, so that no proof compares whole devices. -/
def Dev.withRow (d : Dev) (x : RowSt) : Dev := { d with row := x }

section
variable (d : Dev) (x : RowSt)

@[simp] theorem Dev.withRow_ram : (d.withRow x).ram = d.ram := (rfl)
@[simp] theorem Dev.withRow_fld (f : Fld) : (d.withRow x).fld f = d.fld f := (rfl)
@[simp] theorem Dev.withRow_flag (f : Fld) : (d.withRow x).flag f = d.flag f := (rfl)
@[simp] theorem Dev.withRow_place (a : Nat) : (d.withRow x).place a = d.place a := (rfl)
@[simp] theorem Dev.withRow_chkAt (k : Nat) : (d.withRow x).chkAt k = d.chkAt k := (rfl)
@[simp] theorem Dev.withRow_coldest (s : Nat) : (d.withRow x).coldest s = d.coldest s := (rfl)
@[simp] theorem Dev.setFld_withRow (f : Fld) (v : Nat) : (d.withRow x).setFld f v = (d.setFld f v).withRow x := (rfl)
@[simp] theorem Dev.countSat_withRow (f : Fld) (n : Nat) : (d.withRow x).countSat f n = (d.countSat f n).withRow x := (rfl)
@[simp] theorem Dev.raise_withRow (src level d0 d1 : Nat) :
    (d.withRow x).raise src level d0 d1 = (d.raise src level d0 d1).withRow x := (rfl)
@[simp] theorem Dev.setChk_withRow (k : Nat) (c : BitVec 16) : (d.withRow x).setChk k c = (d.setChk k c).withRow x := (rfl)
@[simp] theorem Dev.flipSymbol_withRow (k i v : Nat) : (d.withRow x).flipSymbol k i v = (d.flipSymbol k i v).withRow x := (rfl)

@[simp] theorem Dev.hotEnter_withRow (s a : Nat) : (d.withRow x).hotEnter s a = (d.hotEnter s a).withRow x := by
  unfold Dev.hotEnter
  simp only [Dev.withRow_fld, Dev.withRow_flag]
  split <;> simp

@[simp] theorem Dev.countCorrected_withRow (u : MemUnit) (a : Nat) :
    (d.withRow x).countCorrected u a = (d.countCorrected u a).withRow x := by cases u <;> simp [Dev.countCorrected]

@[simp] theorem Dev.countBad_withRow (u : MemUnit) (a : Nat) :
    (d.withRow x).countBad u a = (d.countBad u a).withRow x := by cases u <;> simp [Dev.countBad]

@[simp] theorem Dev.scrubWord_withRow (a : Nat) : (d.withRow x).scrubWord a = (d.scrubWord a).withRow x := by
  unfold Dev.scrubWord
  rw [Dev.withRow_place]
  cases d.place a with
  | none => rfl
  | some p =>
    simp only [Dev.withRow_chkAt]
    cases veinDecode (d.chkAt p.key) <;> simp

end

/-- What reading a word over the link changes: the flit of the word, the words in flight, and the events raised. -/
theorem Dev.linkWord_eq (d : Dev) (a : Nat) : ∃ flits inFlight faults, d.linkWord a =
    { d with ram := { d.ram with flits := flits, inFlight := inFlight }, faults := faults } := by
  unfold Dev.linkWord
  split
  · dsimp only
    split <;> exact ⟨_, _, _, rfl⟩
  · exact ⟨_, _, _, rfl⟩

theorem Dev.linkWord_withRow (d : Dev) (x : RowSt) (a : Nat) : (d.withRow x).linkWord a = (d.linkWord a).withRow x := by
  have setRam (r : Ram) : { d.withRow x with ram := r } = Dev.withRow { d with ram := r } x := rfl
  unfold Dev.linkWord
  rw [Dev.withRow_place]
  split
  · simp only [Dev.withRow_ram, setRam]
    split <;> rfl
  · rfl

/-- Reading a word commutes with a change of the row-memory state. -/
theorem Dev.readWord_withRow (d : Dev) (x : RowSt) (a : Nat) : (d.withRow x).readWord a = (d.readWord a).withRow x := by
  unfold Dev.readWord
  rw [Dev.scrubWord_withRow, Dev.linkWord_withRow]

/-! #### The queues of cells -/

@[simp] theorem Dev.hotEnter_net (d : Dev) (s a : Nat) : (d.hotEnter s a).net = d.net := by
  unfold Dev.hotEnter; split <;> rfl

@[simp] theorem Dev.countCorrected_net (d : Dev) (u : MemUnit) (a : Nat) : (d.countCorrected u a).net = d.net := by
  cases u <;> simp [Dev.countCorrected]

@[simp] theorem Dev.countBad_net (d : Dev) (u : MemUnit) (a : Nat) : (d.countBad u a).net = d.net := by
  cases u <;> simp [Dev.countBad]

@[simp] theorem Dev.scrubWord_net (d : Dev) (a : Nat) : (d.scrubWord a).net = d.net := by
  unfold Dev.scrubWord
  cases d.place a with
  | none => rfl
  | some p =>
    dsimp only
    cases veinDecode (d.chkAt p.key) with
    | clean => rfl
    | poisoned => rfl
    | data i v => rw [Dev.countCorrected_net]; rfl
    | check => rw [Dev.countCorrected_net]; rfl
    | bad => rw [Dev.countBad_net]; rfl

@[simp] theorem Dev.readWord_net (d : Dev) (a : Nat) : (d.readWord a).net = d.net := by
  obtain ⟨flits, inFlight, faults, h⟩ := (d.scrubWord a).linkWord_eq a
  unfold Dev.readWord
  rw [h]
  exact Dev.scrubWord_net d a

/-! #### Registers below the memory controllers: reading a word counts in MC_, SQ_SEAM_VEIN and SQ_CORE_VEIN registers only -/

theorem Dev.reg_setFld_low (d : Dev) {f : Fld} {off : Nat} (h : off < 0x2000000) (hf : 0x2000000 ≤ f.off) (v : Nat) :
    (d.setFld f v).reg off = d.reg off := Dev.reg_setFld_other d (by omega) v

theorem Dev.reg_countSat_low (d : Dev) {f : Fld} {off : Nat} (h : off < 0x2000000) (hf : 0x2000000 ≤ f.off) (n : Nat) :
    (d.countSat f n).reg off = d.reg off := Dev.reg_setFld_low d h hf _

theorem Dev.reg_raise (d : Dev) (src level d0 d1 off : Nat) : (d.raise src level d0 d1).reg off = d.reg off := rfl

theorem MC_HOT_off_ge (s k : Nat) : 0x2000000 ≤ MC_HOT s k := by unfold MC_HOT; omega
theorem MC_VEIN_COUNT_off_ge (s : Nat) : 0x2000000 ≤ MC_VEIN_COUNT s := by unfold MC_VEIN_COUNT; omega
theorem MC_VEIN_LAST_off_ge (s : Nat) : 0x2000000 ≤ MC_VEIN_LAST s := by unfold MC_VEIN_LAST; omega
theorem SQ_SEAM_VEIN_off_ge (n : Nat) : 0x2000000 ≤ SQ_SEAM_VEIN n := by unfold SQ_SEAM_VEIN; omega
theorem SQ_CORE_VEIN_off_ge (n : Nat) : 0x2000000 ≤ SQ_CORE_VEIN n := by unfold SQ_CORE_VEIN; omega

theorem Dev.hotEnter_reg_low (d : Dev) (s a : Nat) {off : Nat} (h : off < 0x2000000) : (d.hotEnter s a).reg off = d.reg off := by
  unfold Dev.hotEnter
  split
  · exact Dev.reg_countSat_low d h (MC_HOT_off_ge s _) 1
  · rw [Dev.reg_setFld_low _ h (MC_HOT_off_ge s _), Dev.reg_setFld_low _ h (MC_HOT_off_ge s _),
      Dev.reg_setFld_low _ h (MC_HOT_off_ge s _)]

theorem Dev.countCorrected_reg_low (d : Dev) (u : MemUnit) (a : Nat) {off : Nat} (h : off < 0x2000000) :
    (d.countCorrected u a).reg off = d.reg off := by
  unfold Dev.countCorrected
  cases u with
  | hbm s =>
    dsimp only
    rw [Dev.reg_raise, Dev.hotEnter_reg_low _ s a h, Dev.reg_setFld_low _ h (MC_VEIN_LAST_off_ge s),
      Dev.reg_setFld_low _ h (MC_VEIN_LAST_off_ge s), Dev.reg_countSat_low _ h (MC_VEIN_COUNT_off_ge s)]
  | seam n => exact Dev.reg_countSat_low d h (SQ_SEAM_VEIN_off_ge n) 1
  | scratch k => exact Dev.reg_countSat_low d h (SQ_CORE_VEIN_off_ge _) 1
  | cluster n c => exact Dev.reg_countSat_low d h (SQ_CORE_VEIN_off_ge n) 1

theorem Dev.countBad_reg_low (d : Dev) (u : MemUnit) (a : Nat) {off : Nat} (h : off < 0x2000000) :
    (d.countBad u a).reg off = d.reg off := by
  unfold Dev.countBad
  cases u with
  | hbm s =>
    dsimp only
    rw [Dev.reg_raise, Dev.reg_setFld_low _ h (MC_VEIN_LAST_off_ge s), Dev.reg_setFld_low _ h (MC_VEIN_LAST_off_ge s),
      Dev.reg_countSat_low _ h (MC_VEIN_COUNT_off_ge s)]
  | seam n => exact Dev.reg_countSat_low d h (SQ_SEAM_VEIN_off_ge n) 1
  | scratch k => exact Dev.reg_countSat_low d h (SQ_CORE_VEIN_off_ge _) 1
  | cluster n c => exact Dev.reg_countSat_low d h (SQ_CORE_VEIN_off_ge n) 1

theorem Dev.scrubWord_reg_low (d : Dev) (a : Nat) {off : Nat} (h : off < 0x2000000) : (d.scrubWord a).reg off = d.reg off := by
  unfold Dev.scrubWord
  cases d.place a with
  | none => rfl
  | some p =>
    dsimp only
    cases veinDecode (d.chkAt p.key) with
    | clean => rfl
    | poisoned => rfl
    | data i v => rw [Dev.countCorrected_reg_low _ _ _ h]; rfl
    | check => rw [Dev.countCorrected_reg_low _ _ _ h]; rfl
    | bad => rw [Dev.countBad_reg_low _ _ _ h]; rfl

theorem Dev.readWord_reg_low (d : Dev) (a : Nat) {off : Nat} (h : off < 0x2000000) : (d.readWord a).reg off = d.reg off := by
  obtain ⟨flits, inFlight, faults, he⟩ := (d.scrubWord a).linkWord_eq a
  unfold Dev.readWord
  rw [he]
  exact Dev.scrubWord_reg_low d a h

/-- A cell originated after a word was read is the one originated before it: the read changes neither FB_ID nor FB_EPOCH. -/
theorem Dev.newCell_readWord (d : Dev) (a cls op seq dst : Nat) (l : List Byte) (len acct : Nat) :
    (d.readWord a).newCell cls op seq dst l len acct = d.newCell cls op seq dst l len acct := by
  have hv : (d.readWord a).version = d.version := by
    unfold Dev.version Dev.fld; rw [Dev.readWord_reg_low d a (by decide)]
  have hf : (d.readWord a).fid = d.fid := by
    unfold Dev.fid Dev.fld; rw [Dev.readWord_reg_low d a (by decide)]
  unfold Dev.newCell
  rw [hv, hf]

/-! #### A word that stands poisoned -/

theorem veinDecode_poisonMark : veinDecode poisonMark = .poisoned := by decide

/-- Reading a word that stands poisoned changes no stored byte and no check bits: the decoder passes it on as it is (R214). -/
theorem Dev.readWord_of_poisoned {d : Dev} {a : Nat} {p : Place} (hp : d.place a = some p) (hc : d.chkAt p.key = poisonMark) :
    (d.readWord a).ram.cells = d.ram.cells ∧ (d.readWord a).ram.chk = d.ram.chk := by
  have hs : d.scrubWord a = d := by simp only [Dev.scrubWord, hp, hc, veinDecode_poisonMark]
  obtain ⟨flits, inFlight, faults, he⟩ := d.linkWord_eq a
  unfold Dev.readWord
  rw [hs, he]
  exact ⟨rfl, rfl⟩

/-! ### Atomics on poisoned words (R325) -/

/-! #### An access that ends changes no memory -/

@[simp] theorem Dev.completeLocal_ram (d : Dev) (c : Cmd) (reason w0 w1 w2 : Nat) (p : Bool) :
    (d.completeLocal c reason w0 w1 w2 p).ram = d.ram := by
  unfold Dev.completeLocal
  cases c.origin <;> rfl

@[simp] theorem Dev.event_ram (d : Dev) (kind w1 w2 : Nat) : (d.event kind w1 w2).ram = d.ram := by
  unfold Dev.event
  split
  · exact Dev.completeLocal_ram d _ _ _ _ _ _
  · split <;> rfl

@[simp] theorem Dev.trapWith_ram (d : Dev) (k code queue pc reason addr swcode : Nat) :
    (d.trapWith k code queue pc reason addr swcode).ram = d.ram := by
  unfold Dev.trapWith
  split
  · rfl
  · rw [Dev.event_ram]; rfl

@[simp] theorem Dev.goTo_ram (d : Dev) (k n : Nat) : (d.goTo k n).ram = d.ram := by
  unfold Dev.goTo
  split
  · exact Dev.trapWith_ram d _ _ _ _ _ _ _
  · rfl

@[simp] theorem Dev.finishEntry_ram (d : Dev) (k q uid : Nat) : (d.finishEntry k q uid).ram = d.ram := rfl

/-- An access that ends writes registers of its core or traps, and changes no memory. -/
theorem Dev.endAccess_ram (d : Dev) (a : Access) : (d.endAccess a).ram = d.ram := by
  unfold Dev.endAccess
  cases firstFail a.fails with
  | some r => simp only [apply_ite Dev.ram, Dev.finishEntry_ram, Dev.trapWith_ram, Dev.modCore_ram, ite_self]
  | none =>
    simp only [apply_ite Dev.ram, Dev.finishEntry_ram, Dev.trap, Dev.trapWith_ram, Dev.advance, Dev.goTo_ram, Dev.modCore_ram,
      ite_self]

theorem Dev.accessAnswer_ram (d : Dev) (id off : Nat) (x : Reply) : (d.accessAnswer id off x).ram = d.ram := by
  unfold Dev.accessAnswer
  extract_lets e
  have he : e.ram = d.ram := rfl
  split
  · split
    · exact he
    · rw [Dev.endAccess_ram, he]
  · exact he

/-- A request that is answered with an old value changes no memory: no copy takes such an answer. -/
theorem Dev.answer_old_ram (d : Dev) (r : RowReq) (v : Nat) (p : Bool) : (d.answer r (.old v p)).ram = d.ram := by
  unfold Dev.answer
  cases r.owner with
  | access id => exact Dev.accessAnswer_ram _ id r.off _
  | copyRead id =>
    dsimp only
    cases (d.dropReq r.id).findCopy id <;> rfl
  | copyWrite id => rfl

/-- The answer of an atomic changes no memory. -/
theorem Dev.atomAnswer_old_ram (d : Dev) (j : AtomJob) (v : Nat) (p : Bool) : (d.atomAnswer j (.old v p)).ram = d.ram := by
  unfold Dev.atomAnswer
  cases j.reply with
  | access id => exact Dev.accessAnswer_ram d id 0 _
  | own id =>
    dsimp only
    cases d.findReq id with
    | some r => exact Dev.answer_old_ram d r v p
    | none => rfl
  | remote src seq => rfl

/-! #### The answer to another member -/

theorem Dev.markHeads_cells (d : Dev) (seen : List ((Nat × Nat) × Bool × Bool × Bool)) (ws : List Waiting) :
    (d.markHeads seen ws).map Waiting.cell = ws.map Waiting.cell := by
  induction ws generalizing seen with
  | nil => rfl
  | cons w t ih =>
    have hm : (if w.headAt.isNone then { w with headAt := some d.frame } else w : Waiting).cell = w.cell := by split <;> rfl
    unfold Dev.markHeads
    dsimp only
    split
    · rw [List.map_cons, List.map_cons, hm, ih]
    · split
      · rw [List.map_cons, List.map_cons, ih]
      · rw [List.map_cons, List.map_cons, hm, ih]

/-- A cell put in the queues waits behind the others. -/
theorem waitingCells_enqueueCell (d : Dev) (c : Cell) (transit : Option (Nat × Nat × Bool)) (cage : Bool) (twin : Option Nat) :
    waitingCells (d.enqueueCell c transit cage twin) = waitingCells d ++ [c] := by
  unfold Dev.enqueueCell waitingCells
  rw [Dev.markHeads_cells, List.map_append]
  rfl

/-- An atomic of another member is answered with one cell, which carries the old value and its poison. -/
theorem waitingCells_atomAnswer_remote (d : Dev) {j : AtomJob} {src seq : Nat} (h : j.reply = .remote src seq) (v : Nat) (p : Bool) :
    waitingCells (d.atomAnswer j (.old v p)) =
      waitingCells d ++ [d.newCell 1 (rowOp 0xA j.kind (b2n p) 0) seq src (leBytes 8 v) 8 0] := by
  have hk : rowOp 0xA (bitsOf (rowOp 2 j.kind 0 0) 27 24) (b2n p) 0 = rowOp 0xA j.kind (b2n p) 0 := by
    simp only [rowOp, bitsOf, Nat.shiftRight_eq_div_pow]
    omega
  unfold Dev.atomAnswer
  rw [h, ← hk]
  exact waitingCells_enqueueCell d _ none false none

/-! #### The step -/

/-- The row-memory state without the atomic of a name. -/
def RowSt.dropAtom (x : RowSt) (slot : Nat) : RowSt := { x with atoms := x.atoms.filter (·.id != slot) }

/-- What an atomic has read: the value and poison taken when its access started, otherwise those of its word now. -/
def Dev.atomOld (d : Dev) (j : AtomJob) : Nat × Bool :=
  j.old.getD (ofLe ((d.readWord j.addr).bytesAt j.addr (atomSize j.kind)), (d.readWord j.addr).poisonAt j.addr)

/-- An atomic in its turn that has read a poisoned word writes nothing: it leaves the unit, its word has been read, and it
answers. -/
theorem exec_atomicExecute_of_poisoned {slot : Nat} {s : State} {j : AtomJob}
    (hj : s.dev.row.atoms.find? (fun x => x.id == slot) = some j) (hg : j.granted = true)
    (hturn : ((s.dev.row.atoms.takeWhile fun x => x.id != slot).all fun x => x.addr / 32 != j.addr / 32) = true)
    (hheld : s.dev.held j.addr (atomSize j.kind) = false) (hpres : s.dev.present j.addr (atomSize j.kind) = true)
    (hbad : (s.dev.atomOld j).2 = true) :
    Makes (.atomicExecute slot) s
      (((s.dev.readWord j.addr).withRow (s.dev.row.dropAtom slot)).atomAnswer j (.old (s.dev.atomOld j).1 true)) := by
  obtain ⟨pending, d⟩ := s
  have hid : j.id = slot := by simpa using List.find?_some hj
  have hbehind : d.atomBehind j = false := by
    unfold Dev.atomBehind
    rw [hid, List.any_eq_false]
    intro x hx
    simpa using List.all_eq_true.mp hturn x hx
  have hread : Dev.readWord { d with row := { d.row with atoms := d.row.atoms.filter (·.id != slot) } } j.addr =
      (d.readWord j.addr).withRow (d.row.dropAtom slot) := Dev.readWord_withRow d _ j.addr
  have hold : j.old.getD (((d.readWord j.addr).withRow (d.row.dropAtom slot)).atomRead j.addr (atomSize j.kind)) =
      d.atomOld j := rfl
  show execAtomicExecute slot _ = _
  unfold execAtomicExecute
  rw [act_eq, hj]
  dsimp only at hg hheld hpres hbad ⊢
  rw [if_neg (by simp [hg, hbehind, hheld]), if_neg (by change ¬ (!d.present _ _) = true; simp [hpres]), hread, hold,
    if_pos hbad, hbad]

/-- Settles O53: an atomic that has read a poisoned word only answers, with the old value marked poisoned. -/
theorem atomicsOnPoisonedWordsLeaveMemory : Obligations.AtomicsOnPoisonedWordsLeaveMemory := by
  intro slot s j hj hg hturn n t read hheld hpres hbad
  refine ⟨_, exec_atomicExecute_of_poisoned hj hg hturn hheld hpres hbad, ?_, fun p hp hc => ?_, rfl, fun src seq hr => ?_⟩
  · exact Dev.atomAnswer_old_ram _ j _ true
  · rw [Dev.atomAnswer_old_ram]
    exact Dev.readWord_of_poisoned hp hc
  · rw [waitingCells_atomAnswer_remote _ hr]
    show waitingCells (s.dev.readWord j.addr) ++ [(s.dev.readWord j.addr).newCell _ _ _ _ _ _ _] = _
    rw [Dev.newCell_readWord, waitingCells, Dev.readWord_net]
    rfl

end Sys2Proof.Machine

/-! ### The end of a command -/

namespace Sys2Proof.Machine

/-- The step of an opcode, on a command that stands begun with that opcode. -/
theorem Dev.onCmd_of_begun {d : Dev} {id op : Nat} {c : Cmd} (f : Dev → Cmd → Dev) (h : begun d id op c) :
    d.onCmd id op f = f d c := by
  obtain ⟨hfind, hop, hphase⟩ := h
  simp [Dev.onCmd, hfind, hop, hphase]

/-- A command that completes, on its queue, at another member or in silence, changes only registers, the command processor
and the bell records that wait. -/
theorem Dev.complete_frame (d : Dev) (c : Cmd) (reason w0 w1 w2 : Nat) (p : Bool) :
    d.complete c reason w0 w1 w2 p =
      { d with regs := (d.complete c reason w0 w1 w2 p).regs, cp := (d.complete c reason w0 w1 w2 p).cp,
               net := (d.complete c reason w0 w1 w2 p).net } := by
  unfold Dev.complete
  cases c.origin with
  | remote src seq =>
    dsimp only [Dev.bellVia]
    split <;> rfl
  | _ =>
    dsimp only [Dev.completeLocal]
    split <;> rfl

@[simp] theorem Dev.complete_ft (d : Dev) (c : Cmd) (reason w0 w1 w2 : Nat) (p : Bool) :
    (d.complete c reason w0 w1 w2 p).ft = d.ft := by
  rw [Dev.complete_frame]

@[simp] theorem Dev.complete_host (d : Dev) (c : Cmd) (reason w0 w1 w2 : Nat) (p : Bool) :
    (d.complete c reason w0 w1 w2 p).host = d.host := by
  rw [Dev.complete_frame]

/-- A command of a queue pair leaves its completion behind those that wait (R395). -/
theorem Dev.complete_cpls_of_queue (d : Dev) {c : Cmd} {q : Nat} (h : c.origin = .queue q) (reason w0 w1 w2 : Nat) (p : Bool) :
    (d.complete c reason w0 w1 w2 p).cp.cpls =
      d.cp.cpls ++ [⟨q, c.tag, reason, w0 % 2 ^ 32, w1 % 2 ^ 32, w2 % 2 ^ 32, p, c.noIrq⟩] := by
  simp only [Dev.complete, Dev.completeLocal, h, Dev.countSat_cp]
  rfl

/-! ### The fault log (R426) -/

/-- The device once the oldest n records of the log have gone to host memory at an address: they are read, and the count of
those lost starts again. -/
def Dev.takeLog (d : Dev) (a n : Nat) : Dev :=
  ((d.hostWrite a (d.ft.log.take n).flatten).modFt fun f => { f with log := f.log.drop n, lost := 0 }).setFld
    FT_LOG_STAT_unread (d.ft.log.drop n).length

@[simp] theorem Dev.takeLog_ft (d : Dev) (a n : Nat) :
    (d.takeLog a n).ft = { d.ft with log := d.ft.log.drop n, lost := 0 } := rfl

@[simp] theorem Dev.takeLog_host (d : Dev) (a n : Nat) :
    (d.takeLog a n).host = (d.hostWrite a (d.ft.log.take n).flatten).host := rfl

@[simp] theorem Dev.takeLog_cp (d : Dev) (a n : Nat) : (d.takeLog a n).cp = d.cp := rfl

/-- A FAULT_LOG_READ of a length that is no multiple of 32 from 32 to 32,768 only completes, with BAD_LENGTH. -/
theorem exec_faultLogRead_of_bad_length {id : Nat} {s : State} {c : Cmd} (h : begun s.dev id 0x0601 c)
    (hlen : c.p 1 % 32 ≠ 0 ∨ c.p 1 < 32 ∨ 32768 < c.p 1) :
    Makes (.faultLogRead id) s (s.dev.complete c BAD_LENGTH) := by
  show execFaultLogRead id s = _
  rw [execFaultLogRead, act_eq, Dev.onCmd_of_begun _ h]
  dsimp only
  rw [if_pos (by omega)]

/-- A FAULT_LOG_READ of a right length takes as many of the oldest records as fit, and completes with the numbers of records
written and lost. -/
theorem exec_faultLogRead_of_right_length {id : Nat} {s : State} {c : Cmd} (h : begun s.dev id 0x0601 c)
    (hmod : c.p 1 % 32 = 0) (hlo : 32 ≤ c.p 1) (hhi : c.p 1 ≤ 32768) :
    Makes (.faultLogRead id) s ((s.dev.takeLog (c.p 0) (c.p 1 / 32)).complete c OK
      (s.dev.ft.log.take (c.p 1 / 32)).length s.dev.ft.lost) := by
  show execFaultLogRead id s = _
  rw [execFaultLogRead, act_eq, Dev.onCmd_of_begun _ h]
  dsimp only
  rw [if_neg (by omega)]
  rfl

/-- While fewer than 1,024 records are unread a new one is put behind them, and none is lost. -/
theorem Dev.addLog_ft_of_room {d : Dev} (r : List Byte) (h : d.ft.log.length < 1024) :
    (d.addLog r).ft = { d.ft with log := d.ft.log ++ [r] } := by
  simp [Dev.addLog, Nat.not_le.mpr h]

/-- A record that finds 1,024 unread ones takes the place of the oldest, which is counted as lost. -/
theorem Dev.addLog_ft_of_full {d : Dev} (r : List Byte) (h : 1024 ≤ d.ft.log.length) :
    (d.addLog r).ft = { d.ft with log := d.ft.log.drop 1 ++ [r], lost := min (d.ft.lost + 1) 0xFFFFFFFF } := by
  simp [Dev.addLog, h]

/-- Settles O56: the length decides between BAD_LENGTH and taking the oldest records, and a full log loses its oldest record
for a new one. -/
theorem faultLogReadsTakeTheOldestRecords : Obligations.FaultLogReadsTakeTheOldestRecords := by
  refine ⟨fun id s c hc => ⟨exec_faultLogRead_of_bad_length hc, fun hmod hlo hhi =>
    ⟨_, exec_faultLogRead_of_right_length hc hmod hlo hhi, ?_, ?_, ?_, fun q hq => ?_⟩⟩, fun d r => ⟨fun hroom => ?_, fun hfull => ?_⟩⟩
  · rw [Dev.complete_ft, Dev.takeLog_ft]
  · rw [Dev.complete_ft, Dev.takeLog_ft]
  · rw [Dev.complete_host, Dev.takeLog_host]
  · rw [Dev.complete_cpls_of_queue _ hq, Dev.takeLog_cp]
    rfl
  · simp [Dev.addLog_ft_of_room r hroom]
  · simp [Dev.addLog_ft_of_full r hfull]

end Sys2Proof.Machine
